-- ==== Sys2Proof/Word.lean ====
section
/-! DEFINITION. The word types of the module: 64-bit registers (R14), bytes, 512-byte vectors, and the sparse map that
memories, register files and indexed units are kept in. -/

namespace Sys2Proof

/-- A register or a scalar: 64 bits, little-endian (R14). -/
abbrev Word := BitVec 64

/-- One byte. -/
abbrev Byte := BitVec 8

/-- A vector register: 512 bytes, lane `i` of 32 bits in bits [32i+31:32i] (R83). -/
abbrev Vec := BitVec 4096

/-- Sparse data by key: pairs in one canonical form, keys strictly rising, no value equal to what an unlisted key
reads as. -/
abbrev SMap (α : Type) := List (Nat × α)

/-- Bytes by address. -/
abbrev Mem := SMap Byte

end Sys2Proof
end

