-- ==== Sys2Proof/Syntax.lean ====
section
/-! DEFINITION. The commands of the module, one constructor per row of the opcode table, and the data they carry. -/

namespace Sys2Proof

/-- A core position: its compute die and its physical position (R82, R119). -/
structure CoreRef where
  die : Fin 4
  pos : Fin 9
  deriving DecidableEq, Repr

/-- The three other slots of the bundle a slot instruction stands in, in the order S, V, M, X without its own (R122). -/
structure Others where
  a : BitVec 64
  b : BitVec 64
  c : BitVec 64
  deriving DecidableEq, Repr

/-- Width of a steward access in bytes (R21, R496). -/
inductive AccessSize where
  | b1 | b2 | b4 | b8
  deriving DecidableEq, Repr

/-- A request message: the operation descriptor of R316 and its data. `aop` and `operand` are its AUX of an ATOMIC, with
the compare value of CAS; `aux` is AUX otherwise. -/
structure Req where
  af : Bool
  ck : BitVec 2
  outing : BitVec 10
  stream : BitVec 12
  cairn : BitVec 12
  seq : BitVec 32
  length : BitVec 32
  address : BitVec 64
  aux : BitVec 64
  aop : BitVec 4
  operand : BitVec 64
  compare : BitVec 64
  data : List Byte
  deriving DecidableEq, Repr

/-- Operation codes of the table "Operation codes" (R316), in code order from 0x01. -/
inductive Opc where
  | load8 | load512 | store8 | store512 | atomic | cairnAdd | copyRead | copyWrite | msg | redc | attnSegment
  deriving DecidableEq, Repr

/-- STATUS of a response word (R317), in code order. -/
inductive RespStatus where
  | done | refused | hold | dead | dataError
  deriving DecidableEq, Repr

/-- A response message (R317): the stream it returns to, SEQ, STATUS, refusal code, congestion mark, returned data. -/
structure Resp where
  stream : BitVec 12
  seq : BitVec 32
  status : RespStatus
  code : BitVec 8
  mark : Bool
  data : List Byte
  deriving DecidableEq, Repr

/-- A partial record (R170): segment, FLAGS, PAGES_SKIPPED, TOKENS, and row records m :: l :: o. -/
structure PartialMsg where
  segment : BitVec 12
  flags : BitVec 4
  skipped : BitVec 32
  tokens : BitVec 64
  rows : List (List (BitVec 32))
  deriving DecidableEq, Repr

/-- A reduction context of a landing, or a gateway stage (R239, R250). -/
inductive RedTarget where
  | context (site : Fin 4) (n : Fin 64)
  | stage (n : Fin 256)
  deriving DecidableEq, Repr

/-- A Casob port: the site of its die and its number there (R311). -/
structure PortRef where
  site : Fin 14
  port : Fin 32
  deriving DecidableEq, Repr

/-- A ring: its site, plane, end and index (R258). -/
structure RingRef where
  site : Fin 16
  plane : Fin 40
  landing : Bool
  index : Fin 16
  deriving DecidableEq, Repr

/-- A message the Spur sends (R336): channel, SITES, TAG, OPC, descriptor, flits, and the response word of a RESP. -/
structure SpurMsg where
  vc : BitVec 2
  sites : BitVec 16
  tag : BitVec 12
  opc : BitVec 8
  flits : BitVec 8
  req : Req
  resp : Resp
  deriving DecidableEq, Repr

/-- A clock region: its die as R378 numbers it, and its number there (R366). -/
structure RegionRef where
  die : Fin 14
  region : Fin 17
  deriving DecidableEq, Repr

/-- An address written: by a hart, or with none by the host (R464, R491). -/
structure WriteAt where
  hart : Option (Fin 16)
  addr : BitVec 48
  deriving DecidableEq, Repr

/-- The end of a phase of start-up: the present temperature in quarter degrees, and the loop tests that failed in phase 4 (R289). -/
structure PhaseEnd where
  temp : Int
  failed : List (Fin 16 × Fin 40)
  deriving DecidableEq, Repr

/-- A flit on a pod link, and its copy on the other line set while two are lit (R302). -/
structure LinkFlit where
  sent : BitVec 1024
  copy : Option (BitVec 1024)
  deriving DecidableEq, Repr

/-- A unit that reports: its number on its die, and a value that it has just shown and that the manual does not list, with its
register's address (R7, R418). -/
structure Reporter where
  unit : BitVec 8
  fault : Option (BitVec 48 × BitVec 64)
  deriving DecidableEq, Repr

/-- The management port's link, and its RS-FEC (R463, R481). -/
structure LinkState where
  up : Bool
  fec : Bool
  deriving DecidableEq, Repr

/-- What a message between modules carries: a request, a response, or an attention partial (R316, R317, R387). -/
inductive PodBody where
  | request (opc : Opc) (completion : Bool) (r : Req)
  | response (r : Resp)
  | part (stream : BitVec 12) (p : PartialMsg)
  deriving DecidableEq, Repr

/-- A message between modules: its route word (R388) and what it carries. -/
structure PodMsg where
  src : Fin 64
  dst : Fin 64
  site : Fin 16
  mseq : BitVec 16
  tag : BitVec 12
  outing : BitVec 10
  body : PodBody
  deriving DecidableEq, Repr

/-- What a fabric-manager command writes at a member (R407, R410, R411, R412, R450). -/
inductive FabricCmd where
  | stage (n : Fin 64) (route : BitVec 64)
  | identity (device : Fin 64) (layout : Fin 4) (full : Bool)
  | joined (device : Fin 64)
  | alive (device : Fin 64)
  | emptyWindows (device : Fin 64)
  | summits (summit standby : Fin 64)
  | reserve (o : Fin 256) (share : BitVec 6)
  | coreOuting (c : CoreRef) (o : BitVec 10)
  | granule (stack : Fin 8) (n : Fin 90) (o : BitVec 10)
  | outing (o : Fin 256) (st : Fin 4)
  | ring (broken : Bool)
  | wake
  deriving DecidableEq, Repr

/-- Who sent a management frame, and its transaction number (R480, R484). -/
structure FrameHead where
  mac : BitVec 48
  xid : BitVec 32
  deriving DecidableEq, Repr


/-- The commands of the module: one constructor per row of the opcode table. -/
inductive Instr where
  /-- REGISTER_WRITE (R17). -/
  | registerWrite (addr : WriteAt) (size : AccessSize) (v : BitVec 64)
  /-- REGISTER_ACCESS_TIMEOUT (R493). -/
  | registerAccessTimeout (hart : Fin 16) (addr : BitVec 48) (write : Bool)
  /-- NOP (R124). -/
  | nop (c : CoreRef) (o : Others) (slot : Fin 4)
  /-- HALT (R148). -/
  | halt (c : CoreRef) (o : Others)
  /-- ADD (R131). -/
  | add (c : CoreRef) (o : Others) (rd ra rb : BitVec 6)
  /-- SUB (R131). -/
  | sub (c : CoreRef) (o : Others) (rd ra rb : BitVec 6)
  /-- AND (R131). -/
  | and (c : CoreRef) (o : Others) (rd ra rb : BitVec 6)
  /-- OR (R131). -/
  | or (c : CoreRef) (o : Others) (rd ra rb : BitVec 6)
  /-- XOR (R131). -/
  | xor (c : CoreRef) (o : Others) (rd ra rb : BitVec 6)
  /-- SLL (R131). -/
  | sll (c : CoreRef) (o : Others) (rd ra rb : BitVec 6)
  /-- SRL (R131). -/
  | srl (c : CoreRef) (o : Others) (rd ra rb : BitVec 6)
  /-- SRA (R131). -/
  | sra (c : CoreRef) (o : Others) (rd ra rb : BitVec 6)
  /-- SLT (R131). -/
  | slt (c : CoreRef) (o : Others) (rd ra rb : BitVec 6)
  /-- SLTU (R131). -/
  | sltu (c : CoreRef) (o : Others) (rd ra rb : BitVec 6)
  /-- SEQ (R131). -/
  | seq (c : CoreRef) (o : Others) (rd ra rb : BitVec 6)
  /-- MIN (R131). -/
  | min (c : CoreRef) (o : Others) (rd ra rb : BitVec 6)
  /-- MAX (R131). -/
  | max (c : CoreRef) (o : Others) (rd ra rb : BitVec 6)
  /-- MINU (R131). -/
  | minu (c : CoreRef) (o : Others) (rd ra rb : BitVec 6)
  /-- MAXU (R131). -/
  | maxu (c : CoreRef) (o : Others) (rd ra rb : BitVec 6)
  /-- ADDI (R131). -/
  | addi (c : CoreRef) (o : Others) (rd ra : BitVec 6) (imm : BitVec 32)
  /-- SUBI (R131). -/
  | subi (c : CoreRef) (o : Others) (rd ra : BitVec 6) (imm : BitVec 32)
  /-- ANDI (R131). -/
  | andi (c : CoreRef) (o : Others) (rd ra : BitVec 6) (imm : BitVec 32)
  /-- ORI (R131). -/
  | ori (c : CoreRef) (o : Others) (rd ra : BitVec 6) (imm : BitVec 32)
  /-- XORI (R131). -/
  | xori (c : CoreRef) (o : Others) (rd ra : BitVec 6) (imm : BitVec 32)
  /-- SLLI (R131). -/
  | slli (c : CoreRef) (o : Others) (rd ra : BitVec 6) (imm : BitVec 32)
  /-- SRLI (R131). -/
  | srli (c : CoreRef) (o : Others) (rd ra : BitVec 6) (imm : BitVec 32)
  /-- SRAI (R131). -/
  | srai (c : CoreRef) (o : Others) (rd ra : BitVec 6) (imm : BitVec 32)
  /-- SLTI (R131). -/
  | slti (c : CoreRef) (o : Others) (rd ra : BitVec 6) (imm : BitVec 32)
  /-- SLTUI (R131). -/
  | sltui (c : CoreRef) (o : Others) (rd ra : BitVec 6) (imm : BitVec 32)
  /-- SEQI (R131). -/
  | seqi (c : CoreRef) (o : Others) (rd ra : BitVec 6) (imm : BitVec 32)
  /-- MINI (R131). -/
  | mini (c : CoreRef) (o : Others) (rd ra : BitVec 6) (imm : BitVec 32)
  /-- MAXI (R131). -/
  | maxi (c : CoreRef) (o : Others) (rd ra : BitVec 6) (imm : BitVec 32)
  /-- MINUI (R131). -/
  | minui (c : CoreRef) (o : Others) (rd ra : BitVec 6) (imm : BitVec 32)
  /-- MAXUI (R131). -/
  | maxui (c : CoreRef) (o : Others) (rd ra : BitVec 6) (imm : BitVec 32)
  /-- SETHI (R131). -/
  | sethi (c : CoreRef) (o : Others) (rd ra : BitVec 6) (imm : BitVec 32)
  /-- MUL (R131). -/
  | mul (c : CoreRef) (o : Others) (rd ra rb : BitVec 6)
  /-- MULH (R131). -/
  | mulh (c : CoreRef) (o : Others) (rd ra rb : BitVec 6)
  /-- MULHU (R131). -/
  | mulhu (c : CoreRef) (o : Others) (rd ra rb : BitVec 6)
  /-- CRR (R134). -/
  | crr (c : CoreRef) (o : Others) (rd : BitVec 6) (cr : BitVec 12)
  /-- CRW (R134). -/
  | crw (c : CoreRef) (o : Others) (ra : BitVec 6) (cr : BitVec 12)
  /-- LD (R131). -/
  | ld (c : CoreRef) (o : Others) (rd ra : BitVec 6) (imm : BitVec 32)
  /-- ST (R131). -/
  | st (c : CoreRef) (o : Others) (rd ra : BitVec 6) (imm : BitVec 32)
  /-- BEQ (R89). -/
  | beq (c : CoreRef) (o : Others) (ra rb : BitVec 6) (tgt : BitVec 15)
  /-- BNE (R89). -/
  | bne (c : CoreRef) (o : Others) (ra rb : BitVec 6) (tgt : BitVec 15)
  /-- BLT (R89). -/
  | blt (c : CoreRef) (o : Others) (ra rb : BitVec 6) (tgt : BitVec 15)
  /-- BGE (R89). -/
  | bge (c : CoreRef) (o : Others) (ra rb : BitVec 6) (tgt : BitVec 15)
  /-- BLTU (R89). -/
  | bltu (c : CoreRef) (o : Others) (ra rb : BitVec 6) (tgt : BitVec 15)
  /-- BGEU (R89). -/
  | bgeu (c : CoreRef) (o : Others) (ra rb : BitVec 6) (tgt : BitVec 15)
  /-- J (R89). -/
  | j (c : CoreRef) (o : Others) (tgt : BitVec 15)
  /-- JAL (R133). -/
  | jal (c : CoreRef) (o : Others) (rd : BitVec 6) (tgt : BitVec 15)
  /-- JR (R133). -/
  | jr (c : CoreRef) (o : Others) (ra : BitVec 6)
  /-- JALR (R133). -/
  | jalr (c : CoreRef) (o : Others) (rd ra : BitVec 6)
  /-- VADD (R137). -/
  | vadd (c : CoreRef) (o : Others) (vd va vb : BitVec 6) (pr : BitVec 4) (et : BitVec 2)
  /-- VSUB (R137). -/
  | vsub (c : CoreRef) (o : Others) (vd va vb : BitVec 6) (pr : BitVec 4) (et : BitVec 2)
  /-- VAND (R137). -/
  | vand (c : CoreRef) (o : Others) (vd va vb : BitVec 6) (pr : BitVec 4) (et : BitVec 2)
  /-- VOR (R137). -/
  | vor (c : CoreRef) (o : Others) (vd va vb : BitVec 6) (pr : BitVec 4) (et : BitVec 2)
  /-- VXOR (R137). -/
  | vxor (c : CoreRef) (o : Others) (vd va vb : BitVec 6) (pr : BitVec 4) (et : BitVec 2)
  /-- VSLL (R137). -/
  | vsll (c : CoreRef) (o : Others) (vd va vb : BitVec 6) (pr : BitVec 4) (et : BitVec 2)
  /-- VSRL (R137). -/
  | vsrl (c : CoreRef) (o : Others) (vd va vb : BitVec 6) (pr : BitVec 4) (et : BitVec 2)
  /-- VSRA (R137). -/
  | vsra (c : CoreRef) (o : Others) (vd va vb : BitVec 6) (pr : BitVec 4) (et : BitVec 2)
  /-- VMIN (R137). -/
  | vmin (c : CoreRef) (o : Others) (vd va vb : BitVec 6) (pr : BitVec 4) (et : BitVec 2)
  /-- VMAX (R137). -/
  | vmax (c : CoreRef) (o : Others) (vd va vb : BitVec 6) (pr : BitVec 4) (et : BitVec 2)
  /-- VSEL (R137). -/
  | vsel (c : CoreRef) (o : Others) (vd va vb : BitVec 6) (vc pr : BitVec 4)
  /-- VMOV (R137). -/
  | vmov (c : CoreRef) (o : Others) (vd va : BitVec 6) (pr : BitVec 4)
  /-- VBCAST (R137). -/
  | vbcast (c : CoreRef) (o : Others) (vd va : BitVec 6) (pr : BitVec 4)
  /-- VFADD (R137). -/
  | vfadd (c : CoreRef) (o : Others) (vd va vb : BitVec 6) (pr : BitVec 4) (rnd : Bool)
  /-- VFSUB (R137). -/
  | vfsub (c : CoreRef) (o : Others) (vd va vb : BitVec 6) (pr : BitVec 4) (rnd : Bool)
  /-- VFMUL (R137). -/
  | vfmul (c : CoreRef) (o : Others) (vd va vb : BitVec 6) (pr : BitVec 4) (rnd : Bool)
  /-- VFMA (R137). -/
  | vfma (c : CoreRef) (o : Others) (vd va vb vc : BitVec 6) (pr : BitVec 4) (rnd : Bool)
  /-- VFMIN (R139). -/
  | vfmin (c : CoreRef) (o : Others) (vd va vb : BitVec 6) (pr : BitVec 4)
  /-- VFMAX (R139). -/
  | vfmax (c : CoreRef) (o : Others) (vd va vb : BitVec 6) (pr : BitVec 4)
  /-- VCMPEQ (R137). -/
  | vcmpeq (c : CoreRef) (o : Others) (pd : BitVec 4) (va vb : BitVec 6)
  /-- VCMPLT (R137). -/
  | vcmplt (c : CoreRef) (o : Others) (pd : BitVec 4) (va vb : BitVec 6)
  /-- VCMPLE (R137). -/
  | vcmple (c : CoreRef) (o : Others) (pd : BitVec 4) (va vb : BitVec 6)
  /-- VFCMPEQ (R137). -/
  | vfcmpeq (c : CoreRef) (o : Others) (pd : BitVec 4) (va vb : BitVec 6)
  /-- VFCMPLT (R137). -/
  | vfcmplt (c : CoreRef) (o : Others) (pd : BitVec 4) (va vb : BitVec 6)
  /-- VFCMPLE (R137). -/
  | vfcmple (c : CoreRef) (o : Others) (pd : BitVec 4) (va vb : BitVec 6)
  /-- PAND (R137). -/
  | pand (c : CoreRef) (o : Others) (pd pa pb : BitVec 4)
  /-- POR (R137). -/
  | por (c : CoreRef) (o : Others) (pd pa pb : BitVec 4)
  /-- PXOR (R137). -/
  | pxor (c : CoreRef) (o : Others) (pd pa pb : BitVec 4)
  /-- PNOT (R137). -/
  | pnot (c : CoreRef) (o : Others) (pd pa : BitVec 4)
  /-- VCVT (R138). -/
  | vcvt (c : CoreRef) (o : Others) (vd va vb vc : BitVec 6) (pr : BitVec 4) (fd fs : BitVec 5) (rnd ovf : Bool) (part : BitVec 2)
  /-- VEXP2 (R159). -/
  | vexp2 (c : CoreRef) (o : Others) (vd va : BitVec 6) (pr : BitVec 4)
  /-- VRCP (R159). -/
  | vrcp (c : CoreRef) (o : Others) (vd va : BitVec 6) (pr : BitVec 4)
  /-- VRSQRT (R159). -/
  | vrsqrt (c : CoreRef) (o : Others) (vd va : BitVec 6) (pr : BitVec 4)
  /-- VREDSUM (R139). -/
  | vredsum (c : CoreRef) (o : Others) (vd va : BitVec 6) (pr : BitVec 4) (rnd : Bool)
  /-- VREDMAX (R139). -/
  | vredmax (c : CoreRef) (o : Others) (vd va : BitVec 6) (pr : BitVec 4)
  /-- VPERM (R137). -/
  | vperm (c : CoreRef) (o : Others) (vd va vb : BitVec 6) (pr : BitVec 4)
  /-- VTRD (R137). -/
  | vtrd (c : CoreRef) (o : Others) (vd ra : BitVec 6) (ts : BitVec 5) (half : Bool) (row : BitVec 8)
  /-- VLD (R137). -/
  | vld (c : CoreRef) (o : Others) (vd ra : BitVec 6) (pr : BitVec 4) (imm : BitVec 18)
  /-- VST (R137). -/
  | vst (c : CoreRef) (o : Others) (vd ra : BitVec 6) (pr : BitVec 4) (imm : BitVec 18)
  /-- TINIT (R95). -/
  | tinit (c : CoreRef) (o : Others) (td : BitVec 5) (tag : Bool)
  /-- MMA (R92). -/
  | mma (c : CoreRef) (o : Others) (td : BitVec 5) (ra rb : BitVec 6) (fa fb : BitVec 5) (spa : Bool)
  /-- TWR (R96). -/
  | twr (c : CoreRef) (o : Others) (ts : BitVec 5) (ra : BitVec 6) (fd : BitVec 5) (rnd ovf : Bool)
  /-- CADD (R181). -/
  | cadd (c : CoreRef) (o : Others) (rb : BitVec 6) (cn : BitVec 12) (imm : BitVec 16)
  /-- CREAD (R181). -/
  | cread (c : CoreRef) (o : Others) (rd : BitVec 6) (cn : BitVec 12)
  /-- CWAIT (R186). -/
  | cwait (c : CoreRef) (o : Others) (rb : BitVec 6) (cn : BitVec 12) (cons : Bool) (imm : BitVec 16)
  /-- CWAIT_SATISFIED (R186). -/
  | cwaitSatisfied (c : CoreRef)
  /-- CSET (R181). -/
  | cset (c : CoreRef) (o : Others) (rb : BitVec 6) (cn : BitVec 12) (imm : BitVec 16)
  /-- RCADD (R181). -/
  | rcadd (c : CoreRef) (o : Others) (ra rb : BitVec 6) (af : Bool) (imm : BitVec 16)
  /-- PLD (R97). -/
  | pld (c : CoreRef) (o : Others) (rd ra : BitVec 6) (cn : BitVec 12)
  /-- PLDV (R97). -/
  | pldv (c : CoreRef) (o : Others) (rd ra : BitVec 6) (cn : BitVec 12)
  /-- PST (R211). -/
  | pst (c : CoreRef) (o : Others) (rd ra : BitVec 6) (cn : BitVec 12)
  /-- PSTV (R211). -/
  | pstv (c : CoreRef) (o : Others) (rd ra : BitVec 6) (cn : BitVec 12)
  /-- PATOM (R146). -/
  | patom (c : CoreRef) (o : Others) (rd ra rb : BitVec 6) (cn : BitVec 12) (aop : BitVec 4)
  /-- FENCE (R216). -/
  | fence (c : CoreRef) (o : Others)
  /-- FENCE_W (R216). -/
  | fenceW (c : CoreRef) (o : Others)
  /-- FENCE_R (R216). -/
  | fenceR (c : CoreRef) (o : Others)
  /-- COPY (R231). -/
  | copy (c : CoreRef) (o : Others) (rd ra rb : BitVec 6) (cn : BitVec 12) (ch : BitVec 4) (ck : BitVec 2)
  /-- CABORT (R234). -/
  | cabort (c : CoreRef) (o : Others) (ch : BitVec 4)
  /-- CSTAT (R232). -/
  | cstat (c : CoreRef) (o : Others) (rd : BitVec 6) (ch : BitVec 4)
  /-- MSG (R211). -/
  | msg (c : CoreRef) (o : Others) (rd ra : BitVec 6) (cn : BitVec 12)
  /-- REDC (R241). -/
  | redc (c : CoreRef) (o : Others) (rd ra : BitVec 6)
  /-- ATTN (R165). -/
  | attn (c : CoreRef) (o : Others) (ra : BitVec 6) (cn : BitVec 12)
  /-- MVSV (R145). -/
  | mvsv (c : CoreRef) (o : Others) (rd ra : BitVec 6) (ln : BitVec 7)
  /-- MVVS (R145). -/
  | mvvs (c : CoreRef) (o : Others) (rd ra : BitVec 6) (ln : BitVec 7)
  /-- POD_RESULT_RETURN (R97). -/
  | podResultReturn (c : CoreRef) (seq : BitVec 32)
  /-- COPY_CLASS_BEAT (R103). -/
  | copyClassBeat (c : CoreRef) (bank : Fin 16)
  /-- FROZEN_BANK (R103). -/
  | frozenBank (c : CoreRef)
  /-- CORE_STORE_SCRUB (R107). -/
  | coreStoreScrub (c : CoreRef) (upsets : List (Fin 32 × Bool))
  /-- START (R112). -/
  | start (c : CoreRef) (startPc : BitVec 15) (clr : Bool)
  /-- STOP (R113). -/
  | stop (c : CoreRef) (startPc : BitVec 15) (start clr : Bool)
  /-- CLR_FAULT (R112). -/
  | clrFault (c : CoreRef) (startPc : BitVec 15)
  /-- STOP_DRAIN_COMPLETE (R113). -/
  | stopDrainComplete (c : CoreRef)
  /-- HALT_DRAIN_COMPLETE (R148). -/
  | haltDrainComplete (c : CoreRef)
  /-- FAULT_DRAIN_COMPLETE (R115). -/
  | faultDrainComplete (c : CoreRef)
  /-- CORE_MAP_WRITE (R120). -/
  | coreMapWrite (die : Fin 4) (v : BitVec 64)
  /-- SR_SEED_V_WRITE (R66). -/
  | srSeedVWrite (c : CoreRef) (v : BitVec 64)
  /-- SR_SEED_M_WRITE (R66). -/
  | srSeedMWrite (c : CoreRef) (v : BitVec 64)
  /-- STEWARD_IMEM_WRITE (R110). -/
  | stewardImemWrite (c : CoreRef) (bundle : BitVec 15) (slot : Fin 4) (v : BitVec 64)
  /-- STEWARD_STORE_ACCESS (R496). -/
  | stewardStoreAccess (c : CoreRef) (offset : BitVec 26) (size : AccessSize) (write : Option (BitVec 64))
  /-- STEWARD_CAIRN_ADD (R41). -/
  | stewardCairnAdd (c : CoreRef) (cn : BitVec 12) (v : BitVec 64)
  /-- PROGRAM_LOAD (R150). -/
  | programLoad (c : CoreRef) (image : List Byte) (answers : Bool)
  /-- L1_ENTRY_REQUEST (R192). -/
  | l1EntryRequest (c : CoreRef) (grant : Bool)
  /-- L1_WAKE (R193). -/
  | l1Wake (c : CoreRef)
  /-- CAIRN_CTRL_WRITE (R195). -/
  | cairnCtrlWrite (c : CoreRef) (v : BitVec 64)
  /-- WATCHDOG_FIRE (R198). -/
  | watchdogFire (c : CoreRef)
  /-- CAIRN_DUMP_GO (R200). -/
  | cairnDumpGo (c : CoreRef)
  /-- CAIRN_DUMP_COMPLETE (R200). -/
  | cairnDumpComplete (c : CoreRef)
  /-- LOAD_8 (R213). -/
  | load8 (r : Req)
  /-- LOAD_512 (R212). -/
  | load512 (r : Req)
  /-- STORE_8 (R213). -/
  | store8 (r : Req)
  /-- STORE_512 (R212). -/
  | store512 (r : Req)
  /-- ATOMIC (R223). -/
  | atomic (r : Req)
  /-- CAIRN_ADD (R182). -/
  | cairnAdd (r : Req) (completion : Bool)
  /-- COPY_READ (R231). -/
  | copyRead (r : Req)
  /-- COPY_WRITE (R231). -/
  | copyWrite (r : Req)
  /-- MSG_ARRIVAL (R211). -/
  | msgArrival (r : Req)
  /-- POD_RESPONSE (R317). -/
  | podResponse (c : CoreRef) (r : Resp)
  /-- RESPONSE_TIMER_EXPIRY (R235). -/
  | responseTimerExpiry (c : CoreRef) (seq : BitVec 32)
  /-- HOME_HOLD_TIMER (R235). -/
  | homeHoldTimer (site : Fin 16) (stream : BitVec 12) (seq : BitVec 32)
  /-- SEND_SLOT_RELEASE (R217). -/
  | sendSlotRelease (c : CoreRef)
  /-- COMBINE_WINDOW_CLOSE (R228). -/
  | combineWindowClose (line : BitVec 64)
  /-- COPY_COMPLETE (R231). -/
  | copyComplete (c : CoreRef) (ch : Fin 16)
  /-- GRANULE_OWNER_WRITE (R207). -/
  | granuleOwnerWrite (stack : Fin 8) (n : Fin 90) (v : BitVec 64)
  /-- POD_SEQ_WRITE (R226). -/
  | podSeqWrite (c : CoreRef) (v : BitVec 64)
  /-- POD_CFG_WRITE (R500). -/
  | podCfgWrite (v : BitVec 64)
  /-- STREAM_LIMIT_RAISE (R399). -/
  | streamLimitRaise (c : CoreRef)
  /-- REDC_CONTRIBUTION (R241). -/
  | redcContribution (r : Req)
  /-- REDUCTION_ROUND_DELIVERY (R247). -/
  | reductionRoundDelivery (site : Fin 4) (ctx : Fin 64) (chunk : Fin 1024)
  /-- STAGE_FORWARD (R250). -/
  | stageForward (stage : Fin 256) (chunk : Fin 1024)
  /-- REDUCTION_ARM (R254). -/
  | reductionArm (t : RedTarget) (v : BitVec 64)
  /-- REDUCTION_DISARM (R253). -/
  | reductionDisarm (t : RedTarget) (v : BitVec 64)
  /-- REDUCTION_KILL (R251). -/
  | reductionKill (t : RedTarget) (v : BitVec 64)
  /-- ATTN_SEGMENT (R169). -/
  | attnSegment (r : Req)
  /-- SEGMENT_PARTIAL_COMPLETE (R168). -/
  | segmentPartialComplete (stack : Fin 8)
  /-- PARTIAL_RECORD (R171). -/
  | partialRecord (c : CoreRef) (ctx : Fin 16) (p : PartialMsg)
  /-- ATTN_COMPLETION (R173). -/
  | attnCompletion (c : CoreRef) (ctx : Fin 16)
  /-- SADDLE_FLIT (R263). -/
  | saddleFlit (site : Fin 16) (plane : Fin 40) (lambda : Fin 16) (slot : BitVec 64) (flit : BitVec 1024)
  /-- SADDLE_REPLAY_REQUEST (R263). -/
  | saddleReplayRequest (src dst : Fin 16)
  /-- CREDIT_RETURN (R271): one credit, and how many more with it. -/
  | creditReturn (src dst : Fin 16) (cls : Fin 4) (more : Nat)
  /-- MULTICAST_RESERVE (R269). -/
  | multicastReserve (src : Fin 16) (cls : Fin 4)
  /-- IDENTITY_FLIT_DUE (R285). -/
  | identityFlitDue (site : Fin 16) (plane : Fin 40) (lambda : Fin 16)
  /-- IDLE_FLIT (R286). -/
  | idleFlit (site : Fin 16) (plane : Fin 40) (lambda : Fin 16) (flit : BitVec 1024)
  /-- IDENTITY_TIMEOUT (R286). -/
  | identityTimeout (site : Fin 16) (plane : Fin 40) (lambda : Fin 16)
  /-- PLANE_STATE_CHANGE (R262). -/
  | planeStateChange (plane : Fin 40) (st : Fin 5) (position : Fin 32) (partner : Fin 40)
  /-- LOOP_TEST_GO (R277). -/
  | loopTestGo (site : Fin 16) (v : BitVec 64)
  /-- LOOP_TEST_COMPLETE (R278). -/
  | loopTestComplete (site : Fin 16) (lit : Bool) (errors : BitVec 32) (delay : BitVec 12)
  /-- RING_SEARCH_COMPLETE (R281). -/
  | ringSearchComplete (r : RingRef) (temp : Int) (crossings : List (BitVec 16))
  /-- RING_TRACK_UPDATE (R283). -/
  | ringTrackUpdate (r : RingRef) (heater : BitVec 16) (temp : Int) (low : Bool)
  /-- RIDGE_STARTUP_PHASE (R289). -/
  | ridgeStartupPhase (phase : PhaseEnd)
  /-- CAL_RUN_START (R294). -/
  | calRunStart (id : BitVec 16) (temp : Int) (primary check : Nat)
  /-- CAL_RUN_COMPLETE (R296). -/
  | calRunComplete (id : BitVec 16) (temp : Int) (values : Option (List (BitVec 16)))
  /-- CAL_RUN_TIMEOUT (R295). -/
  | calRunTimeout (plane : Fin 40)
  /-- CAL_GAP_WRITE (R297). -/
  | calGapWrite (v : BitVec 64)
  /-- CAL_GAP_EXPIRY (R294). -/
  | calGapExpiry
  /-- OVERDUE (R294). -/
  | overdue (id : BitVec 16)
  /-- FADE_MEASUREMENT (R298). -/
  | fadeMeasurement (bay : Fin 8) (fade : BitVec 8)
  /-- HANDOVER (R301). -/
  | handover (bay : Fin 8)
  /-- WARMUP_COMPLETE (R301). -/
  | warmupComplete (bay : Fin 8)
  /-- WARMUP_TIMEOUT (R300). -/
  | warmupTimeout (bay : Fin 8)
  /-- OVERLAP_END (R303). -/
  | overlapEnd (bay : Fin 8)
  /-- LASER_SELF_TEST (R304). -/
  | laserSelfTest (bay : Fin 8) (clean : Bool)
  /-- LOSS_OF_SIGNAL (R307). -/
  | lossOfSignal (site : Fin 16) (plane : Fin 40) (lambda : Fin 16)
  /-- LASER_INSERTION (R308). -/
  | laserInsertion (bay : Fin 8)
  /-- LASER_REMOVAL (R300). -/
  | laserRemoval (bay : Fin 8)
  /-- LATCH_OPEN (R512). -/
  | latchOpen (bay : Fin 8)
  /-- CASOB_DATA_FLIT (R320). -/
  | casobDataFlit (p : PortRef) (ridge : Bool) (flit : BitVec 1024)
  /-- NAK (R320). -/
  | nak (p : PortRef) (ridge : Bool) (flit : BitVec 1024)
  /-- SYNC (R322). -/
  | sync (p : PortRef) (ridge : Bool) (flit : BitVec 1024)
  /-- REMAP (R325). -/
  | remap (p : PortRef) (ridge : Bool) (flit : BitVec 1024)
  /-- RETRAIN (R322). -/
  | retrain (p : PortRef) (ridge : Bool) (flit : BitVec 1024)
  /-- LINK_COMMAND_REPEAT (R314). -/
  | linkCommandRepeat (p : PortRef) (ridge : Bool)
  /-- CASOB_IDLE_FLIT (R319). -/
  | casobIdleFlit (p : PortRef) (ridge : Bool) (flit : BitVec 1024)
  /-- FORCED_IDLE_FLIT (R319). -/
  | forcedIdleFlit (p : PortRef) (ridge : Bool)
  /-- TRAINING_COMPLETE (R322). -/
  | trainingComplete (p : PortRef) (die ridge : BitVec 160)
  /-- TRAINING_TIMEOUT (R322). -/
  | trainingTimeout (p : PortRef)
  /-- PORT_RETRY_TIMER (R322). -/
  | portRetryTimer (p : PortRef)
  /-- CASOB_RETRAIN_WRITE (R330). -/
  | casobRetrainWrite (v : BitVec 64)
  /-- LANE_FAIL (R325). -/
  | laneFail (p : PortRef) (ridge : Bool) (lane : Fin 17)
  /-- PARTIAL_RESET (R326). -/
  | partialReset (site : Fin 14)
  /-- SPUR_RESET_RELEASE (R331). -/
  | spurResetRelease
  /-- SPUR_POWER_TRIP (R331). -/
  | spurPowerTrip
  /-- SPUR_TRAINING_DEADLINE (R331). -/
  | spurTrainingDeadline
  /-- SPUR_OUTBOUND_MESSAGE (R336). -/
  | spurOutboundMessage (m : SpurMsg)
  /-- SPUR_INBOUND_REQUEST (R337). -/
  | spurInboundRequest (tag : BitVec 12) (opc : Opc) (r : Req)
  /-- FIREWALL_RATE_RELEASE (R338). -/
  | firewallRateRelease (flits : BitVec 16)
  /-- VIA_TEST (R346). -/
  | viaTest (stack : Fin 8) (fails : Bool)
  /-- RETIRE_GO (R352). -/
  | retireGo (stack : Fin 8) (v : BitVec 64)
  /-- RETIREMENT_COMPLETE (R352). -/
  | retirementComplete (stack : Fin 8)
  /-- STACK_SCRUB (R356). -/
  | stackScrub (stack : Fin 8) (upsets : List (Fin 72))
  /-- REFRESH (R357). -/
  | refresh (stack : Fin 8) (layer : Fin 16)
  /-- LAYER_TEMPERATURE_CHECK (R359). -/
  | layerTemperatureCheck (stack : Fin 8) (sensors : List (Int × Int)) (power : List Nat) (base lid : Int)
  /-- STRESS_CORRECTION (R349). -/
  | stressCorrection (stack : Fin 8) (layer : Fin 16) (correction : Int)
  /-- MARGIN_SAMPLE (R349). -/
  | marginSample (stack : Fin 8) (layer : Fin 16) (margin : Nat)
  /-- DROOP_DETECT (R369). -/
  | droopDetect (r : RegionRef)
  /-- STRETCH_TOKEN_APPLY (R370). -/
  | stretchTokenApply (r : RegionRef)
  /-- HELD_DETECTION_RETRY (R370). -/
  | heldDetectionRetry (r : RegionRef) (fires : Bool)
  /-- COL_ALARM (R368). -/
  | colAlarm (writer reader : RegionRef) (occupancy : Fin 9)
  /-- STEP_COUNT_CHECK (R371). -/
  | stepCountCheck (die : Fin 14) (count : BitVec 64)
  /-- ROOT_STEP (R372). -/
  | rootStep
  /-- REGION_STOP (R375). -/
  | regionStop (r : Option RegionRef)
  /-- REGION_RESTART (R375). -/
  | regionRestart (r : Option RegionRef)
  /-- CLK_POINT_WRITE (R379). -/
  | clkPointWrite (v : BitVec 64)
  /-- MARGIN_WARNING (R376). -/
  | marginWarning (r : RegionRef) (margin : BitVec 8)
  /-- MARGIN_WARNING_CLEAR (R376). -/
  | marginWarningClear (r : RegionRef) (margin : BitVec 8)
  /-- MARGIN_LOWER_STEP (R377). -/
  | marginLowerStep (r : RegionRef)
  /-- REFERENCE_LOSS (R380). -/
  | referenceLoss (die : Fin 14)
  /-- REFERENCE_FALLBACK (R381). -/
  | referenceFallback (die : Fin 14)
  /-- REFERENCE_RELOCK (R382). -/
  | referenceRelock (die : Fin 14)
  /-- REFERENCE_RELOCK_COMPLETE (R382). -/
  | referenceRelockComplete (die : Fin 14)
  /-- LINK_DATA_FLIT (R391). -/
  | linkDataFlit (link : Fin 32) (flit : LinkFlit)
  /-- LINK_TRAINING_COMPLETE (R390). -/
  | linkTrainingComplete (link : Fin 32) (bad : BitVec 8) (device : Fin 64) (peer : Fin 32)
  /-- LINK_DOWN (R391). -/
  | linkDown (link : Fin 32)
  /-- LINK_RETRY_TIMER (R391). -/
  | linkRetryTimer (link : Fin 32)
  /-- POD_MESSAGE_INGRESS (R393). -/
  | podMessageIngress (m : PodMsg)
  /-- E2E_ACK (R392). -/
  | e2eAck (device : Fin 64) (mseq : BitVec 16)
  /-- E2E_RESEND_TIMEOUT (R393). -/
  | e2eResendTimeout (device : Fin 64) (mseq : BitVec 16)
  /-- GATEWAY_FORWARD (R395). -/
  | gatewayForward (m : PodMsg) (arrival : Option (Fin 30 × Fin 3))
  /-- ROUTE_REFUSED (R395). -/
  | routeRefused (m : PodMsg)
  /-- HEARTBEAT_SEND (R397). -/
  | heartbeatSend
  /-- HEARTBEAT_TIMEOUT (R397). -/
  | heartbeatTimeout (device : Fin 64)
  /-- DEVICE_DEAD_DECLARATION (R397). -/
  | deviceDeadDeclaration (device : Fin 64)
  /-- PREPARE (R398). -/
  | prepare (seq : BitVec 32) (epoch : BitVec 16)
  /-- ROUTE_DRAIN_END (R398). -/
  | routeDrainEnd
  /-- DRAINED (R398). -/
  | drained (device : Fin 64) (epoch : BitVec 16)
  /-- SWAP (R398). -/
  | swap (seq : BitVec 32) (epoch : BitVec 16)
  /-- RING_HOLD_REFRESH (R405). -/
  | ringHoldRefresh
  /-- RING_BYPASS (R405). -/
  | ringBypass
  /-- SUMMIT_SNAPSHOT (R407). -/
  | summitSnapshot (image : List Byte)
  /-- FABRIC_COMMAND (R407). -/
  | fabricCommand (seq : BitVec 32) (cmd : FabricCmd)
  /-- SUMMIT_HANDOVER (R408). -/
  | summitHandover (why : Fin 3)
  /-- STANDBY_STARTED (R409). -/
  | standbyStarted
  /-- SUMMIT_OVERLAP_END (R408). -/
  | summitOverlapEnd
  /-- SUMMIT_SELF_TEST (R408). -/
  | summitSelfTest (passes : Bool)
  /-- JOIN (R410). -/
  | join (device : Fin 64) (valid : Bool)
  /-- OUTING_CREATE (R411). -/
  | outingCreate (o : BitVec 10) (cores : List CoreRef) (granules : List (Fin 8 × Fin 90)) (share : BitVec 6)
  /-- OUTING_LIVE (R411). -/
  | outingLive (o : Fin 256)
  /-- TEARDOWN (R412). -/
  | teardown (seq : BitVec 32) (o : Fin 256)
  /-- TORN (R412). -/
  | torn (o : Fin 256) (device : Fin 64)
  /-- EVENT_RECORD_APPEND (R418). -/
  | eventRecordAppend (die : Fin 17) (unit : Reporter)
  /-- SUPPRESSION_INTERVAL_END (R421). -/
  | suppressionIntervalEnd
  /-- LOG_BASE_WRITE (R419). -/
  | logBaseWrite (v : BitVec 64)
  /-- FENCE_WRITE (R424). -/
  | fenceWrite (die : Fin 4) (target : BitVec 4)
  /-- SUBST_WRITE (R430). -/
  | substWrite (die : Fin 4) (target : BitVec 4) (fence : Bool)
  /-- REGION_POWER_FAIL (R423). -/
  | regionPowerFail (c : CoreRef)
  /-- SUBST_DRAIN_COMPLETE (R430). -/
  | substDrainComplete (die : Fin 4)
  /-- SUBST_COPY_COMPLETE (R430). -/
  | substCopyComplete (die : Fin 4)
  /-- TRIPLICATE_CHECK (R434). -/
  | triplicateCheck (addr : BitVec 48) (copies : BitVec 64 × BitVec 64 × BitVec 64)
  /-- VIN_OVERVOLTAGE (R437). -/
  | vinOvervoltage
  /-- VIN_LOW_BAND (R437). -/
  | vinLowBand (vin : BitVec 14)
  /-- VIN_LOW_BAND_EXIT (R437). -/
  | vinLowBandExit (vin : BitVec 14)
  /-- POWER_WARNING (R440). -/
  | powerWarning
  /-- SHED_COMPLETE (R440). -/
  | shedComplete
  /-- WARNING_CLEAR (R437). -/
  | warningClear
  /-- BROWN_OUT (R437). -/
  | brownOut
  /-- SAVING (R442). -/
  | saving (device : Fin 64)
  /-- RESUMED (R442). -/
  | resumed (device : Fin 64)
  /-- SAVE_COMPLETE (R446). -/
  | saveComplete (vinHeld : Bool) (area : List Byte)
  /-- SAVE_WAIT_TIMEOUT (R446). -/
  | saveWaitTimeout
  /-- RESTORE_START (R447). -/
  | restoreStart
  /-- RESTORE_COMPLETE (R447). -/
  | restoreComplete
  /-- POWER_SAMPLE (R452). -/
  | powerSample (vin : BitVec 14) (iin pin avg : BitVec 13) (settled : Bool)
  /-- CURRENT_TRIP (R452). -/
  | currentTrip
  /-- SENSOR_CHECK (R454). -/
  | sensorCheck (die : Fin 17) (diode ring : List Int)
  /-- THERMAL_LOWER_STEP (R456). -/
  | thermalLowerStep
  /-- THERMAL_SHUTDOWN (R457). -/
  | thermalShutdown (spur : Bool)
  /-- CORE_PWR_L2 (R449). -/
  | corePwrL2 (c : CoreRef)
  /-- CORE_PWR_L3 (R449). -/
  | corePwrL3 (c : CoreRef)
  /-- CORE_PWR_L4 (R449). -/
  | corePwrL4 (c : CoreRef)
  /-- POSITION_WAKE_COMPLETE (R449). -/
  | positionWakeComplete (c : CoreRef)
  /-- MODULE_PWR_RUN (R450). -/
  | modulePwrRun
  /-- MODULE_PWR_L5 (R448). -/
  | modulePwrL5
  /-- MODULE_PWR_L6 (R450). -/
  | modulePwrL6
  /-- MODULE_WAKE (R450). -/
  | moduleWake
  /-- BOOT_ROUND_START (R468). -/
  | bootRoundStart (readErrorA readErrorB : Bool)
  /-- BOOT_RETRY_TIMER (R469). -/
  | bootRetryTimer (readErrorA readErrorB : Bool)
  /-- STAGE2_TIMEOUT (R470). -/
  | stage2Timeout (readErrorB : Bool)
  /-- READY (R467). -/
  | ready
  /-- KICK (R470). -/
  | kick
  /-- STEWARD_WATCHDOG_EXPIRY (R470). -/
  | stewardWatchdogExpiry
  /-- EXTEND (R477). -/
  | extend
  /-- SET_USER_DATA (R477). -/
  | setUserData
  /-- ENROL (R473). -/
  | enrol (slot : Fin 2) (fuses : Bool)
  /-- REVOKE (R473). -/
  | revoke (slot : Fin 4) (fuses : Bool)
  /-- ADVANCE (R474). -/
  | advance (stage2 : Bool) (target : BitVec 8) (fuses : Bool)
  /-- SEC_COMMAND_COMPLETE (R463). -/
  | secCommandComplete
  /-- MACHINE_TIMER (R462). -/
  | machineTimer (hart : Fin 16)
  /-- BOOT_OFFER (R482). -/
  | bootOffer (h : FrameHead) (length : BitVec 64)
  /-- BOOT_DATA (R482). -/
  | bootData (h : FrameHead) (offset : BitVec 64) (data : List Byte)
  /-- BOOT_OFFER_TIMEOUT (R482). -/
  | bootOfferTimeout
  /-- BOOT_DATA_TIMEOUT (R482). -/
  | bootDataTimeout
  /-- ATTEST_REQ (R483). -/
  | attestReq (h : FrameHead) (nonce : BitVec 384)
  /-- ATTEST_REPLY (R483). -/
  | attestReply
  /-- HOST_READ (R484). -/
  | hostRead (h : FrameHead) (addr : BitVec 64)
  /-- HOST_WRITE (R484). -/
  | hostWrite (h : FrameHead) (addr : BitVec 64) (v : BitVec 64)
  /-- HOST_CAIRN_READ (R484). -/
  | hostCairnRead (h : FrameHead) (addr : BitVec 64)
  /-- HOST_CAIRN_ADD (R484). -/
  | hostCairnAdd (h : FrameHead) (addr : BitVec 64) (amount : BitVec 32)
  /-- HOST_STATUS (R484). -/
  | hostStatus (h : FrameHead) (addr : BitVec 64)
  /-- HOST_MAILBOX (R484). -/
  | hostMailbox (h : FrameHead) (data : List Byte)
  /-- HOST_NAME_SUMMIT (R484). -/
  | hostNameSummit (h : FrameHead)
  /-- FIRMWARE_FRAME (R480). -/
  | firmwareFrame (frame : List Byte)
  /-- I3C_DYNAMIC_ADDRESS (R485). -/
  | i3cDynamicAddress (addr : BitVec 7)
  /-- I3C_PRIVATE_WRITE (R485). -/
  | i3cPrivateWrite (page offset : BitVec 8) (data : List Byte)
  /-- I3C_COMMON_COMMAND (R463). -/
  | i3cCommonCommand (code : BitVec 8)
  /-- RESET_N_ASSERT (R505). -/
  | resetNAssert
  /-- RESET_N_RELEASE (R504). -/
  | resetNRelease (ready : Bool) (vias : List (Fin 8 × Fin 64 × Fin 72))
  /-- BYPASS (R506). -/
  | bypass
  /-- SAMPLE_PRELOAD (R506). -/
  | samplePreload (load : BitVec 32)
  /-- EXTEST (R506). -/
  | extest (load : Option (BitVec 32))
  /-- IDCODE (R506). -/
  | idcode
  /-- INRUSH (R437). -/
  | inrush
  /-- POWER_ON_RESET_RELEASE (R504). -/
  | powerOnResetRelease (vias : List (Fin 8 × Fin 64 × Fin 72))
  /-- MGMT_LINK_STATE_CHANGE (R463). -/
  | mgmtLinkStateChange (link : LinkState)
  /-- RATE_MATCH_IDLE (R381). -/
  | rateMatchIdle (p : PortRef) (ridge : Bool)
  /-- STATUS_WINDOW_PUSH (R465). -/
  | statusWindowPush (n : Fin 67)
  /-- SUPPLY_MARGIN (R456). -/
  | supplyMargin (die : Fin 14)
  /-- BAD_FRAME (R480). -/
  | badFrame (h : FrameHead) (kind : BitVec 8)
  /-- JTAG_TRST_N (R506). -/
  | jtagTrstN
  deriving DecidableEq, Repr

end Sys2Proof
end

