-- ==== Sys2Proof/Config.lean ====
section
/-! DEFINITION. What the manual leaves free: opaque constants with no body, so that no proof can see a value. -/

namespace Sys2Proof.Config

/-- A fresh value of 64 bits for each index: the true random generator (R469, R471). Log entry 9. -/
opaque freeWord : Nat → Word

/-- What the stack decoder does with a pattern beyond the limit of R350, by fresh index: report it uncorrectable or not.
Log entry 9. -/
opaque decoderReports : Nat → Bool

/-- The line such a decoder returns when it does not report it (R350): 64 bytes. Log entry 9. -/
opaque decoderLine : Nat → BitVec 512

end Sys2Proof.Config
end

