-- ==== Sys2Proof/Machine/Sparse.lean ====
section
/-! DEFINITION. Operations of the canonical sparse map, and byte memory over it (little-endian, R14). -/

namespace Sys2Proof.Machine

/-- The value at key `k`; `d` is what an unlisted key reads as. -/
def SMap.get {α : Type} (m : SMap α) (k : Nat) (d : α) : α :=
  match m with
  | [] => d
  | (k', v) :: t => if k' = k then v else SMap.get t k d

/-- The map without key `k`. -/
def SMap.erase {α : Type} (m : SMap α) (k : Nat) : SMap α :=
  m.filter (fun x => x.1 ≠ k)

/-- `(k, v)` put before the first larger key. -/
def SMap.insert {α : Type} (m : SMap α) (k : Nat) (v : α) : SMap α :=
  match m with
  | [] => [(k, v)]
  | (k', v') :: t => if k < k' then (k, v) :: (k', v') :: t else (k', v') :: SMap.insert t k v

/-- The map with key `k` holding `v`: writing what an unlisted key reads as removes the entry. -/
def SMap.set {α : Type} [DecidableEq α] (m : SMap α) (k : Nat) (v d : α) : SMap α :=
  if v = d then SMap.erase m k else SMap.insert (SMap.erase m k) k v

/-- The keys rise strictly. -/
def SMap.sorted {α : Type} : SMap α → Bool
  | [] => true
  | [_] => true
  | a :: b :: t => decide (a.1 < b.1) && SMap.sorted (b :: t)

/-- The canonical form: keys strictly rising, no entry equal to the default. -/
def SMap.wf {α : Type} [DecidableEq α] (d : α) (m : SMap α) : Bool :=
  SMap.sorted m && m.all (fun x => decide (x.2 ≠ d))

/-- What a byte nothing has written reads as: 0x00 (DESIGN CHOICE, log entry 1: reset clears no memory, R83). -/
def unwrittenByte : Byte := 0

/-- One byte of a memory. -/
def Mem.byte (m : Mem) (a : Nat) : Byte := SMap.get m a unwrittenByte

/-- Write one byte. -/
def Mem.setByte (m : Mem) (a : Nat) (b : Byte) : Mem := SMap.set m a b unwrittenByte

/-- The canonical form of a byte memory. -/
abbrev Mem.wf (m : Mem) : Bool := SMap.wf unwrittenByte m

/-- `n` bytes from address `a` up. -/
def Mem.bytes (m : Mem) (a n : Nat) : List Byte := (List.range n).map (fun i => Mem.byte m (a + i))

/-- Write a run of bytes from address `a` up. -/
def Mem.setBytes (m : Mem) (a : Nat) : List Byte → Mem
  | [] => m
  | b :: t => Mem.setBytes (Mem.setByte m a b) (a + 1) t

/-- Write only the bytes whose mask entry is set. -/
def Mem.setMasked (m : Mem) (a : Nat) : List (Byte × Bool) → Mem
  | [] => m
  | (b, w) :: t => Mem.setMasked (if w then Mem.setByte m a b else m) (a + 1) t

/-- Little-endian value of a byte list. -/
def leNat : List Byte → Nat
  | [] => 0
  | b :: t => b.toNat + 256 * leNat t

/-- The low `n` bytes of a number, little-endian. -/
def toLE : Nat → Nat → List Byte
  | 0, _ => []
  | n + 1, v => BitVec.ofNat 8 v :: toLE n (v / 256)

/-- The low `n` bytes of a number, big-endian. -/
def toBE (n v : Nat) : List Byte := (toLE n v).reverse

/-- `n` bytes read as a little-endian number. -/
def Mem.readLE (m : Mem) (a n : Nat) : Nat := leNat (Mem.bytes m a n)

/-- A number written as `n` little-endian bytes. -/
def Mem.writeLE (m : Mem) (a n v : Nat) : Mem := Mem.setBytes m a (toLE n v)

/-- An 8-byte word of memory. -/
def Mem.word (m : Mem) (a : Nat) : Word := BitVec.ofNat 64 (Mem.readLE m a 8)

/-- 512 bytes of memory as a vector. -/
def Mem.vec (m : Mem) (a : Nat) : Vec := BitVec.ofNat 4096 (Mem.readLE m a 512)

/-- Bits [hi:lo] of a number (R14). -/
def bits (hi lo v : Nat) : Nat := v / 2 ^ lo % 2 ^ (hi + 1 - lo)

/-- A number with bits [hi:lo] replaced by `x` (taken modulo the field's size). -/
def setBits (hi lo v x : Nat) : Nat :=
  v / 2 ^ (hi + 1) * 2 ^ (hi + 1) + x % 2 ^ (hi + 1 - lo) * 2 ^ lo + v % 2 ^ lo

/-- The larger of a saturating counter's sum and its ceiling. -/
def satAdd (ceil a b : Nat) : Nat := min ceil (a + b)

end Sys2Proof.Machine
end

