-- ==== Sys2Proof/Machine/Regs.lean ====
section
/-! DEFINITION. Every register of the spec: its name, and its fields with their access codes and reset values, as the
register tables give them (R14-R17). A register instance is a name and an index (core, die, site, link, ...). -/

namespace Sys2Proof.Machine

/-- The registers, in the order the spec's chapters give them. -/
inductive RegName where
  | SR_SEED_V | SR_SEED_M | SR_STATE | FP_FLAGS | CYCLE_ISSUE | CYCLE_FROZEN | STORE_ECC | STORE_SCRUB | IMEM_ECC
  | CORE_CTRL | CORE_STATUS | CORE_FAULT | CORE_MAP | SELF | CAIRN_CTRL | WAIT_STATE | WAIT_AGE | CAIRN_STATS
  | CAIRN_DUMP_ADDR | CAIRN_DUMP_CTRL | CORE_OUTING | GRANULE_OWNER | POD_SEQ | POD_STATUS | POD_CFG | RED_CFG
  | RED_OUT | RED_ADMIT | RED_DELIVER | RED_UNITS | RED_STATUS | RED_STAGE_CFG | RED_STAGE_UNITS | SITE_MAP
  | SLOT_COUNT | PLANE_STATUS | LAUNCH_ARB | LAND_STATUS | LOOP_TEST | CAL_CTRL | CAL_GAP | CAL_SEL
  | CAL_ITEM_STATUS | CAL_ITEM_TIME | BANDGAP_STATUS | TUNE_STATUS | RING_SEL | RING_STATUS | LASER_GROUP
  | LASER_CFG | CASOB_SEL | CASOB_STATUS | PKG_CAPS | DIE_CAPS | SPUR_FW_CTRL | SPUR_OUT_WIN | SPUR_IN_WIN
  | SPUR_CAIRN_GRANT | SPUR_FW_STATUS | STACK_STATUS | STACK_RETIRED | RETIRE_CTRL | CHAN_SEL | CHAN_STATUS
  | ECC_LAST | LAYER_SEL | LAYER_TEMP | SCRUB_STATUS | CLK_POINT | CLK_STATUS | REF_STATUS | REGION_SEL
  | REGION_STATUS | STEP_COUNT | UPTIME_US | STREAM_PACE | POD_TOPO | POD_MEMBERS | POD_DEAD | ROUTE | ROUTE_STAGE
  | POD_LINK_SEL | POD_LINK_STATUS | GW_STATUS | LINK_RES | OUTING_STATUS | SUMMIT_STATUS | CORE_FENCE
  | FENCE_STATUS | REPLAY_CTRL | BATCH_MARK | BATCH_MARK_SR | FP_FLAGS_SET | LOG_BASE | LOG_STATUS | LOG_SEQ
  | TMR_STATUS | PWR_STATUS | PWR_CTRL | PWR_COUNTS | HAMPER_STATUS | CORE_PWR | MODULE_PWR | THERM_CTRL
  | THERM_STATUS | SENSOR_SEL | SENSOR_STATUS | POD_SAVING | BOOT_STATUS | BOOT_CTRL | SVN_STATUS | SEC_DATA
  | SEC_CMD | SEC_STATUS | HOST_CTRL | DIE_ID | SPUR_ID | DIE_DEVICE | RED_STAGE_STATUS
  deriving DecidableEq, Repr

/-- Access codes (R17). -/
inductive Acc where
  | ro | rw | wo | w1c | w1s
  deriving DecidableEq, Repr

/-- A field: its register, bits [hi:lo], access code and reset value. -/
structure Fld where
  reg : RegName
  hi : Nat
  lo : Nat
  acc : Acc
  reset : Nat
  deriving DecidableEq, Repr

/-- Place of a register's name in the list above. -/
def RegName.num (r : RegName) : Nat := r.ctorIdx

/-- The key of a register instance in State.regs. -/
def RegName.key (r : RegName) (i : Nat) : Nat := i * 256 + r.num

/-! SR_SEED_V (R66). -/
def SR_SEED_V_SEED : Fld := ⟨.SR_SEED_V, 31, 0, .rw, 0⟩
/-! SR_SEED_M (R66). -/
def SR_SEED_M_SEED : Fld := ⟨.SR_SEED_M, 31, 0, .rw, 0⟩
/-! SR_STATE (R66). -/
def SR_STATE_STATE_M : Fld := ⟨.SR_STATE, 63, 32, .ro, 0x9e3779b9⟩
def SR_STATE_STATE_V : Fld := ⟨.SR_STATE, 31, 0, .ro, 0x9e3779b9⟩
/-! FP_FLAGS (R75). -/
def FP_FLAGS_POISON : Fld := ⟨.FP_FLAGS, 7, 7, .w1c, 0⟩
def FP_FLAGS_INT_SAT : Fld := ⟨.FP_FLAGS, 6, 6, .w1c, 0⟩
def FP_FLAGS_NAN_BLOCK : Fld := ⟨.FP_FLAGS, 5, 5, .w1c, 0⟩
def FP_FLAGS_NAN_TO_INT : Fld := ⟨.FP_FLAGS, 4, 4, .w1c, 0⟩
def FP_FLAGS_CLAMPED : Fld := ⟨.FP_FLAGS, 3, 3, .w1c, 0⟩
def FP_FLAGS_UNDERFLOW : Fld := ⟨.FP_FLAGS, 2, 2, .w1c, 0⟩
def FP_FLAGS_OVERFLOW : Fld := ⟨.FP_FLAGS, 1, 1, .w1c, 0⟩
def FP_FLAGS_INVALID : Fld := ⟨.FP_FLAGS, 0, 0, .w1c, 0⟩
/-! CYCLE_ISSUE (R99). -/
def CYCLE_ISSUE_COUNT : Fld := ⟨.CYCLE_ISSUE, 63, 0, .ro, 0⟩
/-! CYCLE_FROZEN (R99). -/
def CYCLE_FROZEN_COUNT : Fld := ⟨.CYCLE_FROZEN, 63, 0, .ro, 0⟩
/-! STORE_ECC (R107). -/
def STORE_ECC_CORRECTED : Fld := ⟨.STORE_ECC, 63, 40, .rw, 0⟩
def STORE_ECC_UNCORRECTED : Fld := ⟨.STORE_ECC, 39, 32, .rw, 0⟩
def STORE_ECC_LAST_BEAT : Fld := ⟨.STORE_ECC, 17, 0, .ro, 0⟩
/-! STORE_SCRUB (R107). -/
def STORE_SCRUB_PASSES : Fld := ⟨.STORE_SCRUB, 63, 32, .ro, 0⟩
def STORE_SCRUB_NEXT_BEAT : Fld := ⟨.STORE_SCRUB, 17, 0, .ro, 0⟩
/-! IMEM_ECC (R109). -/
def IMEM_ECC_CORRECTED : Fld := ⟨.IMEM_ECC, 63, 40, .rw, 0⟩
def IMEM_ECC_UNCORRECTED : Fld := ⟨.IMEM_ECC, 39, 32, .rw, 0⟩
def IMEM_ECC_LAST_BUNDLE : Fld := ⟨.IMEM_ECC, 14, 0, .ro, 0⟩
/-! CORE_CTRL (R112). -/
def CORE_CTRL_START_PC : Fld := ⟨.CORE_CTRL, 46, 32, .rw, 0⟩
def CORE_CTRL_CLR_FAULT : Fld := ⟨.CORE_CTRL, 2, 2, .wo, 0⟩
def CORE_CTRL_STOP : Fld := ⟨.CORE_CTRL, 1, 1, .wo, 0⟩
def CORE_CTRL_START : Fld := ⟨.CORE_CTRL, 0, 0, .wo, 0⟩
/-! CORE_STATUS (R114). -/
def CORE_STATUS_PC : Fld := ⟨.CORE_STATUS, 50, 36, .ro, 0⟩
def CORE_STATUS_STATE : Fld := ⟨.CORE_STATUS, 35, 32, .ro, 0⟩
def CORE_STATUS_LOADS_OUT : Fld := ⟨.CORE_STATUS, 31, 24, .ro, 0⟩
def CORE_STATUS_QUIET : Fld := ⟨.CORE_STATUS, 16, 16, .ro, 1⟩
def CORE_STATUS_COPY_BUSY : Fld := ⟨.CORE_STATUS, 15, 0, .ro, 0⟩
/-! CORE_FAULT (R116). -/
def CORE_FAULT_CODE : Fld := ⟨.CORE_FAULT, 63, 56, .ro, 0⟩
def CORE_FAULT_SLOT : Fld := ⟨.CORE_FAULT, 55, 52, .ro, 0⟩
def CORE_FAULT_MORE : Fld := ⟨.CORE_FAULT, 51, 48, .ro, 0⟩
def CORE_FAULT_PC : Fld := ⟨.CORE_FAULT, 46, 32, .ro, 0⟩
def CORE_FAULT_DETAIL : Fld := ⟨.CORE_FAULT, 31, 0, .ro, 0⟩
/-! CORE_MAP (R119). -/
def CORE_MAP_SPARE : Fld := ⟨.CORE_MAP, 35, 32, .rw, 8⟩
def CORE_MAP_LOG_7 : Fld := ⟨.CORE_MAP, 31, 28, .rw, 7⟩
def CORE_MAP_LOG_6 : Fld := ⟨.CORE_MAP, 27, 24, .rw, 6⟩
def CORE_MAP_LOG_5 : Fld := ⟨.CORE_MAP, 23, 20, .rw, 5⟩
def CORE_MAP_LOG_4 : Fld := ⟨.CORE_MAP, 19, 16, .rw, 4⟩
def CORE_MAP_LOG_3 : Fld := ⟨.CORE_MAP, 15, 12, .rw, 3⟩
def CORE_MAP_LOG_2 : Fld := ⟨.CORE_MAP, 11, 8, .rw, 2⟩
def CORE_MAP_LOG_1 : Fld := ⟨.CORE_MAP, 7, 4, .rw, 1⟩
def CORE_MAP_LOG_0 : Fld := ⟨.CORE_MAP, 3, 0, .rw, 0⟩
/-! SELF (R135). -/
def SELF_DEVICE : Fld := ⟨.SELF, 15, 8, .ro, 0⟩
def SELF_LOGICAL : Fld := ⟨.SELF, 5, 0, .ro, 0⟩
/-! CAIRN_CTRL (R195). -/
def CAIRN_CTRL_WDOG_LIMIT : Fld := ⟨.CAIRN_CTRL, 63, 40, .rw, 0x4000⟩
def CAIRN_CTRL_GATE_AFTER : Fld := ⟨.CAIRN_CTRL, 31, 16, .rw, 0x80⟩
def CAIRN_CTRL_A1_WDOG : Fld := ⟨.CAIRN_CTRL, 1, 1, .rw, 0⟩
def CAIRN_CTRL_GATE_EN : Fld := ⟨.CAIRN_CTRL, 0, 0, .rw, 1⟩
/-! WAIT_STATE (R195). -/
def WAIT_STATE_ACTIVE : Fld := ⟨.WAIT_STATE, 51, 51, .ro, 0⟩
def WAIT_STATE_CONS : Fld := ⟨.WAIT_STATE, 50, 50, .ro, 0⟩
def WAIT_STATE_GATED : Fld := ⟨.WAIT_STATE, 49, 49, .ro, 0⟩
def WAIT_STATE_REFUSED : Fld := ⟨.WAIT_STATE, 48, 48, .ro, 0⟩
def WAIT_STATE_CAIRN : Fld := ⟨.WAIT_STATE, 43, 32, .ro, 0⟩
def WAIT_STATE_THRESHOLD : Fld := ⟨.WAIT_STATE, 31, 0, .ro, 0⟩
/-! WAIT_AGE (R195). -/
def WAIT_AGE_MAX : Fld := ⟨.WAIT_AGE, 63, 32, .rw, 0⟩
def WAIT_AGE_CURRENT : Fld := ⟨.WAIT_AGE, 31, 0, .ro, 0⟩
/-! CAIRN_STATS (R196). -/
def CAIRN_STATS_SAT_EVENTS : Fld := ⟨.CAIRN_STATS, 63, 48, .rw, 0⟩
def CAIRN_STATS_WDOG_FIRES : Fld := ⟨.CAIRN_STATS, 47, 32, .rw, 0⟩
def CAIRN_STATS_GATE_ENTRIES : Fld := ⟨.CAIRN_STATS, 31, 0, .rw, 0⟩
/-! CAIRN_DUMP_ADDR (R199). -/
def CAIRN_DUMP_ADDR_ADDR : Fld := ⟨.CAIRN_DUMP_ADDR, 63, 6, .rw, 0⟩
/-! CAIRN_DUMP_CTRL (R199). -/
def CAIRN_DUMP_CTRL_DUMPS : Fld := ⟨.CAIRN_DUMP_CTRL, 63, 48, .ro, 0⟩
def CAIRN_DUMP_CTRL_BUSY : Fld := ⟨.CAIRN_DUMP_CTRL, 1, 1, .ro, 0⟩
def CAIRN_DUMP_CTRL_GO : Fld := ⟨.CAIRN_DUMP_CTRL, 0, 0, .wo, 0⟩
/-! CORE_OUTING (R206). -/
def CORE_OUTING_OUTING : Fld := ⟨.CORE_OUTING, 9, 0, .rw, 0x3ff⟩
/-! GRANULE_OWNER (R206). -/
def GRANULE_OWNER_SHARED_READ : Fld := ⟨.GRANULE_OWNER, 10, 10, .rw, 0⟩
def GRANULE_OWNER_OWNER : Fld := ⟨.GRANULE_OWNER, 9, 0, .rw, 0x3ff⟩
/-! POD_SEQ (R226). -/
def POD_SEQ_NEXT : Fld := ⟨.POD_SEQ, 31, 0, .rw, 0⟩
/-! POD_STATUS (R226). -/
def POD_STATUS_DEAD_OPS : Fld := ⟨.POD_STATUS, 63, 48, .rw, 0⟩
def POD_STATUS_DATA_ERRORS : Fld := ⟨.POD_STATUS, 47, 32, .rw, 0⟩
def POD_STATUS_LAST_DEVICE : Fld := ⟨.POD_STATUS, 31, 26, .ro, 0⟩
def POD_STATUS_LAST_SITE : Fld := ⟨.POD_STATUS, 25, 22, .ro, 0⟩
def POD_STATUS_UNACKED : Fld := ⟨.POD_STATUS, 21, 9, .ro, 0⟩
def POD_STATUS_SLOTS : Fld := ⟨.POD_STATUS, 8, 0, .ro, 0⟩
/-! POD_CFG (R236). -/
def POD_CFG_FULL_CLASS : Fld := ⟨.POD_CFG, 0, 0, .rw, 0⟩
/-! RED_CFG (R254). -/
def RED_CFG_ARMED : Fld := ⟨.RED_CFG, 63, 63, .rw, 0⟩
def RED_CFG_KILL : Fld := ⟨.RED_CFG, 62, 62, .wo, 0⟩
def RED_CFG_ORDERED : Fld := ⟨.RED_CFG, 61, 61, .rw, 0⟩
def RED_CFG_OP : Fld := ⟨.RED_CFG, 59, 56, .rw, 0⟩
def RED_CFG_TYPE : Fld := ⟨.RED_CFG, 55, 54, .rw, 0⟩
def RED_CFG_OUTING : Fld := ⟨.RED_CFG, 53, 44, .rw, 0x3ff⟩
def RED_CFG_EXPECT : Fld := ⟨.RED_CFG, 43, 32, .rw, 0⟩
def RED_CFG_CHUNKS_M1 : Fld := ⟨.RED_CFG, 31, 22, .rw, 0⟩
def RED_CFG_ADD : Fld := ⟨.RED_CFG, 15, 0, .rw, 0⟩
/-! RED_OUT (R254). -/
def RED_OUT_CAIRN : Fld := ⟨.RED_OUT, 63, 52, .rw, 0⟩
def RED_OUT_SPILL_CORE : Fld := ⟨.RED_OUT, 51, 49, .rw, 0⟩
def RED_OUT_SPILL_OFFSET : Fld := ⟨.RED_OUT, 48, 32, .rw, 0⟩
def RED_OUT_OUT_OFFSET : Fld := ⟨.RED_OUT, 16, 0, .rw, 0⟩
/-! RED_ADMIT (R254). -/
def RED_ADMIT_DEVICES : Fld := ⟨.RED_ADMIT, 63, 0, .rw, 0⟩
/-! RED_DELIVER (R254). -/
def RED_DELIVER_DEVICES : Fld := ⟨.RED_DELIVER, 63, 0, .rw, 0⟩
/-! RED_UNITS (R254). -/
def RED_UNITS_DELIVER_UNITS : Fld := ⟨.RED_UNITS, 63, 32, .rw, 0⟩
def RED_UNITS_ADMIT_UNITS : Fld := ⟨.RED_UNITS, 31, 0, .rw, 0⟩
/-! RED_STATUS (R254). -/
def RED_STATUS_DELIVERED : Fld := ⟨.RED_STATUS, 63, 32, .ro, 0⟩
def RED_STATUS_STATE : Fld := ⟨.RED_STATUS, 31, 28, .ro, 0⟩
def RED_STATUS_ARM_ERROR : Fld := ⟨.RED_STATUS, 27, 24, .ro, 0⟩
def RED_STATUS_POISONED : Fld := ⟨.RED_STATUS, 6, 6, .w1c, 0⟩
def RED_STATUS_TARGET_SKIPPED : Fld := ⟨.RED_STATUS, 5, 5, .w1c, 0⟩
def RED_STATUS_STALE_DROPPED : Fld := ⟨.RED_STATUS, 4, 4, .w1c, 0⟩
def RED_STATUS_INT_SAT : Fld := ⟨.RED_STATUS, 3, 3, .w1c, 0⟩
def RED_STATUS_OVERFLOW : Fld := ⟨.RED_STATUS, 2, 2, .w1c, 0⟩
def RED_STATUS_NAN : Fld := ⟨.RED_STATUS, 1, 1, .w1c, 0⟩
/-! RED_STAGE_CFG (R254). -/
def RED_STAGE_CFG_ARMED : Fld := ⟨.RED_STAGE_CFG, 63, 63, .rw, 0⟩
def RED_STAGE_CFG_KILL : Fld := ⟨.RED_STAGE_CFG, 62, 62, .wo, 0⟩
def RED_STAGE_CFG_ORDERED : Fld := ⟨.RED_STAGE_CFG, 61, 61, .rw, 0⟩
def RED_STAGE_CFG_OP : Fld := ⟨.RED_STAGE_CFG, 59, 56, .rw, 0⟩
def RED_STAGE_CFG_TYPE : Fld := ⟨.RED_STAGE_CFG, 55, 54, .rw, 0⟩
def RED_STAGE_CFG_OUTING : Fld := ⟨.RED_STAGE_CFG, 53, 44, .rw, 0x3ff⟩
def RED_STAGE_CFG_EXPECT : Fld := ⟨.RED_STAGE_CFG, 43, 32, .rw, 0⟩
def RED_STAGE_CFG_CHUNKS_M1 : Fld := ⟨.RED_STAGE_CFG, 31, 22, .rw, 0⟩
def RED_STAGE_CFG_HOME_CTX : Fld := ⟨.RED_STAGE_CFG, 21, 16, .rw, 0⟩
def RED_STAGE_CFG_HOME_DEVICE : Fld := ⟨.RED_STAGE_CFG, 15, 10, .rw, 0⟩
def RED_STAGE_CFG_HOME_SITE : Fld := ⟨.RED_STAGE_CFG, 7, 4, .rw, 0⟩
/-! RED_STAGE_UNITS (R254). -/
def RED_STAGE_UNITS_UNITS : Fld := ⟨.RED_STAGE_UNITS, 31, 0, .rw, 0⟩
/-! SITE_MAP (R279). -/
def SITE_MAP_PRESENT : Fld := ⟨.SITE_MAP, 15, 0, .ro, 0xdfff⟩
/-! SLOT_COUNT (R279). -/
def SLOT_COUNT_COUNT : Fld := ⟨.SLOT_COUNT, 63, 0, .ro, 0⟩
/-! PLANE_STATUS (R279). -/
def PLANE_STATUS_FLIT_ERRORS : Fld := ⟨.PLANE_STATUS, 63, 32, .rw, 0⟩
def PLANE_STATUS_PARTNER : Fld := ⟨.PLANE_STATUS, 15, 10, .ro, 0x3f⟩
def PLANE_STATUS_POSITION : Fld := ⟨.PLANE_STATUS, 7, 3, .ro, 0⟩
def PLANE_STATUS_STATE : Fld := ⟨.PLANE_STATUS, 2, 0, .ro, 0⟩
/-! LAUNCH_ARB (R279). -/
def LAUNCH_ARB_W_REQ : Fld := ⟨.LAUNCH_ARB, 19, 16, .rw, 7⟩
def LAUNCH_ARB_W_RESP : Fld := ⟨.LAUNCH_ARB, 15, 12, .rw, 8⟩
def LAUNCH_ARB_W_MGMT : Fld := ⟨.LAUNCH_ARB, 11, 8, .rw, 1⟩
def LAUNCH_ARB_CTRL_CAP : Fld := ⟨.LAUNCH_ARB, 5, 0, .rw, 8⟩
/-! LAND_STATUS (R279). -/
def LAND_STATUS_REPLAYS : Fld := ⟨.LAND_STATUS, 63, 32, .rw, 0⟩
def LAND_STATUS_OCCUPANCY : Fld := ⟨.LAND_STATUS, 12, 0, .ro, 0⟩
/-! LOOP_TEST (R279). -/
def LOOP_TEST_DELAY : Fld := ⟨.LOOP_TEST, 63, 52, .ro, 0⟩
def LOOP_TEST_ERRORS : Fld := ⟨.LOOP_TEST, 51, 20, .ro, 0⟩
def LOOP_TEST_STATUS : Fld := ⟨.LOOP_TEST, 19, 18, .ro, 0⟩
def LOOP_TEST_PLANE : Fld := ⟨.LOOP_TEST, 15, 10, .rw, 0⟩
def LOOP_TEST_LOG_SLOTS : Fld := ⟨.LOOP_TEST, 5, 1, .rw, 0x14⟩
def LOOP_TEST_GO : Fld := ⟨.LOOP_TEST, 0, 0, .wo, 0⟩
/-! CAL_CTRL (R297). -/
def CAL_CTRL_MAX_AGE_S : Fld := ⟨.CAL_CTRL, 63, 48, .rw, 0x258⟩
def CAL_CTRL_TRIG : Fld := ⟨.CAL_CTRL, 47, 40, .rw, 0x10⟩
def CAL_CTRL_FORCE : Fld := ⟨.CAL_CTRL, 39, 32, .rw, 0x28⟩
def CAL_CTRL_EN : Fld := ⟨.CAL_CTRL, 0, 0, .rw, 1⟩
/-! CAL_GAP (R297). -/
def CAL_GAP_GAP_US : Fld := ⟨.CAL_GAP, 31, 0, .wo, 0⟩
/-! CAL_SEL (R297). -/
def CAL_SEL_CLASS : Fld := ⟨.CAL_SEL, 15, 12, .rw, 0⟩
def CAL_SEL_INDEX : Fld := ⟨.CAL_SEL, 11, 0, .rw, 0⟩
/-! CAL_ITEM_STATUS (R297). -/
def CAL_ITEM_STATUS_RUNS : Fld := ⟨.CAL_ITEM_STATUS, 63, 48, .rw, 0⟩
def CAL_ITEM_STATUS_FAILS : Fld := ⟨.CAL_ITEM_STATUS, 47, 40, .rw, 0⟩
def CAL_ITEM_STATUS_FORCED : Fld := ⟨.CAL_ITEM_STATUS, 39, 32, .rw, 0⟩
def CAL_ITEM_STATUS_LAST_TEMP : Fld := ⟨.CAL_ITEM_STATUS, 31, 24, .ro, 0⟩
def CAL_ITEM_STATUS_RESULT : Fld := ⟨.CAL_ITEM_STATUS, 23, 20, .ro, 0⟩
def CAL_ITEM_STATUS_SETS : Fld := ⟨.CAL_ITEM_STATUS, 19, 17, .ro, 0⟩
def CAL_ITEM_STATUS_DUE : Fld := ⟨.CAL_ITEM_STATUS, 16, 16, .ro, 0⟩
def CAL_ITEM_STATUS_RUNNING : Fld := ⟨.CAL_ITEM_STATUS, 15, 15, .ro, 0⟩
/-! CAL_ITEM_TIME (R297). -/
def CAL_ITEM_TIME_LAST_RUN_US : Fld := ⟨.CAL_ITEM_TIME, 63, 0, .ro, 0⟩
/-! BANDGAP_STATUS (R297). -/
def BANDGAP_STATUS_SP : Fld := ⟨.BANDGAP_STATUS, 14, 14, .ro, 0⟩
def BANDGAP_STATUS_KS : Fld := ⟨.BANDGAP_STATUS, 13, 13, .ro, 0⟩
def BANDGAP_STATUS_KM : Fld := ⟨.BANDGAP_STATUS, 12, 5, .ro, 0⟩
def BANDGAP_STATUS_KC : Fld := ⟨.BANDGAP_STATUS, 4, 1, .ro, 0⟩
def BANDGAP_STATUS_KP : Fld := ⟨.BANDGAP_STATUS, 0, 0, .ro, 0⟩
/-! TUNE_STATUS (R297). -/
def TUNE_STATUS_RESEARCHES : Fld := ⟨.TUNE_STATUS, 63, 48, .rw, 0⟩
def TUNE_STATUS_MISMATCHES : Fld := ⟨.TUNE_STATUS, 47, 32, .rw, 0⟩
def TUNE_STATUS_RINGS_FAILED : Fld := ⟨.TUNE_STATUS, 31, 16, .ro, 0⟩
def TUNE_STATUS_PHASE : Fld := ⟨.TUNE_STATUS, 3, 0, .ro, 0⟩
/-! RING_SEL (R297). -/
def RING_SEL_SITE : Fld := ⟨.RING_SEL, 15, 12, .rw, 0⟩
def RING_SEL_PLANE : Fld := ⟨.RING_SEL, 11, 6, .rw, 0⟩
def RING_SEL_END : Fld := ⟨.RING_SEL, 5, 5, .rw, 0⟩
def RING_SEL_INDEX : Fld := ⟨.RING_SEL, 3, 0, .rw, 0⟩
/-! RING_STATUS (R297). -/
def RING_STATUS_HEATER : Fld := ⟨.RING_STATUS, 63, 48, .ro, 0⟩
def RING_STATUS_SEARCHES : Fld := ⟨.RING_STATUS, 47, 40, .ro, 0⟩
def RING_STATUS_STATE : Fld := ⟨.RING_STATUS, 2, 0, .ro, 0⟩
/-! LASER_GROUP (R310). -/
def LASER_GROUP_HANDOVERS : Fld := ⟨.LASER_GROUP, 63, 48, .rw, 0⟩
def LASER_GROUP_FADE : Fld := ⟨.LASER_GROUP, 47, 40, .ro, 0⟩
def LASER_GROUP_STANDS_FOR : Fld := ⟨.LASER_GROUP, 39, 36, .ro, 0xf⟩
def LASER_GROUP_TESTS_FAILED : Fld := ⟨.LASER_GROUP, 35, 32, .ro, 0⟩
def LASER_GROUP_HANDOVER : Fld := ⟨.LASER_GROUP, 7, 7, .wo, 0⟩
def LASER_GROUP_STATE : Fld := ⟨.LASER_GROUP, 3, 0, .ro, 0⟩
/-! LASER_CFG (R310). -/
def LASER_CFG_OVERLAP_US : Fld := ⟨.LASER_CFG, 15, 0, .rw, 0x14⟩
/-! CASOB_SEL (R330). -/
def CASOB_SEL_RETRAIN : Fld := ⟨.CASOB_SEL, 15, 15, .wo, 0⟩
def CASOB_SEL_SITE : Fld := ⟨.CASOB_SEL, 8, 5, .rw, 0⟩
def CASOB_SEL_PORT : Fld := ⟨.CASOB_SEL, 4, 0, .rw, 0⟩
/-! CASOB_STATUS (R330). -/
def CASOB_STATUS_REPLAYS : Fld := ⟨.CASOB_STATUS, 63, 48, .rw, 0⟩
def CASOB_STATUS_BAD_DIE : Fld := ⟨.CASOB_STATUS, 47, 31, .ro, 0⟩
def CASOB_STATUS_BAD_RIDGE : Fld := ⟨.CASOB_STATUS, 30, 14, .ro, 0⟩
def CASOB_STATUS_DISAGREE : Fld := ⟨.CASOB_STATUS, 13, 12, .ro, 0⟩
def CASOB_STATUS_RETRAIN_PENDING : Fld := ⟨.CASOB_STATUS, 11, 11, .ro, 0⟩
def CASOB_STATUS_WIDTH : Fld := ⟨.CASOB_STATUS, 7, 6, .ro, 0⟩
def CASOB_STATUS_STATE : Fld := ⟨.CASOB_STATUS, 5, 3, .ro, 0⟩
/-! PKG_CAPS (R330). -/
def PKG_CAPS_FEATURES : Fld := ⟨.PKG_CAPS, 63, 32, .ro, 0⟩
def PKG_CAPS_MIXED_REV : Fld := ⟨.PKG_CAPS, 8, 8, .ro, 0⟩
def PKG_CAPS_LEVEL : Fld := ⟨.PKG_CAPS, 3, 0, .ro, 0⟩
/-! DIE_CAPS (R330). -/
def DIE_CAPS_FEATURES : Fld := ⟨.DIE_CAPS, 63, 32, .ro, 0⟩
def DIE_CAPS_ADMITTED : Fld := ⟨.DIE_CAPS, 8, 8, .ro, 0⟩
def DIE_CAPS_LEVEL : Fld := ⟨.DIE_CAPS, 3, 0, .ro, 0⟩
/-! SPUR_FW_CTRL (R339). -/
def SPUR_FW_CTRL_OUT_MASK : Fld := ⟨.SPUR_FW_CTRL, 63, 48, .rw, 0⟩
def SPUR_FW_CTRL_IN_MASK : Fld := ⟨.SPUR_FW_CTRL, 47, 32, .rw, 0⟩
def SPUR_FW_CTRL_RATE : Fld := ⟨.SPUR_FW_CTRL, 31, 16, .rw, 0x36b0⟩
def SPUR_FW_CTRL_BURST_LOG2 : Fld := ⟨.SPUR_FW_CTRL, 13, 10, .rw, 8⟩
def SPUR_FW_CTRL_OUTING : Fld := ⟨.SPUR_FW_CTRL, 9, 0, .rw, 0x3ff⟩
/-! SPUR_OUT_WIN (R339). -/
def SPUR_OUT_WIN_EN : Fld := ⟨.SPUR_OUT_WIN, 63, 63, .rw, 0⟩
def SPUR_OUT_WIN_RD : Fld := ⟨.SPUR_OUT_WIN, 62, 62, .rw, 0⟩
def SPUR_OUT_WIN_WR : Fld := ⟨.SPUR_OUT_WIN, 61, 61, .rw, 0⟩
def SPUR_OUT_WIN_LOG2_SIZE : Fld := ⟨.SPUR_OUT_WIN, 60, 55, .rw, 0xc⟩
def SPUR_OUT_WIN_DEVICE : Fld := ⟨.SPUR_OUT_WIN, 54, 49, .rw, 0⟩
def SPUR_OUT_WIN_SITE : Fld := ⟨.SPUR_OUT_WIN, 48, 45, .rw, 0⟩
def SPUR_OUT_WIN_BASE : Fld := ⟨.SPUR_OUT_WIN, 44, 6, .rw, 0⟩
/-! SPUR_IN_WIN (R339). -/
def SPUR_IN_WIN_EN : Fld := ⟨.SPUR_IN_WIN, 63, 63, .rw, 0⟩
def SPUR_IN_WIN_RD : Fld := ⟨.SPUR_IN_WIN, 62, 62, .rw, 0⟩
def SPUR_IN_WIN_WR : Fld := ⟨.SPUR_IN_WIN, 61, 61, .rw, 0⟩
def SPUR_IN_WIN_LOG2_SIZE : Fld := ⟨.SPUR_IN_WIN, 60, 55, .rw, 0xc⟩
def SPUR_IN_WIN_OUTING : Fld := ⟨.SPUR_IN_WIN, 54, 45, .rw, 0x3ff⟩
def SPUR_IN_WIN_BASE : Fld := ⟨.SPUR_IN_WIN, 44, 6, .rw, 0⟩
/-! SPUR_CAIRN_GRANT (R339). -/
def SPUR_CAIRN_GRANT_EN : Fld := ⟨.SPUR_CAIRN_GRANT, 63, 63, .rw, 0⟩
def SPUR_CAIRN_GRANT_DEVICE : Fld := ⟨.SPUR_CAIRN_GRANT, 62, 57, .rw, 0⟩
def SPUR_CAIRN_GRANT_SITE : Fld := ⟨.SPUR_CAIRN_GRANT, 56, 53, .rw, 0⟩
def SPUR_CAIRN_GRANT_CORE : Fld := ⟨.SPUR_CAIRN_GRANT, 52, 50, .rw, 0⟩
def SPUR_CAIRN_GRANT_FIRST : Fld := ⟨.SPUR_CAIRN_GRANT, 49, 38, .rw, 0⟩
def SPUR_CAIRN_GRANT_COUNT : Fld := ⟨.SPUR_CAIRN_GRANT, 37, 25, .rw, 0⟩
/-! SPUR_FW_STATUS (R339). -/
def SPUR_FW_STATUS_OUT_REFUSED : Fld := ⟨.SPUR_FW_STATUS, 63, 40, .rw, 0⟩
def SPUR_FW_STATUS_IN_REFUSED : Fld := ⟨.SPUR_FW_STATUS, 39, 16, .rw, 0⟩
def SPUR_FW_STATUS_LAST_CHECK : Fld := ⟨.SPUR_FW_STATUS, 2, 0, .ro, 0⟩
/-! STACK_STATUS (R362). -/
def STACK_STATUS_STATE : Fld := ⟨.STACK_STATUS, 63, 62, .ro, 0⟩
def STACK_STATUS_MOVE_CHANNEL : Fld := ⟨.STACK_STATUS, 61, 56, .ro, 0⟩
def STACK_STATUS_RETIRED : Fld := ⟨.STACK_STATUS, 55, 52, .ro, 0⟩
def STACK_STATUS_CAPACITY_MB : Fld := ⟨.STACK_STATUS, 48, 32, .ro, 0x17700⟩
def STACK_STATUS_MOVE_LINES : Fld := ⟨.STACK_STATUS, 24, 0, .ro, 0⟩
/-! STACK_RETIRED (R362). -/
def STACK_RETIRED_CHANNELS : Fld := ⟨.STACK_RETIRED, 63, 0, .ro, 0⟩
/-! RETIRE_CTRL (R362). -/
def RETIRE_CTRL_GO : Fld := ⟨.RETIRE_CTRL, 7, 7, .wo, 0⟩
def RETIRE_CTRL_CHANNEL : Fld := ⟨.RETIRE_CTRL, 5, 0, .rw, 0⟩
/-! CHAN_SEL (R362). -/
def CHAN_SEL_CHANNEL : Fld := ⟨.CHAN_SEL, 5, 0, .rw, 0⟩
/-! CHAN_STATUS (R362). -/
def CHAN_STATUS_CORRECTED : Fld := ⟨.CHAN_STATUS, 63, 40, .rw, 0⟩
def CHAN_STATUS_UNCORRECTED : Fld := ⟨.CHAN_STATUS, 39, 32, .rw, 0⟩
def CHAN_STATUS_REMAPS : Fld := ⟨.CHAN_STATUS, 31, 23, .ro, 0⟩
def CHAN_STATUS_FAILED_VIAS : Fld := ⟨.CHAN_STATUS, 22, 19, .ro, 0⟩
def CHAN_STATUS_DATA_SPARES : Fld := ⟨.CHAN_STATUS, 18, 16, .ro, 0⟩
def CHAN_STATUS_CHECK_SPARES : Fld := ⟨.CHAN_STATUS, 15, 13, .ro, 0⟩
def CHAN_STATUS_STATE : Fld := ⟨.CHAN_STATUS, 2, 0, .ro, 0⟩
/-! ECC_LAST (R362). -/
def ECC_LAST_CHANNEL : Fld := ⟨.ECC_LAST, 63, 58, .ro, 0⟩
def ECC_LAST_UE : Fld := ⟨.ECC_LAST, 57, 57, .ro, 0⟩
def ECC_LAST_SYMBOLS : Fld := ⟨.ECC_LAST, 56, 53, .ro, 0⟩
def ECC_LAST_OFFSET : Fld := ⟨.ECC_LAST, 36, 0, .ro, 0⟩
/-! LAYER_SEL (R362). -/
def LAYER_SEL_LAYER : Fld := ⟨.LAYER_SEL, 3, 0, .rw, 0⟩
/-! LAYER_TEMP (R362). -/
def LAYER_TEMP_MEASURED : Fld := ⟨.LAYER_TEMP, 63, 56, .ro, 0⟩
def LAYER_TEMP_ESTIMATE : Fld := ⟨.LAYER_TEMP, 55, 48, .ro, 0⟩
def LAYER_TEMP_WORKING : Fld := ⟨.LAYER_TEMP, 47, 40, .ro, 0⟩
def LAYER_TEMP_SUSPECT : Fld := ⟨.LAYER_TEMP, 39, 39, .ro, 0⟩
def LAYER_TEMP_DOUBLE : Fld := ⟨.LAYER_TEMP, 38, 38, .ro, 0⟩
def LAYER_TEMP_REFRESH : Fld := ⟨.LAYER_TEMP, 37, 36, .ro, 0⟩
def LAYER_TEMP_THROTTLED : Fld := ⟨.LAYER_TEMP, 35, 35, .ro, 0⟩
def LAYER_TEMP_OUT_RUNS : Fld := ⟨.LAYER_TEMP, 34, 30, .ro, 0⟩
def LAYER_TEMP_TRIM_RD : Fld := ⟨.LAYER_TEMP, 29, 22, .ro, 0⟩
def LAYER_TEMP_TRIM_WR : Fld := ⟨.LAYER_TEMP, 21, 14, .ro, 0⟩
/-! SCRUB_STATUS (R362). -/
def SCRUB_STATUS_PASSES : Fld := ⟨.SCRUB_STATUS, 63, 32, .ro, 0⟩
def SCRUB_STATUS_NEXT_LINE : Fld := ⟨.SCRUB_STATUS, 30, 0, .ro, 0⟩
/-! CLK_POINT (R384). -/
def CLK_POINT_TARGET : Fld := ⟨.CLK_POINT, 2, 0, .rw, 4⟩
/-! CLK_STATUS (R384). -/
def CLK_STATUS_ROOT : Fld := ⟨.CLK_STATUS, 63, 56, .ro, 0x80⟩
def CLK_STATUS_DIV : Fld := ⟨.CLK_STATUS, 55, 54, .ro, 2⟩
def CLK_STATUS_POINT : Fld := ⟨.CLK_STATUS, 53, 51, .ro, 4⟩
def CLK_STATUS_MOVING : Fld := ⟨.CLK_STATUS, 50, 50, .ro, 0⟩
def CLK_STATUS_HELD_MARGIN : Fld := ⟨.CLK_STATUS, 49, 49, .ro, 0⟩
def CLK_STATUS_HELD_REF : Fld := ⟨.CLK_STATUS, 48, 48, .ro, 0⟩
def CLK_STATUS_HELD_LIMIT : Fld := ⟨.CLK_STATUS, 47, 47, .ro, 0⟩
def CLK_STATUS_STEPS : Fld := ⟨.CLK_STATUS, 31, 0, .ro, 0⟩
/-! REF_STATUS (R384). -/
def REF_STATUS_LOSSES : Fld := ⟨.REF_STATUS, 63, 48, .rw, 0⟩
def REF_STATUS_STATE : Fld := ⟨.REF_STATUS, 1, 0, .ro, 0⟩
/-! REGION_SEL (R384). -/
def REGION_SEL_DIE : Fld := ⟨.REGION_SEL, 9, 5, .rw, 0⟩
def REGION_SEL_REGION : Fld := ⟨.REGION_SEL, 4, 0, .rw, 0⟩
/-! REGION_STATUS (R384). -/
def REGION_STATUS_STRETCHES : Fld := ⟨.REGION_STATUS, 63, 48, .rw, 0⟩
def REGION_STATUS_HELD : Fld := ⟨.REGION_STATUS, 47, 40, .rw, 0⟩
def REGION_STATUS_MARGIN_WARNS : Fld := ⟨.REGION_STATUS, 39, 32, .rw, 0⟩
def REGION_STATUS_COL_MIN : Fld := ⟨.REGION_STATUS, 31, 28, .ro, 4⟩
def REGION_STATUS_COL_MAX : Fld := ⟨.REGION_STATUS, 27, 24, .ro, 4⟩
def REGION_STATUS_RECENTRES : Fld := ⟨.REGION_STATUS, 23, 16, .rw, 0⟩
def REGION_STATUS_MARGIN : Fld := ⟨.REGION_STATUS, 15, 8, .ro, 0⟩
def REGION_STATUS_WARN : Fld := ⟨.REGION_STATUS, 1, 1, .ro, 0⟩
def REGION_STATUS_STOPPED : Fld := ⟨.REGION_STATUS, 0, 0, .ro, 0⟩
/-! STEP_COUNT (R384). -/
def STEP_COUNT_COUNT : Fld := ⟨.STEP_COUNT, 63, 0, .ro, 0⟩
/-! UPTIME_US (R384). -/
def UPTIME_US_COUNT : Fld := ⟨.UPTIME_US, 63, 0, .ro, 0⟩
/-! STREAM_PACE (R399). -/
def STREAM_PACE_MARKS : Fld := ⟨.STREAM_PACE, 63, 32, .rw, 0⟩
def STREAM_PACE_LIMIT : Fld := ⟨.STREAM_PACE, 12, 0, .ro, 0x1000⟩
/-! POD_TOPO (R414). -/
def POD_TOPO_EPOCH : Fld := ⟨.POD_TOPO, 63, 48, .ro, 0⟩
def POD_TOPO_STANDBY : Fld := ⟨.POD_TOPO, 47, 42, .rw, 1⟩
def POD_TOPO_SUMMIT : Fld := ⟨.POD_TOPO, 41, 36, .rw, 0⟩
def POD_TOPO_DEVICE : Fld := ⟨.POD_TOPO, 35, 30, .rw, 0⟩
def POD_TOPO_LAYOUT : Fld := ⟨.POD_TOPO, 29, 28, .rw, 0⟩
def POD_TOPO_OVERLAP_US : Fld := ⟨.POD_TOPO, 23, 8, .rw, 0x14⟩
def POD_TOPO_RING_BROKEN : Fld := ⟨.POD_TOPO, 2, 2, .ro, 0⟩
def POD_TOPO_BYPASSED : Fld := ⟨.POD_TOPO, 1, 1, .ro, 1⟩
def POD_TOPO_JOINED : Fld := ⟨.POD_TOPO, 0, 0, .ro, 0⟩
/-! POD_MEMBERS (R414). -/
def POD_MEMBERS_DEVICES : Fld := ⟨.POD_MEMBERS, 63, 0, .ro, 0⟩
/-! POD_DEAD (R414). -/
def POD_DEAD_DEVICES : Fld := ⟨.POD_DEAD, 63, 0, .ro, 0⟩
/-! ROUTE (R414). -/
def ROUTE_VALID : Fld := ⟨.ROUTE, 63, 63, .rw, 0⟩
def ROUTE_ALT : Fld := ⟨.ROUTE, 59, 30, .rw, 0⟩
def ROUTE_NEXT : Fld := ⟨.ROUTE, 29, 0, .rw, 0⟩
/-! ROUTE_STAGE (R414). -/
def ROUTE_STAGE_VALID : Fld := ⟨.ROUTE_STAGE, 63, 63, .rw, 0⟩
def ROUTE_STAGE_ALT : Fld := ⟨.ROUTE_STAGE, 59, 30, .rw, 0⟩
def ROUTE_STAGE_NEXT : Fld := ⟨.ROUTE_STAGE, 29, 0, .rw, 0⟩
/-! POD_LINK_SEL (R414). -/
def POD_LINK_SEL_LINK : Fld := ⟨.POD_LINK_SEL, 4, 0, .rw, 0⟩
/-! POD_LINK_STATUS (R414). -/
def POD_LINK_STATUS_REPLAYS : Fld := ⟨.POD_LINK_STATUS, 63, 48, .rw, 0⟩
def POD_LINK_STATUS_PEER_DEVICE : Fld := ⟨.POD_LINK_STATUS, 47, 42, .ro, 0⟩
def POD_LINK_STATUS_PEER_LINK : Fld := ⟨.POD_LINK_STATUS, 41, 37, .ro, 0⟩
def POD_LINK_STATUS_BAD_LAMBDA : Fld := ⟨.POD_LINK_STATUS, 36, 29, .ro, 0⟩
def POD_LINK_STATUS_WIDTH : Fld := ⟨.POD_LINK_STATUS, 3, 2, .ro, 0⟩
def POD_LINK_STATUS_STATE : Fld := ⟨.POD_LINK_STATUS, 1, 0, .ro, 0⟩
/-! GW_STATUS (R414). -/
def GW_STATUS_E2E_RESENDS : Fld := ⟨.GW_STATUS, 63, 48, .rw, 0⟩
def GW_STATUS_E2E_DUPS : Fld := ⟨.GW_STATUS, 47, 32, .rw, 0⟩
def GW_STATUS_ROUTE_REFUSED : Fld := ⟨.GW_STATUS, 31, 16, .rw, 0⟩
/-! LINK_RES (R414). -/
def LINK_RES_SHARE : Fld := ⟨.LINK_RES, 5, 0, .rw, 0⟩
/-! OUTING_STATUS (R414). -/
def OUTING_STATUS_STATE : Fld := ⟨.OUTING_STATUS, 1, 0, .ro, 0⟩
/-! SUMMIT_STATUS (R414). -/
def SUMMIT_STATUS_CMD_SEQ : Fld := ⟨.SUMMIT_STATUS, 63, 32, .ro, 0⟩
def SUMMIT_STATUS_HANDOVERS : Fld := ⟨.SUMMIT_STATUS, 31, 16, .rw, 0⟩
def SUMMIT_STATUS_HANDOVER : Fld := ⟨.SUMMIT_STATUS, 8, 8, .wo, 0⟩
def SUMMIT_STATUS_TESTS_FAILED : Fld := ⟨.SUMMIT_STATUS, 7, 4, .ro, 0⟩
def SUMMIT_STATUS_ROLE : Fld := ⟨.SUMMIT_STATUS, 3, 0, .ro, 0⟩
/-! CORE_FENCE (R436). -/
def CORE_FENCE_TARGET : Fld := ⟨.CORE_FENCE, 7, 4, .rw, 0⟩
def CORE_FENCE_SUBST : Fld := ⟨.CORE_FENCE, 1, 1, .wo, 0⟩
def CORE_FENCE_FENCE : Fld := ⟨.CORE_FENCE, 0, 0, .wo, 0⟩
/-! FENCE_STATUS (R436). -/
def FENCE_STATUS_FENCED : Fld := ⟨.FENCE_STATUS, 63, 55, .ro, 0⟩
def FENCE_STATUS_SUBST_FROM : Fld := ⟨.FENCE_STATUS, 54, 51, .ro, 0xf⟩
def FENCE_STATUS_SUBST_STATE : Fld := ⟨.FENCE_STATUS, 50, 48, .ro, 0⟩
def FENCE_STATUS_HELD : Fld := ⟨.FENCE_STATUS, 47, 36, .ro, 0⟩
/-! REPLAY_CTRL (R436). -/
def REPLAY_CTRL_MARKS : Fld := ⟨.REPLAY_CTRL, 63, 32, .ro, 0⟩
def REPLAY_CTRL_EN : Fld := ⟨.REPLAY_CTRL, 12, 12, .rw, 0⟩
def REPLAY_CTRL_BATCH_CAIRN : Fld := ⟨.REPLAY_CTRL, 11, 0, .rw, 0⟩
/-! BATCH_MARK (R436). -/
def BATCH_MARK_NEXT : Fld := ⟨.BATCH_MARK, 63, 32, .ro, 0⟩
def BATCH_MARK_FLAGS : Fld := ⟨.BATCH_MARK, 31, 24, .ro, 0⟩
def BATCH_MARK_VALID : Fld := ⟨.BATCH_MARK, 16, 16, .ro, 0⟩
def BATCH_MARK_PC : Fld := ⟨.BATCH_MARK, 14, 0, .ro, 0⟩
/-! BATCH_MARK_SR (R436). -/
def BATCH_MARK_SR_STATE_M : Fld := ⟨.BATCH_MARK_SR, 63, 32, .ro, 0⟩
def BATCH_MARK_SR_STATE_V : Fld := ⟨.BATCH_MARK_SR, 31, 0, .ro, 0⟩
/-! FP_FLAGS_SET (R436). -/
def FP_FLAGS_SET_FLAGS : Fld := ⟨.FP_FLAGS_SET, 7, 0, .w1s, 0⟩
/-! LOG_BASE (R436). -/
def LOG_BASE_ADDR : Fld := ⟨.LOG_BASE, 63, 22, .rw, 0⟩
/-! LOG_STATUS (R436). -/
def LOG_STATUS_OVERWRITTEN : Fld := ⟨.LOG_STATUS, 63, 32, .rw, 0⟩
def LOG_STATUS_SUPPRESSED : Fld := ⟨.LOG_STATUS, 31, 0, .rw, 0⟩
/-! LOG_SEQ (R436). -/
def LOG_SEQ_LAST : Fld := ⟨.LOG_SEQ, 63, 0, .ro, 0⟩
/-! TMR_STATUS (R436). -/
def TMR_STATUS_CORRECTIONS : Fld := ⟨.TMR_STATUS, 63, 32, .rw, 0⟩
/-! PWR_STATUS (R460). -/
def PWR_STATUS_VIN : Fld := ⟨.PWR_STATUS, 63, 50, .ro, 0⟩
def PWR_STATUS_IIN : Fld := ⟨.PWR_STATUS, 49, 37, .ro, 0⟩
def PWR_STATUS_PIN : Fld := ⟨.PWR_STATUS, 36, 24, .ro, 0⟩
def PWR_STATUS_STATE : Fld := ⟨.PWR_STATUS, 19, 16, .ro, 0⟩
def PWR_STATUS_UNDERVOLT : Fld := ⟨.PWR_STATUS, 3, 3, .ro, 0⟩
def PWR_STATUS_WARN : Fld := ⟨.PWR_STATUS, 2, 2, .ro, 0⟩
def PWR_STATUS_LIMITING : Fld := ⟨.PWR_STATUS, 1, 1, .ro, 0⟩
def PWR_STATUS_TRIPPED : Fld := ⟨.PWR_STATUS, 0, 0, .ro, 0⟩
/-! PWR_CTRL (R460). -/
def PWR_CTRL_PWR_LIMIT : Fld := ⟨.PWR_CTRL, 63, 52, .rw, 0xe10⟩
def PWR_CTRL_BOOST_EN : Fld := ⟨.PWR_CTRL, 0, 0, .rw, 0⟩
/-! PWR_COUNTS (R460). -/
def PWR_COUNTS_WARNINGS : Fld := ⟨.PWR_COUNTS, 63, 48, .rw, 0⟩
def PWR_COUNTS_SAVES : Fld := ⟨.PWR_COUNTS, 47, 32, .rw, 0⟩
def PWR_COUNTS_RECOVERED : Fld := ⟨.PWR_COUNTS, 31, 16, .rw, 0⟩
def PWR_COUNTS_TRIPS : Fld := ⟨.PWR_COUNTS, 15, 0, .rw, 0⟩
/-! HAMPER_STATUS (R460). -/
def HAMPER_STATUS_GEN_NEWEST : Fld := ⟨.HAMPER_STATUS, 63, 32, .ro, 0⟩
def HAMPER_STATUS_NEWEST_SLOT : Fld := ⟨.HAMPER_STATUS, 9, 9, .ro, 0⟩
def HAMPER_STATUS_SLOT_1 : Fld := ⟨.HAMPER_STATUS, 7, 4, .ro, 0⟩
def HAMPER_STATUS_SLOT_0 : Fld := ⟨.HAMPER_STATUS, 3, 0, .ro, 0⟩
/-! CORE_PWR (R460). -/
def CORE_PWR_REQ : Fld := ⟨.CORE_PWR, 6, 4, .rw, 0⟩
def CORE_PWR_RUNG : Fld := ⟨.CORE_PWR, 2, 0, .ro, 0⟩
/-! MODULE_PWR (R460). -/
def MODULE_PWR_REQ : Fld := ⟨.MODULE_PWR, 5, 4, .rw, 0⟩
def MODULE_PWR_RUNG : Fld := ⟨.MODULE_PWR, 2, 0, .ro, 0⟩
/-! THERM_CTRL (R460). -/
def THERM_CTRL_THROTTLE : Fld := ⟨.THERM_CTRL, 63, 56, .rw, 0x64⟩
def THERM_CTRL_BOOST_MAX : Fld := ⟨.THERM_CTRL, 55, 48, .rw, 0x55⟩
/-! THERM_STATUS (R460). -/
def THERM_STATUS_SHUTDOWN : Fld := ⟨.THERM_STATUS, 63, 56, .ro, 0x6e⟩
def THERM_STATUS_HOTTEST : Fld := ⟨.THERM_STATUS, 55, 48, .ro, 0⟩
def THERM_STATUS_HOTTEST_DIE : Fld := ⟨.THERM_STATUS, 47, 43, .ro, 0⟩
def THERM_STATUS_STRETCHING : Fld := ⟨.THERM_STATUS, 1, 1, .ro, 0⟩
def THERM_STATUS_THROTTLING : Fld := ⟨.THERM_STATUS, 0, 0, .ro, 0⟩
/-! SENSOR_SEL (R460). -/
def SENSOR_SEL_DIE : Fld := ⟨.SENSOR_SEL, 10, 6, .rw, 0⟩
def SENSOR_SEL_LOCATION : Fld := ⟨.SENSOR_SEL, 5, 0, .rw, 0⟩
/-! SENSOR_STATUS (R460). -/
def SENSOR_STATUS_DIODE : Fld := ⟨.SENSOR_STATUS, 63, 56, .ro, 0⟩
def SENSOR_STATUS_RING : Fld := ⟨.SENSOR_STATUS, 55, 48, .ro, 0⟩
def SENSOR_STATUS_WORKING : Fld := ⟨.SENSOR_STATUS, 47, 40, .ro, 0⟩
def SENSOR_STATUS_SUSPECT : Fld := ⟨.SENSOR_STATUS, 39, 39, .ro, 0⟩
def SENSOR_STATUS_INVALID : Fld := ⟨.SENSOR_STATUS, 38, 37, .ro, 0⟩
def SENSOR_STATUS_OUT_RUNS : Fld := ⟨.SENSOR_STATUS, 36, 32, .ro, 0⟩
/-! POD_SAVING (R460). -/
def POD_SAVING_DEVICES : Fld := ⟨.POD_SAVING, 63, 0, .ro, 0⟩
/-! BOOT_STATUS (R489). -/
def BOOT_STATUS_ROUNDS : Fld := ⟨.BOOT_STATUS, 63, 32, .ro, 0⟩
def BOOT_STATUS_LAST_REASON : Fld := ⟨.BOOT_STATUS, 31, 24, .ro, 0⟩
def BOOT_STATUS_LAST_SOURCE : Fld := ⟨.BOOT_STATUS, 23, 20, .ro, 0⟩
def BOOT_STATUS_STAGE : Fld := ⟨.BOOT_STATUS, 19, 16, .ro, 0⟩
def BOOT_STATUS_NETWORK : Fld := ⟨.BOOT_STATUS, 0, 0, .ro, 0⟩
/-! BOOT_CTRL (R489). -/
def BOOT_CTRL_BOOT_TIMEOUT_S : Fld := ⟨.BOOT_CTRL, 63, 48, .rw, 0x3c⟩
def BOOT_CTRL_WDOG_MS : Fld := ⟨.BOOT_CTRL, 47, 32, .rw, 0x3e8⟩
def BOOT_CTRL_NET_EN : Fld := ⟨.BOOT_CTRL, 2, 2, .rw, 0⟩
def BOOT_CTRL_KICK : Fld := ⟨.BOOT_CTRL, 1, 1, .wo, 0⟩
def BOOT_CTRL_READY : Fld := ⟨.BOOT_CTRL, 0, 0, .w1s, 0⟩
/-! SVN_STATUS (R489). -/
def SVN_STATUS_MIN_STAGE1 : Fld := ⟨.SVN_STATUS, 63, 56, .ro, 0⟩
def SVN_STATUS_MIN_STAGE2 : Fld := ⟨.SVN_STATUS, 55, 48, .ro, 0⟩
def SVN_STATUS_RUN_STAGE1 : Fld := ⟨.SVN_STATUS, 47, 40, .ro, 0⟩
def SVN_STATUS_RUN_STAGE2 : Fld := ⟨.SVN_STATUS, 39, 32, .ro, 0⟩
def SVN_STATUS_REVOKED : Fld := ⟨.SVN_STATUS, 7, 4, .ro, 0⟩
def SVN_STATUS_PROGRAMMED : Fld := ⟨.SVN_STATUS, 3, 0, .ro, 3⟩
/-! SEC_DATA (R489). -/
def SEC_DATA_DATA : Fld := ⟨.SEC_DATA, 63, 0, .rw, 0⟩
/-! SEC_CMD (R489). -/
def SEC_CMD_ARG : Fld := ⟨.SEC_CMD, 15, 8, .rw, 0⟩
def SEC_CMD_CMD : Fld := ⟨.SEC_CMD, 3, 0, .wo, 0⟩
/-! SEC_STATUS (R489). -/
def SEC_STATUS_RESULT : Fld := ⟨.SEC_STATUS, 7, 4, .ro, 0⟩
def SEC_STATUS_BUSY : Fld := ⟨.SEC_STATUS, 0, 0, .ro, 0⟩
/-! HOST_CTRL (R489). -/
def HOST_CTRL_HOST_MAC : Fld := ⟨.HOST_CTRL, 63, 16, .rw, 0⟩
def HOST_CTRL_WRITE_EN : Fld := ⟨.HOST_CTRL, 2, 2, .rw, 0⟩
def HOST_CTRL_NAME_EN : Fld := ⟨.HOST_CTRL, 1, 1, .rw, 0⟩
def HOST_CTRL_EN : Fld := ⟨.HOST_CTRL, 0, 0, .rw, 0⟩
/-! DIE_ID (R494). -/
def DIE_ID_ENGINE_LETTER : Fld := ⟨.DIE_ID, 47, 40, .ro, 0⟩
def DIE_ID_ENGINE_DIGIT : Fld := ⟨.DIE_ID, 39, 32, .ro, 0⟩
def DIE_ID_CODE : Fld := ⟨.DIE_ID, 31, 24, .ro, 0⟩
def DIE_ID_STEP_LETTER : Fld := ⟨.DIE_ID, 23, 16, .ro, 0⟩
def DIE_ID_STEP_DIGIT : Fld := ⟨.DIE_ID, 15, 8, .ro, 0⟩
def DIE_ID_LEVEL : Fld := ⟨.DIE_ID, 7, 4, .ro, 0⟩
/-! SPUR_ID (R495). -/
def SPUR_ID_VENDOR : Fld := ⟨.SPUR_ID, 63, 32, .ro, 0⟩
def SPUR_ID_PART : Fld := ⟨.SPUR_ID, 31, 16, .ro, 0⟩
def SPUR_ID_REV : Fld := ⟨.SPUR_ID, 15, 0, .ro, 0⟩
/-! DIE_DEVICE (R497). -/
def DIE_DEVICE_DEVICE : Fld := ⟨.DIE_DEVICE, 5, 0, .rw, 0⟩
/-! RED_STAGE_STATUS (R254). -/
def RED_STAGE_STATUS_DELIVERED : Fld := ⟨.RED_STAGE_STATUS, 63, 32, .ro, 0⟩
def RED_STAGE_STATUS_STATE : Fld := ⟨.RED_STAGE_STATUS, 31, 28, .ro, 0⟩
def RED_STAGE_STATUS_ARM_ERROR : Fld := ⟨.RED_STAGE_STATUS, 27, 24, .ro, 0⟩
def RED_STAGE_STATUS_POISONED : Fld := ⟨.RED_STAGE_STATUS, 6, 6, .w1c, 0⟩
def RED_STAGE_STATUS_TARGET_SKIPPED : Fld := ⟨.RED_STAGE_STATUS, 5, 5, .w1c, 0⟩
def RED_STAGE_STATUS_STALE_DROPPED : Fld := ⟨.RED_STAGE_STATUS, 4, 4, .w1c, 0⟩
def RED_STAGE_STATUS_INT_SAT : Fld := ⟨.RED_STAGE_STATUS, 3, 3, .w1c, 0⟩
def RED_STAGE_STATUS_OVERFLOW : Fld := ⟨.RED_STAGE_STATUS, 2, 2, .w1c, 0⟩
def RED_STAGE_STATUS_NAN : Fld := ⟨.RED_STAGE_STATUS, 1, 1, .w1c, 0⟩

/-- The fields of a register, high bit down. -/
def RegName.fields : RegName → List Fld
  | .SR_SEED_V => [SR_SEED_V_SEED]
  | .SR_SEED_M => [SR_SEED_M_SEED]
  | .SR_STATE => [SR_STATE_STATE_M, SR_STATE_STATE_V]
  | .FP_FLAGS => [FP_FLAGS_POISON, FP_FLAGS_INT_SAT, FP_FLAGS_NAN_BLOCK, FP_FLAGS_NAN_TO_INT, FP_FLAGS_CLAMPED,
      FP_FLAGS_UNDERFLOW, FP_FLAGS_OVERFLOW, FP_FLAGS_INVALID]
  | .CYCLE_ISSUE => [CYCLE_ISSUE_COUNT]
  | .CYCLE_FROZEN => [CYCLE_FROZEN_COUNT]
  | .STORE_ECC => [STORE_ECC_CORRECTED, STORE_ECC_UNCORRECTED, STORE_ECC_LAST_BEAT]
  | .STORE_SCRUB => [STORE_SCRUB_PASSES, STORE_SCRUB_NEXT_BEAT]
  | .IMEM_ECC => [IMEM_ECC_CORRECTED, IMEM_ECC_UNCORRECTED, IMEM_ECC_LAST_BUNDLE]
  | .CORE_CTRL => [CORE_CTRL_START_PC, CORE_CTRL_CLR_FAULT, CORE_CTRL_STOP, CORE_CTRL_START]
  | .CORE_STATUS => [CORE_STATUS_PC, CORE_STATUS_STATE, CORE_STATUS_LOADS_OUT, CORE_STATUS_QUIET,
      CORE_STATUS_COPY_BUSY]
  | .CORE_FAULT => [CORE_FAULT_CODE, CORE_FAULT_SLOT, CORE_FAULT_MORE, CORE_FAULT_PC, CORE_FAULT_DETAIL]
  | .CORE_MAP => [CORE_MAP_SPARE, CORE_MAP_LOG_7, CORE_MAP_LOG_6, CORE_MAP_LOG_5, CORE_MAP_LOG_4, CORE_MAP_LOG_3,
      CORE_MAP_LOG_2, CORE_MAP_LOG_1, CORE_MAP_LOG_0]
  | .SELF => [SELF_DEVICE, SELF_LOGICAL]
  | .CAIRN_CTRL => [CAIRN_CTRL_WDOG_LIMIT, CAIRN_CTRL_GATE_AFTER, CAIRN_CTRL_A1_WDOG, CAIRN_CTRL_GATE_EN]
  | .WAIT_STATE => [WAIT_STATE_ACTIVE, WAIT_STATE_CONS, WAIT_STATE_GATED, WAIT_STATE_REFUSED, WAIT_STATE_CAIRN,
      WAIT_STATE_THRESHOLD]
  | .WAIT_AGE => [WAIT_AGE_MAX, WAIT_AGE_CURRENT]
  | .CAIRN_STATS => [CAIRN_STATS_SAT_EVENTS, CAIRN_STATS_WDOG_FIRES, CAIRN_STATS_GATE_ENTRIES]
  | .CAIRN_DUMP_ADDR => [CAIRN_DUMP_ADDR_ADDR]
  | .CAIRN_DUMP_CTRL => [CAIRN_DUMP_CTRL_DUMPS, CAIRN_DUMP_CTRL_BUSY, CAIRN_DUMP_CTRL_GO]
  | .CORE_OUTING => [CORE_OUTING_OUTING]
  | .GRANULE_OWNER => [GRANULE_OWNER_SHARED_READ, GRANULE_OWNER_OWNER]
  | .POD_SEQ => [POD_SEQ_NEXT]
  | .POD_STATUS => [POD_STATUS_DEAD_OPS, POD_STATUS_DATA_ERRORS, POD_STATUS_LAST_DEVICE, POD_STATUS_LAST_SITE,
      POD_STATUS_UNACKED, POD_STATUS_SLOTS]
  | .POD_CFG => [POD_CFG_FULL_CLASS]
  | .RED_CFG => [RED_CFG_ARMED, RED_CFG_KILL, RED_CFG_ORDERED, RED_CFG_OP, RED_CFG_TYPE, RED_CFG_OUTING,
      RED_CFG_EXPECT, RED_CFG_CHUNKS_M1, RED_CFG_ADD]
  | .RED_OUT => [RED_OUT_CAIRN, RED_OUT_SPILL_CORE, RED_OUT_SPILL_OFFSET, RED_OUT_OUT_OFFSET]
  | .RED_ADMIT => [RED_ADMIT_DEVICES]
  | .RED_DELIVER => [RED_DELIVER_DEVICES]
  | .RED_UNITS => [RED_UNITS_DELIVER_UNITS, RED_UNITS_ADMIT_UNITS]
  | .RED_STATUS => [RED_STATUS_DELIVERED, RED_STATUS_STATE, RED_STATUS_ARM_ERROR, RED_STATUS_POISONED,
      RED_STATUS_TARGET_SKIPPED, RED_STATUS_STALE_DROPPED, RED_STATUS_INT_SAT, RED_STATUS_OVERFLOW, RED_STATUS_NAN]
  | .RED_STAGE_CFG => [RED_STAGE_CFG_ARMED, RED_STAGE_CFG_KILL, RED_STAGE_CFG_ORDERED, RED_STAGE_CFG_OP,
      RED_STAGE_CFG_TYPE, RED_STAGE_CFG_OUTING, RED_STAGE_CFG_EXPECT, RED_STAGE_CFG_CHUNKS_M1,
      RED_STAGE_CFG_HOME_CTX, RED_STAGE_CFG_HOME_DEVICE, RED_STAGE_CFG_HOME_SITE]
  | .RED_STAGE_UNITS => [RED_STAGE_UNITS_UNITS]
  | .SITE_MAP => [SITE_MAP_PRESENT]
  | .SLOT_COUNT => [SLOT_COUNT_COUNT]
  | .PLANE_STATUS => [PLANE_STATUS_FLIT_ERRORS, PLANE_STATUS_PARTNER, PLANE_STATUS_POSITION, PLANE_STATUS_STATE]
  | .LAUNCH_ARB => [LAUNCH_ARB_W_REQ, LAUNCH_ARB_W_RESP, LAUNCH_ARB_W_MGMT, LAUNCH_ARB_CTRL_CAP]
  | .LAND_STATUS => [LAND_STATUS_REPLAYS, LAND_STATUS_OCCUPANCY]
  | .LOOP_TEST => [LOOP_TEST_DELAY, LOOP_TEST_ERRORS, LOOP_TEST_STATUS, LOOP_TEST_PLANE, LOOP_TEST_LOG_SLOTS,
      LOOP_TEST_GO]
  | .CAL_CTRL => [CAL_CTRL_MAX_AGE_S, CAL_CTRL_TRIG, CAL_CTRL_FORCE, CAL_CTRL_EN]
  | .CAL_GAP => [CAL_GAP_GAP_US]
  | .CAL_SEL => [CAL_SEL_CLASS, CAL_SEL_INDEX]
  | .CAL_ITEM_STATUS => [CAL_ITEM_STATUS_RUNS, CAL_ITEM_STATUS_FAILS, CAL_ITEM_STATUS_FORCED,
      CAL_ITEM_STATUS_LAST_TEMP, CAL_ITEM_STATUS_RESULT, CAL_ITEM_STATUS_SETS, CAL_ITEM_STATUS_DUE,
      CAL_ITEM_STATUS_RUNNING]
  | .CAL_ITEM_TIME => [CAL_ITEM_TIME_LAST_RUN_US]
  | .BANDGAP_STATUS => [BANDGAP_STATUS_SP, BANDGAP_STATUS_KS, BANDGAP_STATUS_KM, BANDGAP_STATUS_KC, BANDGAP_STATUS_KP]
  | .TUNE_STATUS => [TUNE_STATUS_RESEARCHES, TUNE_STATUS_MISMATCHES, TUNE_STATUS_RINGS_FAILED, TUNE_STATUS_PHASE]
  | .RING_SEL => [RING_SEL_SITE, RING_SEL_PLANE, RING_SEL_END, RING_SEL_INDEX]
  | .RING_STATUS => [RING_STATUS_HEATER, RING_STATUS_SEARCHES, RING_STATUS_STATE]
  | .LASER_GROUP => [LASER_GROUP_HANDOVERS, LASER_GROUP_FADE, LASER_GROUP_STANDS_FOR, LASER_GROUP_TESTS_FAILED,
      LASER_GROUP_HANDOVER, LASER_GROUP_STATE]
  | .LASER_CFG => [LASER_CFG_OVERLAP_US]
  | .CASOB_SEL => [CASOB_SEL_RETRAIN, CASOB_SEL_SITE, CASOB_SEL_PORT]
  | .CASOB_STATUS => [CASOB_STATUS_REPLAYS, CASOB_STATUS_BAD_DIE, CASOB_STATUS_BAD_RIDGE, CASOB_STATUS_DISAGREE,
      CASOB_STATUS_RETRAIN_PENDING, CASOB_STATUS_WIDTH, CASOB_STATUS_STATE]
  | .PKG_CAPS => [PKG_CAPS_FEATURES, PKG_CAPS_MIXED_REV, PKG_CAPS_LEVEL]
  | .DIE_CAPS => [DIE_CAPS_FEATURES, DIE_CAPS_ADMITTED, DIE_CAPS_LEVEL]
  | .SPUR_FW_CTRL => [SPUR_FW_CTRL_OUT_MASK, SPUR_FW_CTRL_IN_MASK, SPUR_FW_CTRL_RATE, SPUR_FW_CTRL_BURST_LOG2,
      SPUR_FW_CTRL_OUTING]
  | .SPUR_OUT_WIN => [SPUR_OUT_WIN_EN, SPUR_OUT_WIN_RD, SPUR_OUT_WIN_WR, SPUR_OUT_WIN_LOG2_SIZE,
      SPUR_OUT_WIN_DEVICE, SPUR_OUT_WIN_SITE, SPUR_OUT_WIN_BASE]
  | .SPUR_IN_WIN => [SPUR_IN_WIN_EN, SPUR_IN_WIN_RD, SPUR_IN_WIN_WR, SPUR_IN_WIN_LOG2_SIZE, SPUR_IN_WIN_OUTING,
      SPUR_IN_WIN_BASE]
  | .SPUR_CAIRN_GRANT => [SPUR_CAIRN_GRANT_EN, SPUR_CAIRN_GRANT_DEVICE, SPUR_CAIRN_GRANT_SITE,
      SPUR_CAIRN_GRANT_CORE, SPUR_CAIRN_GRANT_FIRST, SPUR_CAIRN_GRANT_COUNT]
  | .SPUR_FW_STATUS => [SPUR_FW_STATUS_OUT_REFUSED, SPUR_FW_STATUS_IN_REFUSED, SPUR_FW_STATUS_LAST_CHECK]
  | .STACK_STATUS => [STACK_STATUS_STATE, STACK_STATUS_MOVE_CHANNEL, STACK_STATUS_RETIRED, STACK_STATUS_CAPACITY_MB,
      STACK_STATUS_MOVE_LINES]
  | .STACK_RETIRED => [STACK_RETIRED_CHANNELS]
  | .RETIRE_CTRL => [RETIRE_CTRL_GO, RETIRE_CTRL_CHANNEL]
  | .CHAN_SEL => [CHAN_SEL_CHANNEL]
  | .CHAN_STATUS => [CHAN_STATUS_CORRECTED, CHAN_STATUS_UNCORRECTED, CHAN_STATUS_REMAPS, CHAN_STATUS_FAILED_VIAS,
      CHAN_STATUS_DATA_SPARES, CHAN_STATUS_CHECK_SPARES, CHAN_STATUS_STATE]
  | .ECC_LAST => [ECC_LAST_CHANNEL, ECC_LAST_UE, ECC_LAST_SYMBOLS, ECC_LAST_OFFSET]
  | .LAYER_SEL => [LAYER_SEL_LAYER]
  | .LAYER_TEMP => [LAYER_TEMP_MEASURED, LAYER_TEMP_ESTIMATE, LAYER_TEMP_WORKING, LAYER_TEMP_SUSPECT,
      LAYER_TEMP_DOUBLE, LAYER_TEMP_REFRESH, LAYER_TEMP_THROTTLED, LAYER_TEMP_OUT_RUNS, LAYER_TEMP_TRIM_RD,
      LAYER_TEMP_TRIM_WR]
  | .SCRUB_STATUS => [SCRUB_STATUS_PASSES, SCRUB_STATUS_NEXT_LINE]
  | .CLK_POINT => [CLK_POINT_TARGET]
  | .CLK_STATUS => [CLK_STATUS_ROOT, CLK_STATUS_DIV, CLK_STATUS_POINT, CLK_STATUS_MOVING, CLK_STATUS_HELD_MARGIN,
      CLK_STATUS_HELD_REF, CLK_STATUS_HELD_LIMIT, CLK_STATUS_STEPS]
  | .REF_STATUS => [REF_STATUS_LOSSES, REF_STATUS_STATE]
  | .REGION_SEL => [REGION_SEL_DIE, REGION_SEL_REGION]
  | .REGION_STATUS => [REGION_STATUS_STRETCHES, REGION_STATUS_HELD, REGION_STATUS_MARGIN_WARNS,
      REGION_STATUS_COL_MIN, REGION_STATUS_COL_MAX, REGION_STATUS_RECENTRES, REGION_STATUS_MARGIN,
      REGION_STATUS_WARN, REGION_STATUS_STOPPED]
  | .STEP_COUNT => [STEP_COUNT_COUNT]
  | .UPTIME_US => [UPTIME_US_COUNT]
  | .STREAM_PACE => [STREAM_PACE_MARKS, STREAM_PACE_LIMIT]
  | .POD_TOPO => [POD_TOPO_EPOCH, POD_TOPO_STANDBY, POD_TOPO_SUMMIT, POD_TOPO_DEVICE, POD_TOPO_LAYOUT,
      POD_TOPO_OVERLAP_US, POD_TOPO_RING_BROKEN, POD_TOPO_BYPASSED, POD_TOPO_JOINED]
  | .POD_MEMBERS => [POD_MEMBERS_DEVICES]
  | .POD_DEAD => [POD_DEAD_DEVICES]
  | .ROUTE => [ROUTE_VALID, ROUTE_ALT, ROUTE_NEXT]
  | .ROUTE_STAGE => [ROUTE_STAGE_VALID, ROUTE_STAGE_ALT, ROUTE_STAGE_NEXT]
  | .POD_LINK_SEL => [POD_LINK_SEL_LINK]
  | .POD_LINK_STATUS => [POD_LINK_STATUS_REPLAYS, POD_LINK_STATUS_PEER_DEVICE, POD_LINK_STATUS_PEER_LINK,
      POD_LINK_STATUS_BAD_LAMBDA, POD_LINK_STATUS_WIDTH, POD_LINK_STATUS_STATE]
  | .GW_STATUS => [GW_STATUS_E2E_RESENDS, GW_STATUS_E2E_DUPS, GW_STATUS_ROUTE_REFUSED]
  | .LINK_RES => [LINK_RES_SHARE]
  | .OUTING_STATUS => [OUTING_STATUS_STATE]
  | .SUMMIT_STATUS => [SUMMIT_STATUS_CMD_SEQ, SUMMIT_STATUS_HANDOVERS, SUMMIT_STATUS_HANDOVER,
      SUMMIT_STATUS_TESTS_FAILED, SUMMIT_STATUS_ROLE]
  | .CORE_FENCE => [CORE_FENCE_TARGET, CORE_FENCE_SUBST, CORE_FENCE_FENCE]
  | .FENCE_STATUS => [FENCE_STATUS_FENCED, FENCE_STATUS_SUBST_FROM, FENCE_STATUS_SUBST_STATE, FENCE_STATUS_HELD]
  | .REPLAY_CTRL => [REPLAY_CTRL_MARKS, REPLAY_CTRL_EN, REPLAY_CTRL_BATCH_CAIRN]
  | .BATCH_MARK => [BATCH_MARK_NEXT, BATCH_MARK_FLAGS, BATCH_MARK_VALID, BATCH_MARK_PC]
  | .BATCH_MARK_SR => [BATCH_MARK_SR_STATE_M, BATCH_MARK_SR_STATE_V]
  | .FP_FLAGS_SET => [FP_FLAGS_SET_FLAGS]
  | .LOG_BASE => [LOG_BASE_ADDR]
  | .LOG_STATUS => [LOG_STATUS_OVERWRITTEN, LOG_STATUS_SUPPRESSED]
  | .LOG_SEQ => [LOG_SEQ_LAST]
  | .TMR_STATUS => [TMR_STATUS_CORRECTIONS]
  | .PWR_STATUS => [PWR_STATUS_VIN, PWR_STATUS_IIN, PWR_STATUS_PIN, PWR_STATUS_STATE, PWR_STATUS_UNDERVOLT,
      PWR_STATUS_WARN, PWR_STATUS_LIMITING, PWR_STATUS_TRIPPED]
  | .PWR_CTRL => [PWR_CTRL_PWR_LIMIT, PWR_CTRL_BOOST_EN]
  | .PWR_COUNTS => [PWR_COUNTS_WARNINGS, PWR_COUNTS_SAVES, PWR_COUNTS_RECOVERED, PWR_COUNTS_TRIPS]
  | .HAMPER_STATUS => [HAMPER_STATUS_GEN_NEWEST, HAMPER_STATUS_NEWEST_SLOT, HAMPER_STATUS_SLOT_1,
      HAMPER_STATUS_SLOT_0]
  | .CORE_PWR => [CORE_PWR_REQ, CORE_PWR_RUNG]
  | .MODULE_PWR => [ MODULE_PWR_REQ, MODULE_PWR_RUNG]
  | .THERM_CTRL => [THERM_CTRL_THROTTLE, THERM_CTRL_BOOST_MAX]
  | .THERM_STATUS => [THERM_STATUS_SHUTDOWN, THERM_STATUS_HOTTEST, THERM_STATUS_HOTTEST_DIE,
      THERM_STATUS_STRETCHING, THERM_STATUS_THROTTLING]
  | .SENSOR_SEL => [SENSOR_SEL_DIE, SENSOR_SEL_LOCATION]
  | .SENSOR_STATUS => [SENSOR_STATUS_DIODE, SENSOR_STATUS_RING, SENSOR_STATUS_WORKING, SENSOR_STATUS_SUSPECT,
      SENSOR_STATUS_INVALID, SENSOR_STATUS_OUT_RUNS]
  | .POD_SAVING => [POD_SAVING_DEVICES]
  | .BOOT_STATUS => [BOOT_STATUS_ROUNDS, BOOT_STATUS_LAST_REASON, BOOT_STATUS_LAST_SOURCE, BOOT_STATUS_STAGE,
      BOOT_STATUS_NETWORK]
  | .BOOT_CTRL => [BOOT_CTRL_BOOT_TIMEOUT_S, BOOT_CTRL_WDOG_MS, BOOT_CTRL_NET_EN, BOOT_CTRL_KICK, BOOT_CTRL_READY]
  | .SVN_STATUS => [SVN_STATUS_MIN_STAGE1, SVN_STATUS_MIN_STAGE2, SVN_STATUS_RUN_STAGE1, SVN_STATUS_RUN_STAGE2,
      SVN_STATUS_REVOKED, SVN_STATUS_PROGRAMMED]
  | .SEC_DATA => [SEC_DATA_DATA]
  | .SEC_CMD => [SEC_CMD_ARG, SEC_CMD_CMD]
  | .SEC_STATUS => [SEC_STATUS_RESULT, SEC_STATUS_BUSY]
  | .HOST_CTRL => [HOST_CTRL_HOST_MAC, HOST_CTRL_WRITE_EN, HOST_CTRL_NAME_EN, HOST_CTRL_EN]
  | .DIE_ID => [DIE_ID_ENGINE_LETTER, DIE_ID_ENGINE_DIGIT, DIE_ID_CODE, DIE_ID_STEP_LETTER, DIE_ID_STEP_DIGIT,
      DIE_ID_LEVEL]
  | .SPUR_ID => [SPUR_ID_VENDOR, SPUR_ID_PART, SPUR_ID_REV]
  | .DIE_DEVICE => [DIE_DEVICE_DEVICE]
  | .RED_STAGE_STATUS => [RED_STAGE_STATUS_DELIVERED, RED_STAGE_STATUS_STATE, RED_STAGE_STATUS_ARM_ERROR,
      RED_STAGE_STATUS_POISONED, RED_STAGE_STATUS_TARGET_SKIPPED, RED_STAGE_STATUS_STALE_DROPPED,
      RED_STAGE_STATUS_INT_SAT, RED_STAGE_STATUS_OVERFLOW, RED_STAGE_STATUS_NAN]

/-- The word the fields' reset values make (R16). -/
def Fld.word (l : List Fld) : Nat := l.foldl (fun w f => setBits f.hi f.lo w f.reset) 0

/-- DIE_ID of die `d` (R1, R494): code, stepping and level; the Ridge's link engines' stepping is in no table: A0 (DESIGN
CHOICE, log entry 10). -/
def dieId (d : Nat) : Nat :=
  if d < 4 then 0x02420120
  else if d = 4 then 0x410001420020
  else if d < 13 then 0x03410220
  else 0x04410120

/-- The word a register instance holds at reset. PLANE_STATUS_p has POSITION p for p below 32 (R279). -/
def RegName.reset (r : RegName) (i : Nat) : Word :=
  if r = .PLANE_STATUS ∧ i < 32 then BitVec.ofNat 64 (setBits 7 3 (Fld.word r.fields) i)
  else if r = .DIE_ID then BitVec.ofNat 64 (dieId i)
  else BitVec.ofNat 64 (Fld.word r.fields)

end Sys2Proof.Machine
end

