-- ==== Sys2Proof/Machine/Float.lean ====
section
/-! DEFINITION. The number formats and their arithmetic (R48-R81): every value is held exactly as sign, magnitude and
power of two; a result is rounded once, where a rule says so. Flags are bits of FP_FLAGS (R75). -/

namespace Sys2Proof.Machine

/-- A value: finite (sign, magnitude `m * 2 ^ e`), an infinity, a NaN, or the poison NaN (R49, R53). -/
inductive FV where
  | fin (neg : Bool) (m : Nat) (e : Int)
  | inf (neg : Bool)
  | nan
  | poison
  deriving DecidableEq, Repr

/-- What the patterns above the largest finite one mean (table "Floating-point constants"). -/
inductive Special where
  | ieee | nanOnly | none
  deriving DecidableEq, Repr

/-- A floating-point format: exponent and mantissa bits, bias, largest finite magnitude pattern (R49). -/
structure FloatFmt where
  expBits : Nat
  manBits : Nat
  bias : Nat
  maxFin : Nat
  special : Special
  deriving DecidableEq, Repr

def FloatFmt.fp32 : FloatFmt := ⟨8, 23, 127, 0x7F7FFFFF, .ieee⟩
def FloatFmt.bf16 : FloatFmt := ⟨8, 7, 127, 0x7F7F, .ieee⟩
def FloatFmt.fp16 : FloatFmt := ⟨5, 10, 15, 0x7BFF, .ieee⟩
def FloatFmt.e5m2 : FloatFmt := ⟨5, 2, 15, 0x7B, .ieee⟩
def FloatFmt.e4m3 : FloatFmt := ⟨4, 3, 7, 0x7E, .nanOnly⟩
def FloatFmt.e3m2 : FloatFmt := ⟨3, 2, 3, 0x1F, .none⟩
def FloatFmt.e2m3 : FloatFmt := ⟨2, 3, 1, 0x1F, .none⟩
def FloatFmt.e2m1 : FloatFmt := ⟨2, 1, 1, 0x7, .none⟩

/-- Position of the sign bit. -/
def FloatFmt.signBit (f : FloatFmt) : Nat := f.expBits + f.manBits

/-- The NaN the module writes in this format (last column of the table). -/
def FloatFmt.nanBits (f : FloatFmt) : Nat :=
  match f.special with
  | .ieee => f.maxFin + 1 + 2 ^ (f.manBits - 1)
  | _ => f.maxFin + 1

/-- The pattern of the poison NaN (R53). -/
def poison32 : Nat := 0x7FC0DEAD

abbrev FpFlags := BitVec 8

def fInvalid : FpFlags := 1
def fOverflow : FpFlags := 2
def fUnderflow : FpFlags := 4
def fClamped : FpFlags := 8
def fNanToInt : FpFlags := 16
def fNanBlock : FpFlags := 32
def fIntSat : FpFlags := 64
def fPoison : FpFlags := 128

/-- The value of a pattern (R49). -/
def FloatFmt.decode (f : FloatFmt) (bits : Nat) : FV :=
  let mag := bits % 2 ^ f.signBit
  let neg := bits / 2 ^ f.signBit % 2 == 1
  if f.maxFin < mag then
    if f.special = .ieee ∧ mag = f.maxFin + 1 then .inf neg
    else if f = .fp32 ∧ bits = poison32 then .poison else .nan
  else
    let e := mag / 2 ^ f.manBits
    let m := mag % 2 ^ f.manBits
    if e = 0 then .fin neg m (1 - (f.bias : Int) - f.manBits)
    else .fin neg (2 ^ f.manBits + m) ((e : Int) - f.bias - f.manBits)

/-- One step of a stochastic-rounding generator; a draw is the state after it (R64). -/
def srStep (x : BitVec 32) : BitVec 32 :=
  let x := x ^^^ (x <<< 13)
  let x := x ^^^ (x >>> 17)
  x ^^^ (x <<< 5)

/-- What a generator is loaded with when seeded with zero (R66). -/
def srDefault : BitVec 32 := 0x9E3779B9#32

/-- The largest k with 2 ^ k at most num / den (both positive). -/
def ilog2 (num den : Nat) : Int :=
  let k : Int := (Nat.log2 num : Int) - Nat.log2 den
  if den * 2 ^ k.toNat ≤ num * 2 ^ (-k).toNat then k else k - 1

/-- A rounded magnitude and the generator after it. -/
structure Rounded where
  bits : Nat
  inexact : Bool
  gen : BitVec 32
  deriving DecidableEq, Repr

/-- Round `n / d` to an integer: nearest with ties to even (R62), or by one draw (R63). An exact quotient takes no draw, also one that
lies beyond the target's largest value (DESIGN CHOICE, log entry 65). -/
def roundQuot (sr : Bool) (g : BitVec 32) (n d : Nat) : Rounded :=
  let lo := n / d
  let rem := n % d
  if rem = 0 then ⟨lo, false, g⟩
  else if sr then
    let r := srStep g
    ⟨if r.toNat * d < rem * 2 ^ 32 then lo + 1 else lo, true, r⟩
  else ⟨if d < 2 * rem ∨ (2 * rem = d ∧ lo % 2 = 1) then lo + 1 else lo, true, g⟩

/-- The magnitude pattern of `num / den * 2 ^ e` rounded to the format, its exponent range unbounded above (R62, R63). -/
def roundMag (f : FloatFmt) (sr : Bool) (g : BitVec 32) (num den : Nat) (e : Int) : Rounded :=
  if num = 0 then ⟨0, false, g⟩
  else
    let emin : Int := 1 - (f.bias : Int)
    let k := max (ilog2 num den + e) emin
    let q := k - f.manBits
    let r := roundQuot sr g (num * 2 ^ (e - q).toNat) (den * 2 ^ (q - e).toNat)
    ⟨(k - emin).toNat * 2 ^ f.manBits + r.bits, r.inexact, r.gen⟩

/-- A converted pattern, the flags it set, and the generator after it. -/
structure Conv where
  bits : Nat
  flags : FpFlags
  gen : BitVec 32
  deriving DecidableEq, Repr

/-- Sign bit of a format, as a number. -/
def FloatFmt.sign (f : FloatFmt) (neg : Bool) : Nat := if neg then 2 ^ f.signBit else 0

/-- A magnitude that passed the largest finite one, under the overflow mode (R68). -/
def FloatFmt.overflowed (f : FloatFmt) (sat neg : Bool) : Nat × FpFlags :=
  if sat then (f.sign neg + f.maxFin, fClamped)
  else match f.special with
    | .ieee => (f.sign neg + f.maxFin + 1, fOverflow)
    | .nanOnly => (f.nanBits, fOverflow)
    | .none => (f.sign neg + f.maxFin, fClamped)

/-- The exact magnitude `num / den * 2 ^ e` with its sign, rounded once to the format (R68, R75). -/
def roundTo (f : FloatFmt) (sr sat : Bool) (g : BitVec 32) (neg : Bool) (num den : Nat) (e : Int) : Conv :=
  let r := roundMag f sr g num den e
  if f.maxFin < r.bits then
    let o := f.overflowed sat neg
    ⟨o.1, o.2, r.gen⟩
  else ⟨f.sign neg + r.bits, if r.inexact ∧ r.bits < 2 ^ f.manBits then fUnderflow else 0, r.gen⟩

/-- A conversion to a floating-point format (R68, table "Overflow, infinity and NaN on conversion"). -/
def FloatFmt.encode (f : FloatFmt) (sr sat : Bool) (g : BitVec 32) (x : FV) : Conv :=
  match x with
  | .fin neg m e => roundTo f sr sat g neg m 1 e
  | .inf neg =>
    if sat then ⟨f.sign neg + f.maxFin, fClamped, g⟩
    else match f.special with
      | .ieee => ⟨f.sign neg + f.maxFin + 1, 0, g⟩
      | .nanOnly => ⟨f.nanBits, fInvalid, g⟩
      | .none => ⟨f.sign neg + f.maxFin, fClamped, g⟩
  | .nan => ⟨f.nanBits, 0, g⟩
  | .poison => if f = .fp32 then ⟨poison32, fPoison, g⟩ else ⟨f.nanBits, 0, g⟩

/-- A rounded FP32 result (IEEE overflow). -/
def enc32 (sr : Bool) (g : BitVec 32) (x : FV) : Conv := FloatFmt.fp32.encode sr false g x

/-- An FP32 result rounded to nearest. -/
def rne32 (x : FV) : Conv := enc32 false 0 x

/-- The value of an FP32 pattern. -/
def dec32 (b : Nat) : FV := FloatFmt.fp32.decode b

/-- An integer conversion: round, then saturate; a NaN becomes 0 (R60, R68, R71). R75 names UNDERFLOW for an
inexact zero whatever the target, so an inexact integer 0 sets it (DEDUCED, log entry 42). -/
def toInt (lo hi : Int) (sr : Bool) (g : BitVec 32) (x : FV) : Int × FpFlags × BitVec 32 :=
  match x with
  | .fin neg m e =>
    let r := roundQuot sr g (m * 2 ^ e.toNat) (2 ^ (-e).toNat)
    let v : Int := if neg then -(r.bits : Int) else r.bits
    if v < lo then (lo, fIntSat, r.gen) else if hi < v then (hi, fIntSat, r.gen)
    else (v, if r.inexact ∧ r.bits = 0 then fUnderflow else 0, r.gen)
  | .inf neg => (if neg then lo else hi, fIntSat, g)
  | .nan => (0, fNanToInt, g)
  | .poison => (0, fNanToInt, g)

/-- The exact value of an integer; zero is +0. -/
def FV.ofInt (i : Int) : FV := .fin (decide (i < 0)) i.natAbs 0

/-- Is the value a NaN of either kind? -/
def FV.isNan : FV → Bool
  | .nan => true
  | .poison => true
  | _ => false

/-- The NaN that NaN operands give: poison if one is poison (R53); `none` when no operand is a NaN. -/
def nanOf (l : List FV) : Option FV :=
  if l.any (· == .poison) then some .poison else if l.any (·.isNan) then some .nan else none

/-- A value times 2 ^ k. -/
def FV.scale (k : Int) : FV → FV
  | .fin n m e => .fin n m (e + k)
  | x => x

/-- A value with its sign turned. -/
def FV.neg : FV → FV
  | .fin n m e => .fin (!n) m e
  | .inf n => .inf (!n)
  | x => x

/-- The exact sum of two values and the INVALID flag of opposite infinities (R51, R75). -/
def FV.add (a b : FV) : FV × FpFlags :=
  match nanOf [a, b] with
  | some n => (n, 0)
  | none =>
    match a, b with
    | .inf x, .inf y => if x = y then (.inf x, 0) else (.nan, fInvalid)
    | .inf x, _ => (.inf x, 0)
    | _, .inf y => (.inf y, 0)
    | .fin x m e, .fin y n k =>
      let q := min e k
      let i : Int := (if x then -1 else 1) * ((m * 2 ^ (e - q).toNat : Nat) : Int)
        + (if y then -1 else 1) * ((n * 2 ^ (k - q).toNat : Nat) : Int)
      if i = 0 then (.fin (x && y) 0 q, 0) else (.fin (decide (i < 0)) i.natAbs q, 0)
    | _, _ => (.nan, 0)

/-- The exact product and the INVALID flag of zero times infinity (R75). -/
def FV.mul (a b : FV) : FV × FpFlags :=
  match nanOf [a, b] with
  | some n => (n, 0)
  | none =>
    match a, b with
    | .inf x, .inf y => (.inf (xor x y), 0)
    | .inf x, .fin y n _ => if n = 0 then (.nan, fInvalid) else (.inf (xor x y), 0)
    | .fin x m _, .inf y => if m = 0 then (.nan, fInvalid) else (.inf (xor x y), 0)
    | .fin x m e, .fin y n k => (.fin (xor x y) (m * n) (e + k), 0)
    | _, _ => (.nan, 0)

/-- The exact a * b + c; INVALID only when no operand is a NaN. -/
def FV.fma (a b c : FV) : FV × FpFlags :=
  match nanOf [a, b, c] with
  | some n => (n, 0)
  | none =>
    let p := a.mul b
    if p.1.isNan then p else p.1.add c

/-- The exact sum of a list, first element on; the empty sum is +0. -/
def FV.sum : List FV → FV × FpFlags
  | [] => (.fin false 0 0, 0)
  | x :: t => t.foldl (fun acc y => let r := acc.1.add y; (r.1, acc.2 ||| r.2)) (x, 0)

/-- Three-way comparison of finite or infinite values: `none` when either is a NaN; +0 equals −0. -/
def FV.cmp (a b : FV) : Option Ordering :=
  if a.isNan ∨ b.isNan then none
  else match a, b with
    | .inf x, .inf y => some (if x = y then .eq else if x then .lt else .gt)
    | .inf x, _ => some (if x then .lt else .gt)
    | _, .inf y => some (if y then .gt else .lt)
    | a, b =>
      match (a.add b.neg).1 with
      | .fin n m _ => some (if m = 0 then .eq else if n then .lt else .gt)
      | _ => none

/-- Is the value a zero? -/
def FV.isZero : FV → Bool
  | .fin _ m _ => m == 0
  | _ => false

/-- Is the sign set? -/
def FV.isNeg : FV → Bool
  | .fin n _ _ => n
  | .inf n => n
  | _ => false

/-- FP32 minimum or maximum of two patterns (R139): NaN rules, and −0 below +0. -/
def minmax32 (wantMax : Bool) (a b : Nat) : Nat × FpFlags :=
  let x := dec32 a
  let y := dec32 b
  match nanOf [x, y] with
  | some n => let c := rne32 n; (c.bits, c.flags)
  | none =>
    match x.cmp y with
    | some .lt => (if wantMax then b else a, 0)
    | some .gt => (if wantMax then a else b, 0)
    | _ =>
      if x.isZero ∧ x.isNeg ≠ y.isNeg then (if wantMax then 0 else 0x80000000, 0) else (a, 0)

/-- One rounded FP32 operation of exact result `r` with its own flags. -/
def finish32 (sr : Bool) (g : BitVec 32) (r : FV × FpFlags) : Conv :=
  let c := enc32 sr g r.1
  ⟨c.bits, c.flags ||| r.2, c.gen⟩

/-- FP32 addition, subtraction, multiplication and fused multiply-add with one rounding (R137). -/
def add32 (sr : Bool) (g : BitVec 32) (a b : Nat) : Conv := finish32 sr g ((dec32 a).add (dec32 b))
def sub32 (sr : Bool) (g : BitVec 32) (a b : Nat) : Conv := finish32 sr g ((dec32 a).add (dec32 b).neg)
def mul32 (sr : Bool) (g : BitVec 32) (a b : Nat) : Conv := finish32 sr g ((dec32 a).mul (dec32 b))
def fma32 (sr : Bool) (g : BitVec 32) (a b c : Nat) : Conv := finish32 sr g ((dec32 a).fma (dec32 b) (dec32 c))

/-- ln 2 times 2 ^ 320, rounded down. -/
def ln2Fixed : Nat := 0xb17217f7d1cf79abc9e3b39803f2f6af40f343267298b62d8a0d175b8baafa2be7b876206debac98

/-- Taylor terms of exp(y), y in units of 2 ^ -320: `n` more terms from term number `k`. -/
def expTerms (y : Nat) : Nat → Nat → Nat → Nat
  | 0, _, _ => 0
  | n + 1, k, t => t + expTerms y n (k + 1) (t * y / 2 ^ 320 / k)

/-- 2 ^ f for a fraction f in units of 2 ^ -320, in the same units (DEDUCED, log entry 13: 80 terms, error below
2 ^ -300). -/
def exp2Frac (f : Nat) : Nat := expTerms (f * ln2Fixed / 2 ^ 320) 80 1 (2 ^ 320)

/-- 2 ^ x rounded to FP32 (R159). -/
def exp2V (x : FV) : Conv :=
  match x with
  | .nan => rne32 .nan
  | .poison => rne32 .poison
  | .inf neg => ⟨if neg then 0 else 0x7F800000, 0, 0⟩
  | .fin neg m e =>
    let i : Int := (if neg then -1 else 1) * (m * 2 ^ e.toNat : Nat)
    let d : Nat := 2 ^ (-e).toNat
    let n : Int := i / (d : Int)
    let f : Nat := (i % (d : Int)).toNat * 2 ^ 320 / d
    if 200 < n then ⟨0x7F800000, fOverflow, 0⟩
    else if n < -200 then ⟨0, fUnderflow, 0⟩
    else if f = 0 then roundTo .fp32 false false 0 false 1 1 n
    else roundTo .fp32 false false 0 false (exp2Frac f) 1 (n - 320)

/-- exp2 of an FP32 pattern. -/
def exp2_32 (a : Nat) : Conv := exp2V (dec32 a)

/-- 1/x rounded to FP32 (R159); a reciprocal of zero sets no flag. -/
def rcp32 (a : Nat) : Conv :=
  match dec32 a with
  | .nan => rne32 .nan
  | .poison => rne32 .poison
  | .inf neg => ⟨FloatFmt.fp32.sign neg, 0, 0⟩
  | .fin neg m e =>
    if m = 0 then ⟨FloatFmt.fp32.sign neg + 0x7F800000, 0, 0⟩
    else roundTo .fp32 false false 0 neg 1 m (-e)

/-- Integer square root by bits: the bits below `k` of the root of `n`, given the root `r` of the bits above. -/
def isqrtBits (n : Nat) : Nat → Nat → Nat
  | 0, r => r
  | k + 1, r => isqrtBits n k (if (r + 2 ^ k) * (r + 2 ^ k) ≤ n then r + 2 ^ k else r)

/-- 1/sqrt(x) rounded to FP32 (R159). -/
def rsqrt32 (a : Nat) : Conv :=
  match dec32 a with
  | .nan => rne32 .nan
  | .poison => rne32 .poison
  | .inf neg => if neg then ⟨0x7FC00000, fInvalid, 0⟩ else ⟨0, 0, 0⟩
  | .fin neg m e =>
    if m = 0 then ⟨FloatFmt.fp32.sign neg + 0x7F800000, 0, 0⟩
    else if neg then ⟨0x7FC00000, fInvalid, 0⟩
    else
      let t := 2 ^ (400 - e).toNat
      let f := isqrtBits (t / m) 300 0
      if f * f * m = t then roundTo .fp32 false false 0 false f 1 (-200)
      else roundTo .fp32 false false 0 false (2 * f + 1) 1 (-201)

end Sys2Proof.Machine
end

