-- ==== Sys2Proof/Machine/Formats.lean ====
section
/-! DEFINITION. Format codes (R127), block formats (R55-R59, R72-R74), operand layout (R156, R157), and the matrix
engine's arithmetic (R76-R80), with the tile write-out conversion (R143, R158). -/

namespace Sys2Proof.Machine

/-- The formats of the table "Format codes", in code order. -/
inductive NumFmt where
  | fp32 | bf16 | fp16 | e4m3 | e5m2 | mxfp8e4m3 | mxfp8e5m2 | mxfp6e2m3 | mxfp6e3m2 | mxfp4 | fp4ps | int8 | int32
  deriving DecidableEq, Repr

/-- The format of a code; a reserved code has none (R127). -/
def NumFmt.ofCode (c : BitVec 5) : Option NumFmt :=
  match c.toNat with
  | 0 => some .fp32 | 1 => some .bf16 | 2 => some .fp16 | 3 => some .e4m3 | 4 => some .e5m2
  | 5 => some .mxfp8e4m3 | 6 => some .mxfp8e5m2 | 7 => some .mxfp6e2m3 | 8 => some .mxfp6e3m2
  | 9 => some .mxfp4 | 10 => some .fp4ps | 11 => some .int8 | 12 => some .int32
  | _ => none

/-- The floating-point format of the elements; integers have none. -/
def NumFmt.elem : NumFmt → Option FloatFmt
  | .fp32 => some .fp32 | .bf16 => some .bf16 | .fp16 => some .fp16 | .e4m3 => some .e4m3 | .e5m2 => some .e5m2
  | .mxfp8e4m3 => some .e4m3 | .mxfp8e5m2 => some .e5m2 | .mxfp6e2m3 => some .e2m3 | .mxfp6e3m2 => some .e3m2
  | .mxfp4 => some .e2m1 | .fp4ps => some .e2m1 | .int8 => none | .int32 => none

/-- Bits of one element (R55, R156). -/
def NumFmt.width : NumFmt → Nat
  | .fp32 => 32 | .int32 => 32 | .bf16 => 16 | .fp16 => 16
  | .e4m3 => 8 | .e5m2 => 8 | .int8 => 8 | .mxfp8e4m3 => 8 | .mxfp8e5m2 => 8
  | .mxfp6e2m3 => 6 | .mxfp6e3m2 => 6 | .mxfp4 => 4 | .fp4ps => 4

/-- Bytes of one scale record; 0 for a format without blocks (R55). -/
def NumFmt.recBytes : NumFmt → Nat
  | .mxfp8e4m3 => 1 | .mxfp8e5m2 => 1 | .mxfp6e2m3 => 1 | .mxfp6e3m2 => 1 | .mxfp4 => 1 | .fp4ps => 2
  | _ => 0

/-- A block format? -/
def NumFmt.isBlock (f : NumFmt) : Bool := f.recBytes != 0

/-- The operand classes of the table "Operand pairs and accumulation" (R76). -/
inductive OpClass where
  | fp4 | fp8 | half | int
  deriving DecidableEq, Repr

/-- The class a format belongs to as an operand; FP32 and INT32 are no operands. -/
def NumFmt.opClass : NumFmt → Option OpClass
  | .fp4ps => some .fp4 | .mxfp4 => some .fp4
  | .e4m3 => some .fp8 | .e5m2 => some .fp8 | .mxfp8e4m3 => some .fp8 | .mxfp8e5m2 => some .fp8
  | .mxfp6e2m3 => some .fp8 | .mxfp6e3m2 => some .fp8
  | .bf16 => some .half | .fp16 => some .half
  | .int8 => some .int
  | .fp32 => none | .int32 => none

/-- Busy time D of an MMA (table "Matrix timing"). -/
def OpClass.busy : OpClass → Nat
  | .fp4 => 32 | .fp8 => 64 | .half => 256 | .int => 64

/-- Two's complement value of the low `w` bits. -/
def signedOf (w v : Nat) : Int :=
  let x := v % 2 ^ w
  if 2 ^ (w - 1) ≤ x then (x : Int) - (2 ^ w : Nat) else x

/-- The value of one element's bits, without its block's scale. -/
def NumFmt.elemValue (f : NumFmt) (b : Nat) : FV :=
  match f.elem with
  | some e => e.decode (b % 2 ^ f.width)
  | none => FV.ofInt (signedOf f.width b)

/-- A block's scale: the E8M0 code and the two fine multipliers (R56, R57); MX records have none. -/
structure BlockScale where
  e : Nat
  m0 : Nat
  m1 : Nat
  deriving DecidableEq, Repr

/-- The scale of a plain operand (R77). -/
def BlockScale.one : BlockScale := ⟨127, 0, 0⟩

/-- A scale record read; RSVD is ignored (R58). -/
def NumFmt.scaleOf (f : NumFmt) (r : Nat) : BlockScale :=
  if f.recBytes = 0 then .one
  else if f = .fp4ps then ⟨r % 256, bits 10 8 r, bits 13 11 r⟩ else ⟨r % 256, 0, 0⟩

/-- The fine multiplier of the half that element `i` of a block lies in. -/
def BlockScale.fine (s : BlockScale) (i : Nat) : Nat := if i % 32 < 16 then s.m0 else s.m1

/-- A value times a natural number. -/
def FV.times (k : Nat) : FV → FV
  | .fin n m e => .fin n (m * k) e
  | x => x

/-- What a block element stands for (R56, R57, R59). -/
def BlockScale.apply (s : BlockScale) (i : Nat) (v : FV) : FV :=
  if s.e = 255 then .nan
  else ((v.times (8 + s.fine i)).scale ((s.e : Int) - 127 - 3))

/-- Element `k` of a little-endian bit string of `w`-bit elements (R55). -/
def elemAt (w : Nat) (str : Nat) (k : Nat) : Nat := str / 2 ^ (w * k) % 2 ^ w

/-- Elements packed into a little-endian bit string (R55). -/
def packElems (w : Nat) : List Nat → Nat
  | [] => 0
  | c :: t => c % 2 ^ w + 2 ^ w * packElems w t

/-- The exponent subtracted when an MX scale is chosen (R72). -/
def NumFmt.emax : NumFmt → Nat
  | .mxfp6e3m2 => 4 | .mxfp8e4m3 => 8 | .mxfp8e5m2 => 15 | _ => 2

/-- A converted block: element codes, scale record, flags, generator. -/
structure BlockConv where
  codes : List Nat
  record : Nat
  flags : FpFlags
  gen : BitVec 32
  deriving DecidableEq, Repr

/-- Clamp a scale code to 0-254 (R72, R73). -/
def clampE (e : Int) : Nat := (max 0 (min 254 e)).toNat

/-- A fine multiplier: half maximum `a` in units of 2 ^ q, block scale code `e` (R73). -/
def fineMult (a : Nat) (q : Int) (e : Nat) : Nat :=
  let k : Int := q - ((e : Int) - 127)
  let n := a * 2 ^ k.toNat
  let d := 6 * 2 ^ (-k).toNat
  if n ≤ d then 0 else min 7 ((8 * (n - d) + (d - 1)) / d)

/-- The elements of a block, each divided by its half's scale and rounded, magnitudes clamped (R72, R73). A clamped element sets
CLAMPED in either overflow mode and in E5M2 too, which has an infinity (DESIGN CHOICE, log entry 65). -/
def blockElems (f : FloatFmt) (s : BlockScale) (sr : Bool) : Nat → BitVec 32 → List FV → List Nat × FpFlags × BitVec 32
  | _, g, [] => ([], 0, g)
  | i, g, x :: t =>
    let c : Conv := match x with
      | .fin neg m e => roundTo f sr true g neg (m * 8) (8 + s.fine i) (e - ((s.e : Int) - 127))
      | _ => ⟨0, 0, g⟩
    let r := blockElems f s sr (i + 1) c.gen t
    (c.bits :: r.1, c.flags ||| r.2.1, r.2.2)

/-- Conversion of 32 values to one block (R72-R74). -/
def encodeBlock (f : NumFmt) (sr sat : Bool) (g : BitVec 32) (vals : List FV) : BlockConv :=
  let hasNan := vals.any (·.isNan)
  let hasInf := vals.any (fun x => match x with | .inf _ => true | _ => false)
  if hasNan ∨ (hasInf ∧ sat = false) then
    ⟨vals.map (fun _ => 0), 0xFF, if hasNan then fNanBlock else fNanBlock ||| fInvalid, g⟩
  else
    let vs := vals.map (fun x => match x with | .inf n => FV.fin n 0xFFFFFF 104 | y => y)
    let q : Int := vs.foldl (fun q x => match x with | .fin _ _ e => min q e | _ => q) 0
    let mags := vs.map (fun x => match x with | .fin _ m e => m * 2 ^ (e - q).toNat | _ => 0)
    let amax := mags.foldl max 0
    let s : BlockScale :=
      if f = .fp4ps then
        let e := if amax = 0 then 0 else clampE (ilog2 amax 6 + q + 127)
        ⟨e, fineMult ((mags.take 16).foldl max 0) q e, fineMult ((mags.drop 16).foldl max 0) q e⟩
      else ⟨if amax = 0 then 0 else clampE (ilog2 amax 1 + q - f.emax + 127), 0, 0⟩
    let r := blockElems ((f.elem).getD .e2m1) s sr 0 g vs
    ⟨r.1, s.m1 * 2048 + s.m0 * 256 + s.e, r.2.1 ||| (if hasInf then fClamped else 0), r.2.2⟩

/-- One value converted to a format without blocks (R68, R71). -/
def NumFmt.encodeElem (f : NumFmt) (sr sat : Bool) (g : BitVec 32) (x : FV) : Conv :=
  match f.elem with
  | some e => e.encode sr sat g x
  | none =>
    let lim : Int := (2 ^ (f.width - 1) : Nat)
    let r := toInt (-lim) (lim - 1) sr g x
    ⟨(r.1 % (2 ^ f.width : Nat)).toNat, r.2.1, r.2.2⟩

/-! ### Tiles -/

/-- An accumulator tile: its tag, and its elements by row * 256 + column, unlisted ones +0 (R76, R83). -/
structure Tile where
  isInt : Bool
  elems : SMap (BitVec 32)
  deriving DecidableEq, Repr

/-- A tile at reset or after TINIT with TAG 0: +0, tag FP32 (R83, R95). -/
def Tile.zero : Tile := ⟨false, []⟩

/-- One element's bits. -/
def Tile.at (t : Tile) (i j : Nat) : BitVec 32 := SMap.get t.elems (i * 256 + j) 0

/-- The exact value of an element under the tile's tag. -/
def Tile.value (t : Tile) (i j : Nat) : FV :=
  if t.isInt then FV.ofInt (t.at i j).toInt else dec32 (t.at i j).toNat

/-- A tile from its 65,536 elements in row-major order. -/
def Tile.ofList (isInt : Bool) (l : List (BitVec 32)) : Tile :=
  ⟨isInt, (List.zip (List.range l.length) l).filter (fun x => x.2 ≠ 0)⟩

/-! ### Operands of an MMA -/

/-- Where an operand lies in the core store (R140): planes' offsets, format, and whether it is a sparse A. -/
structure Operand where
  fmt : NumFmt
  elems : Nat
  scales : Nat
  metadata : Nat
  sparse : Bool
  depth : Nat          -- stored elements per row
  deriving DecidableEq, Repr

/-- Bytes of the element plane: 256 rows. -/
def Operand.elemBytes (o : Operand) : Nat := 256 * o.depth * o.fmt.width / 8

/-- Bytes of the scale plane. -/
def Operand.scaleBytes (o : Operand) : Nat := 256 * (o.depth / 32) * o.fmt.recBytes

/-- The planes the operand has, as (offset, size). -/
def Operand.planes (o : Operand) : List (Nat × Nat) :=
  [(o.elems, o.elemBytes)] ++ (if o.fmt.isBlock then [(o.scales, o.scaleBytes)] else [])
    ++ (if o.sparse then [(o.metadata, 0x4000)] else [])

/-- Fetch cycles: each plane rounded up to 4 KiB (R92). For sparse A and 512-deep B of the FP8 class the table gives one figure, and
the model the count of each format (DESIGN CHOICE, log entry 34). -/
def Operand.fetch (o : Operand) : Nat := (o.planes.map (fun p => (p.2 + 4095) / 4096)).sum

/-- One group of the reduction dimension: element values, their block scale, flags of forming it. -/
structure Group where
  vals : List FV
  scale : BlockScale
  flags : FpFlags
  deriving DecidableEq, Repr

/-- One cycle of a fetch window: at most 4 KiB of a plane (0 elements, 1 scales, 2 metadata) of A or of B (R92). -/
structure Piece where
  ofB : Bool
  plane : Nat
  addr : Nat
  size : Nat
  deriving DecidableEq, Repr

/-- The pieces of an operand in the order they are read: its planes in turn, each upward (DEDUCED, log entry 34). -/
def Operand.pieces (o : Operand) (ofB : Bool) : List Piece :=
  (((List.range 3).zip [(o.elems, o.elemBytes), (o.scales, if o.fmt.isBlock then o.scaleBytes else 0),
      (o.metadata, if o.sparse then 0x4000 else 0)]).map (fun x =>
    (List.range ((x.2.2 + 4095) / 4096)).map (fun i =>
      Piece.mk ofB x.1 (x.2.1 + 4096 * i) (min 4096 (x.2.2 - 4096 * i))))).flatten

/-- The bytes a fetch has read of an operand, plane by plane. -/
structure Fetched where
  elems : Mem
  scales : Mem
  metadata : Mem
  deriving DecidableEq, Repr

def Fetched.none : Fetched := ⟨[], [], []⟩

/-- The bytes of a memory in a range. -/
def Mem.part (m : Mem) (a n : Nat) : Mem := m.filter (fun x => decide (a ≤ x.1 ∧ x.1 < a + n))

/-- A piece read from the core store. -/
def Fetched.take (f : Fetched) (m : Mem) (p : Piece) : Fetched :=
  let l := Mem.part m p.addr p.size
  if p.plane = 0 then { f with elems := f.elems ++ l }
  else if p.plane = 1 then { f with scales := f.scales ++ l }
  else { f with metadata := f.metadata ++ l }

/-- Stored elements of row `r`. -/
def Operand.rowElems (o : Operand) (m : Fetched) (r : Nat) : List FV :=
  let n := o.depth * o.fmt.width / 8
  let str := Mem.readLE m.elems (o.elems + r * n) n
  (List.range o.depth).map (fun k => o.fmt.elemValue (elemAt o.fmt.width str k))

/-- Scale of stored block `q` of row `r` (R156). -/
def Operand.rowScale (o : Operand) (m : Fetched) (r q : Nat) : BlockScale :=
  if o.fmt.isBlock then
    o.fmt.scaleOf (Mem.readLE m.scales (o.scales + (r * (o.depth / 32) + q) * o.fmt.recBytes) o.fmt.recBytes)
  else .one

/-- The four logical positions of one metadata group: stored values x, y at positions i, j (R157). -/
def spread (x y : FV) (i j : Nat) : List FV × FpFlags :=
  let s := x.add y
  ((List.range 4).map (fun p =>
    if p = i ∧ p = j then s.1 else if p = i then x else if p = j then y else FV.fin false 0 0),
   if i = j then s.2 else 0)

/-- The groups of row `r`: `w` positions each, sparse rows spread to logical positions (R77, R78, R157). A block whose scale code is
0xFF is a NaN operand, whose elements set no flag (R59, R75). -/
def Operand.rowGroups (o : Operand) (m : Fetched) (w r : Nat) : List Group :=
  let es := o.rowElems m r
  if o.sparse then
    let md := Mem.readLE m.metadata (o.metadata + 64 * r) 64
    (List.range (o.depth / 16)).map (fun u =>
      let parts := (List.range 8).map (fun k =>
        let g := 8 * u + k
        spread (es.getD (2 * g) .nan) (es.getD (2 * g + 1) .nan) (bits (4 * g + 1) (4 * g) md)
          (bits (4 * g + 3) (4 * g + 2) md))
      let s := o.rowScale m r (u / 2)
      let h := if u % 2 = 0 then s.m0 else s.m1
      ⟨(parts.map (·.1)).flatten, ⟨s.e, h, h⟩, if s.e = 255 then 0 else (parts.map (·.2)).foldl (· ||| ·) 0⟩)
  else
    (List.range (o.depth / w)).map (fun u =>
      ⟨(es.drop (w * u)).take w, o.rowScale m r (w * u / 32), 0⟩)

/-- The exact sum of a group, NaN rules of R80, scales of R77 (16-bit groups have scale one). -/
def groupSum (a b : Group) : FV × FpFlags :=
  let fl := a.flags ||| b.flags
  if a.scale.e = 255 ∨ b.scale.e = 255 ∨ a.vals.any (·.isNan) ∨ b.vals.any (·.isNan) then (.nan, fl)
  else
    let ps := (List.zip (List.range a.vals.length) (List.zip a.vals b.vals)).map (fun x =>
      let p := x.2.1.mul x.2.2
      (p.1.times ((8 + a.scale.fine x.1) * (8 + b.scale.fine x.1)), p.2))
    let s := FV.sum (ps.map (·.1))
    let s' := if (ps.map (·.1)).any (·.isNan) then (FV.nan, fInvalid) else s
    (s'.1.scale ((a.scale.e : Int) + b.scale.e - 254 - 6), fl ||| s'.2)

/-- One group added to an FP32 accumulator: both roundings RNE (R77, R78). -/
def accFp (acc : BitVec 32 × FpFlags) (g : FV × FpFlags) : BitVec 32 × FpFlags :=
  let r := finish32 false 0 g
  let s := finish32 false 0 ((dec32 acc.1.toNat).add (dec32 r.bits))
  (BitVec.ofNat 32 s.bits, acc.2 ||| r.flags ||| s.flags)

/-- An integer's value; integer elements are always finite. -/
def FV.toInt' : FV → Int
  | .fin n m e => (if n then -1 else 1) * (m * 2 ^ e.toNat : Nat)
  | _ => 0

/-- INT32 addition, saturating (R60). -/
def satAdd32 (a : BitVec 32) (b : Int) : BitVec 32 × FpFlags :=
  let s := a.toInt + b
  if s < -(2 ^ 31) then (0x80000000#32, fIntSat)
  else if 2 ^ 31 - 1 < s then (0x7FFFFFFF#32, fIntSat)
  else (BitVec.ofInt 32 s, 0)

/-- One group of INT8 products added to an INT32 accumulator (R79). -/
def accInt (acc : BitVec 32 × FpFlags) (a b : Group) : BitVec 32 × FpFlags :=
  let s : Int := ((List.zip a.vals b.vals).map (fun x => x.1.toInt' * x.2.toInt')).sum
  let r := satAdd32 acc.1 s
  (r.1, acc.2 ||| r.2)

/-- Group length of a class (R76). -/
def OpClass.group : OpClass → Nat
  | .half => 8 | _ => 32

/-- One element of the result: the groups added in ascending order (R77-R79, R155). -/
def mmaElem (c : OpClass) (acc : BitVec 32) (a b : List Group) : BitVec 32 × FpFlags :=
  (List.zip a b).foldl (fun acc x =>
    if c = .int then accInt acc x.1 x.2 else accFp acc (groupSum x.1 x.2)) (acc, 0)

/-- The whole MMA: element (i, j) takes row i of B and row j of A (R155). -/
def mmaTile (c : OpClass) (a b : Operand) (x y : Fetched) (t : Tile) : Tile × FpFlags :=
  let ga := (List.range 256).map (a.rowGroups x c.group)
  let gb := (List.range 256).map (b.rowGroups y c.group)
  let rs := (List.range 65536).map (fun k =>
    mmaElem c (SMap.get t.elems k 0) (ga.getD (k % 256) []) (gb.getD (k / 256) []))
  (Tile.ofList t.isInt (rs.map (·.1)), (rs.map (·.2)).foldl (· ||| ·) 0)

/-! ### Tile write-out -/

/-- Converted planes: element bytes, scale bytes, flags, generator. -/
structure Planes where
  elems : List Byte
  scales : List Byte
  flags : FpFlags
  gen : BitVec 32
  deriving DecidableEq, Repr

/-- Elements converted one by one in order, the generator threaded (R65). -/
def encodeElems (f : NumFmt) (sr sat : Bool) : BitVec 32 → List FV → List Nat × FpFlags × BitVec 32
  | g, [] => ([], 0, g)
  | g, x :: t =>
    let c := f.encodeElem sr sat g x
    let r := encodeElems f sr sat c.gen t
    (c.bits :: r.1, c.flags ||| r.2.1, r.2.2)

/-- A run of 32 values converted: element bytes and scale bytes. -/
def encodeRun (f : NumFmt) (sr sat : Bool) (g : BitVec 32) (vals : List FV) : Planes :=
  if f.isBlock then
    let b := encodeBlock f sr sat g vals
    ⟨toLE (vals.length * f.width / 8) (packElems f.width b.codes), toLE f.recBytes b.record, b.flags, b.gen⟩
  else
    let r := encodeElems f sr sat g vals
    ⟨toLE (vals.length * f.width / 8) (packElems f.width r.1), [], r.2.1, r.2.2⟩

/-- Runs of 32 converted one after another. -/
def encodeRuns (f : NumFmt) (sr sat : Bool) : BitVec 32 → List (List FV) → Planes
  | g, [] => ⟨[], [], 0, g⟩
  | g, v :: t =>
    let p := encodeRun f sr sat g v
    let r := encodeRuns f sr sat p.gen t
    ⟨p.elems ++ r.elems, p.scales ++ r.scales, p.flags ||| r.flags, r.gen⟩

/-- A tile written out in a format, row-major (R143, R158). An INT32 tile written as INT32 is copied bit for bit. -/
def twrPlanes (t : Tile) (f : NumFmt) (sr sat : Bool) (g : BitVec 32) : Planes :=
  encodeRuns f sr sat g ((List.range 2048).map (fun q => (List.range 32).map (fun k => t.value (q / 8) (32 * (q % 8) + k))))

/-- W: cycles of a tile write-out, plane by plane (R96). -/
def NumFmt.twrCycles (f : NumFmt) : Nat :=
  (256 * 256 * f.width / 8 + 4095) / 4096 + (256 * 8 * f.recBytes + 4095) / 4096

end Sys2Proof.Machine
end

