-- ==== Sys2Proof/Machine/CoreTypes.lean ====
section
/-! DEFINITION. The plain data of one core position: its architectural state (R83), its pipelines and bank claims
(R87-R103), its Cairn memory (R178), its external port and copy channels (R217, R230), and its merge contexts (R166). -/

namespace Sys2Proof.Machine

/-- Core states (R114), in code order. -/
inductive CoreSt where
  | stopped | running | frozenWait | frozenBank | halted | faulted | fenced
  deriving DecidableEq, Repr

/-- What a running core is draining toward: nothing, HALTED, STOPPED (R113, R148). -/
inductive Drain where
  | none | halt | stop
  deriving DecidableEq, Repr

/-- A cairn: count, SAT, and the last counted operation's kind (R178, R201). -/
structure Cairn where
  count : BitVec 32
  sat : Bool
  kind : BitVec 3
  deriving DecidableEq, Repr

/-- A cairn at reset. -/
def Cairn.zero : Cairn := ⟨0, false, 0⟩

/-- An error mark on a stored word: one bit, or uncorrectable (R104-R106). -/
inductive Ecc where
  | good | one | bad
  deriving DecidableEq, Repr

/-- An operation in a fixed-latency pipeline (R91): what it does when it comes due. -/
inductive Act where
  | s (r : Nat) (v : Word)
  | v (r : Nat) (v : Vec) (lanes : BitVec 128)
  | p (r : Nat) (v : BitVec 128)
  | t (r : Nat) (v : Tile)
  | flags (f : FpFlags)
  | readS (r addr : Nat)
  | readV (r addr : Nat) (lanes : BitVec 128)
  | write (addr : Nat) (bytes : List (Byte × Bool))
  | fetch (td : Nat) (tile : Tile) (cls : OpClass) (a b : Operand) (rest : Nat) (left : List Piece)
    (gotA gotB : Fetched)
  | cairnAdd (n : Nat) (amount : BitVec 32)
  | cairnSet (n : Nat) (amount : BitVec 32)
  deriving DecidableEq, Repr

/-- A pipeline item: it acts at the end of pipeline cycle `due`; `issued` and `pc` name its bundle, `slot` its slot. -/
structure Item where
  due : Nat
  issued : Nat
  pc : Nat
  slot : Nat
  act : Act
  deriving DecidableEq, Repr

/-- A program footprint: the banks claimed in pipeline cycles `first` to `last`, by the bundle issued when CYCLE_ISSUE
read `issued` (R102). -/
structure Claim where
  first : Nat
  last : Nat
  banks : BitVec 16
  issued : Nat
  deriving DecidableEq, Repr

/-- The matrix engine: when it is free, and the last M-slot instruction's tile, issue cycle and busy time (R90, R94). -/
structure Engine where
  freeAt : Nat
  last : Option (Nat × Nat × Nat)
  deriving DecidableEq, Repr

/-- Kinds of pod operation an external port sends (R145). -/
inductive OpKind where
  | rcadd | pld | pldv | pst | pstv | patom | msg | redc | attn
  deriving DecidableEq, Repr

/-- A pod operation held in a send slot (no sequence number yet) or sent and unacknowledged (R217, R223). -/
structure PodOp where
  id : Nat
  kind : OpKind
  addr : Word
  rd : Nat
  cairn : Nat
  data : Word          -- RCADD amount, PST word, PATOM operand
  cmp : Word           -- PATOM compare value
  vec : Vec
  aop : Nat
  af : Bool
  pc : Nat
  outing : Nat
  seq : Option Nat
  back : Option (List Byte)   -- returned data, before POD_RESULT_RETURN writes it
  lost : Bool                 -- its target died under the full class (R238)
  deriving DecidableEq, Repr

/-- Kinds of fence (R146). -/
inductive FenceKind where
  | all | w | r
  deriving DecidableEq, Repr

/-- A fence: it stands between the operations with smaller and those with larger id (R216). -/
structure Fence where
  id : Nat
  kind : FenceKind
  deriving DecidableEq, Repr

/-- What a copy channel has on its way: a chunk, a chunk rewritten as poison words (R235), or the check value. -/
inductive Phase where
  | chunk | poison | check
  deriving DecidableEq, Repr

/-- A copy channel (R230-R234). `status` is a code of the table "Copy status codes". One chunk is on its way at a time, in
ascending order (DESIGN CHOICE, log entry 24). -/
structure Copy where
  id : Nat
  seq : Nat                       -- of all its messages and its arrival add
  started : Bool                  -- no longer held by a fence
  status : Nat
  reason : Nat
  check : BitVec 32
  src : Word
  dst : Word
  len : Nat
  ck : Nat
  cairn : Nat
  outing : Nat
  pc : Nat
  crc : BitVec 64                 -- running CRC register
  sent : Nat                      -- bytes whose chunks were sent
  performed : Nat                 -- bytes performed at the destination
  flight : Option (Nat × Phase)   -- bytes and kind of what is on its way
  bytes : Option (List Byte)      -- the chunk on its way, once its source in this module has sent it (R233)
  checked : Bool                  -- the check value is performed
  aborted : Bool
  badData : Bool
  srcDead : Bool
  dstDead : Bool
  lost : Bool                     -- a target died under the full class (R238)
  deriving DecidableEq, Repr

/-- A channel that has copied nothing since reset: IDLE. -/
def Copy.idle : Copy :=
  { id := 0, seq := 0, started := false, status := 0, reason := 0, check := 0, src := 0, dst := 0, len := 0, ck := 0,
    cairn := 0, outing := 0x3FF, pc := 0, crc := 0, sent := 0, performed := 0, flight := none, bytes := none, checked := false,
    aborted := false, badData := false, srcDead := false, dstDead := false, lost := false }

/-- A row being merged: M, L, O as FP32 patterns, or NaN (R171). -/
structure MergeRow where
  nan : Option Nat     -- the NaN pattern the row holds
  m : Nat
  l : Nat
  o : List Nat
  deriving DecidableEq, Repr

/-- A merge context holding one ATTN request (R166, R171). -/
structure MergeCtx where
  op : Nat             -- id of the ATTN at its port
  pc : Nat
  outing : Nat
  accept : Nat         -- segments sent and not yet accepted
  seq : Nat            -- the request's sequence number
  missing : Nat        -- segments refused, or whose holder died: they send no partial
  deadSeen : Nat       -- dead answers counted in `missing` whose device has not been declared dead
  declared : Nat       -- segments counted in `missing` by a declaration, whose dead answers may still come
  request : Nat        -- local offset of the request block
  cairn : Nat
  add : Nat
  rows : Nat
  dim : Nat
  mode : Nat
  out : Nat
  spill : Nat
  count : Nat          -- segments in all
  ptes : List Word     -- PTE_ADDR of each segment
  waiting : List Nat   -- segment indices not folded yet
  spilled : List Nat   -- segments written to their spill slots
  merged : List MergeRow
  lost : Bool          -- a holder died under the full class
  flags : Nat
  skipped : Nat
  tokens : Nat
  status : Nat
  reason : Nat
  deriving DecidableEq, Repr

/-- A pending copy-class beat: its bank, the cycles it was refused, and the job it belongs to (R103). -/
structure Beat where
  bank : Nat
  refused : Nat
  job : Nat
  deriving DecidableEq, Repr

/-- A Cairn dump under way (R200, R201): its destination, the records read, newest first, and with record 0 read the words
of the header as they were then. -/
structure Dump where
  dest : Nat
  read : List Word
  head : List Word       -- CYCLE_ISSUE, CYCLE_FROZEN, WAIT_STATE, WAIT_AGE, CAIRN_CTRL
  deriving DecidableEq, Repr

/-- One core position. Registers of the control space stand in State.regs. -/
structure Core where
  pc : Nat
  st : CoreSt
  drain : Drain
  landed : FpFlags               -- flags that landed in this pipeline cycle (R134)
  cyc : Nat                      -- pipeline cycle: a freeze does not advance it (R98)
  s : SMap Word
  v : SMap Vec
  p : SMap (BitVec 128)
  t : SMap Tile
  parity : SMap (BitVec 128)     -- 32-bit groups in error, by parityKey, tileKey and forwardKey (R108)
  store : Mem
  storeEcc : SMap Ecc            -- by 64-bit word
  imem : SMap Word               -- by bundle * 4 + slot (R109)
  imemEcc : SMap Ecc
  cairns : SMap Cairn
  cairnSeq : BitVec 16           -- R201
  shadow : SMap Cairn            -- R428
  pipe : List Item
  claims : List Claim
  engine : Engine
  redirect : Option (Nat × Nat)  -- pipeline cycle and target of a redirect under way (R89)
  held : Option (BitVec 256)     -- the bundle held on a cairn wait
  waitCount : Nat                -- frozen-wait cycles since the wait began or its last refused L1 request (R192)
  l1 : Bool
  wakeAsked : Bool               -- the wake watcher has asked for the clock (R193)
  nextId : Nat
  slots : List PodOp             -- in issue order
  unacked : List PodOp
  fences : List Fence
  copies : SMap Copy
  merges : SMap (Option MergeCtx)
  beats : List Beat              -- oldest first
  sentNow : Bool                 -- the port has sent an operation in this cycle (R217)
  aborts : List Nat              -- channels that a CABORT of the last cycle reaches in this one (R234)
  lastMark : Nat                 -- µs of the last halving of the stream limit, plus one (R399)
  dump : Option Dump             -- the Cairn dump under way (R200)
  force : Bool                   -- a forced bank cycle is due (R103)
  deriving DecidableEq, Repr

/-- A position after power-on reset or RESET_N (R83, R178). -/
def Core.reset : Core :=
  { pc := 0, st := .stopped, drain := .none, landed := 0, cyc := 0, s := [], v := [], p := [], t := [],
    parity := [], store := [], storeEcc := [], imem := [], imemEcc := [], cairns := [], cairnSeq := 0, shadow := [],
    pipe := [], claims := [], engine := ⟨0, none⟩, redirect := none, held := none, waitCount := 0, l1 := false, wakeAsked := false,
    nextId := 0, slots := [], unacked := [], fences := [], copies := [], merges := [], beats := [],
    sentNow := false, aborts := [], lastMark := 0, dump := none, force := false }

/-- QUIET: no fixed-latency operation in flight (R114). -/
def Core.quiet (c : Core) : Bool := c.pipe.isEmpty

/-- Scalar register read; s0 reads as 0 (R83). -/
def Core.readS (c : Core) (r : Nat) : Word := if r = 0 then 0 else SMap.get c.s r 0

/-- Vector register read. -/
def Core.readV (c : Core) (r : Nat) : Vec := SMap.get c.v r 0

/-- Predicate register read; p0 reads as all ones (R83). -/
def Core.readP (c : Core) (r : Nat) : BitVec 128 :=
  if r = 0 then BitVec.allOnes 128 else SMap.get c.p r (BitVec.allOnes 128)

/-- Accumulator tile read. -/
def Core.readT (c : Core) (r : Nat) : Tile := SMap.get c.t r Tile.zero

/-- A cairn. -/
def Core.cairn (c : Core) (n : Nat) : Cairn := SMap.get c.cairns n Cairn.zero

/-- A copy channel. -/
def Core.copy (c : Core) (n : Nat) : Copy := SMap.get c.copies n Copy.idle

/-- Key of a register's parity: class 0 s, 1 v, 2 p. -/
def parityKey (cls r : Nat) : Nat := cls * 64 + r

/-- Key of the parity of half `h` of row `row` of tile `t`: 128 groups of 32 bits. -/
def tileKey (t row h : Nat) : Nat := 256 + 512 * t + 2 * row + h

/-- Key of the parity of a result of tile `t` on the engine's forwarding path (R94, R108). -/
def forwardKey (t : Nat) : Nat := tileKey 32 0 0 + t

/-- Parity marks of a register of class s, v or p. -/
def Core.parityOf (c : Core) (cls r : Nat) : BitVec 128 := SMap.get c.parity (parityKey cls r) 0

/-- Is a group in error under one of the `n` keys from `a` up? -/
def Core.parityIn (c : Core) (a n : Nat) : Bool := c.parity.any (fun x => decide (a ≤ x.1 ∧ x.1 < a + n))

/-- A write of some 32-bit groups stores fresh parity for them (R108). -/
def Core.freshParity (c : Core) (cls r : Nat) (groups : BitVec 128) : Core :=
  { c with parity := SMap.set c.parity (parityKey cls r) (c.parityOf cls r &&& ~~~groups) 0 }

/-- A write of a whole tile stores fresh parity for all its groups (R108). -/
def Core.freshTile (c : Core) (t : Nat) : Core :=
  { c with parity := c.parity.filter (fun x => !(decide (tileKey t 0 0 ≤ x.1 ∧ x.1 < tileKey (t + 1) 0 0) || x.1 == forwardKey t)) }

/-- Scalar register write; s0 discards it (R83). -/
def Core.setS (c : Core) (r : Nat) (v : Word) : Core :=
  if r = 0 then c else { c.freshParity 0 r (BitVec.allOnes 128) with s := SMap.set c.s r v 0 }

/-- Lanes widened to the 4,096 bits they cover. -/
def laneMask (lanes : BitVec 128) : Vec :=
  BitVec.ofNat 4096 (packElems 32 ((List.range 128).map (fun i => if lanes.getLsbD i then 0xFFFFFFFF else 0)))

/-- Vector register write of some 32-bit lanes. -/
def Core.setV (c : Core) (r : Nat) (v : Vec) (lanes : BitVec 128) : Core :=
  let m := laneMask lanes
  { c.freshParity 1 r lanes with v := SMap.set c.v r ((c.readV r &&& ~~~m) ||| (v &&& m)) 0 }

/-- Predicate register write; p0 discards it (R83). -/
def Core.setP (c : Core) (r : Nat) (v : BitVec 128) : Core :=
  if r = 0 then c
  else { c.freshParity 2 r (BitVec.allOnes 128) with p := SMap.set c.p r v (BitVec.allOnes 128) }

/-- Accumulator tile write. -/
def Core.setT (c : Core) (r : Nat) (v : Tile) : Core :=
  { c.freshTile r with t := SMap.set c.t r v Tile.zero }

/-- Pod loads issued and not yet returned (LOADS_OUT, R114): PLD and PLDV (DEDUCED, log entry 20). -/
def Core.loadsOut (c : Core) : Nat :=
  ((c.slots ++ c.unacked).filter (fun o => o.kind = .pld ∨ o.kind = .pldv)).length

/-- COPY_BUSY: bit n is 1 while channel n is ACTIVE. -/
def Core.copyBusy (c : Core) : Nat :=
  ((List.range 16).map (fun n => if (c.copy n).status = 1 then 2 ^ n else 0)).sum

/-- A lane of a vector register. -/
def lane (v : Vec) (i : Nat) : Nat := v.toNat / 2 ^ (32 * i) % 2 ^ 32

/-- A vector from its 128 lanes. -/
def ofLanes (l : List Nat) : Vec := BitVec.ofNat 4096 (packElems 32 l)

/-- All lanes in order. -/
def lanesOf (v : Vec) : List Nat := (List.range 128).map (lane v)

end Sys2Proof.Machine
end

