-- ==== Sys2Proof/Machine/Types.lean ====
section
/-! DEFINITION. The plain data of the units outside the cores: duplicate windows (R223), reduction chunks (R245),
combining windows (R228), the event log (R418), and the messages the module sends (R316, R317). -/

namespace Sys2Proof.Machine

/-- A duplicate window in use: the highest number seen and the map of the 4,096 below it (R223). -/
structure Window where
  h : BitVec 32
  seen : BitVec 4096
  deriving DecidableEq, Repr

/-- An operation at its home: its code, and whether an add is a completion or arrival add (R223). -/
structure HomeOp where
  opc : Opc
  completion : Bool
  req : Req
  deriving DecidableEq, Repr

/-- What waits for the beats of a core store: a pod operation, or a steward access of `n` bytes at `off` (R103, R496). -/
inductive Job where
  | home (op : HomeOp)
  | steward (k off n : Nat) (write : Option Word)
  deriving DecidableEq, Repr

/-- The pod operation of a job. -/
def Job.op : Job → Option HomeOp
  | .home op => some op
  | .steward .. => none

/-- A chunk's round at a context or stage: contributions counted, accumulator lanes, and with ORDERED = 1 the arrivals as
(stream, sequence number, bytes) in arrival order (R245, R246). A context's bytes lie in its spill slots. -/
structure RedChunk where
  count : Nat
  acc : List Nat
  arrivals : List (Nat × Nat × Vec)
  waiting : List HomeOp              -- contributions that wait for the next round (R245)
  deriving DecidableEq, Repr

def RedChunk.empty : RedChunk := ⟨0, [], [], []⟩

/-- An open combining window of a gateway: its unit (48 GW0, 49 GW1), line, outing, and the adds held, in order of arrival
(R228). -/
structure CombWin where
  unit : Nat
  line : Word
  outing : BitVec 10
  held : List HomeOp
  deriving DecidableEq, Repr

/-- A message of a landing's or gateway's own stream sent and not yet answered: the unit and number, and the context (its
register index) or stage (256 + its number) it came from (R222, R247, R250, R252). -/
structure UnitSend where
  unit : Nat
  seq : BitVec 32
  red : Nat
  deriving DecidableEq, Repr

/-- A combined operation sent and not yet answered: its gateway's unit, its sequence number and the originals in order
(R229). -/
structure Combined where
  unit : Nat
  seq : Nat
  originals : List HomeOp
  deriving DecidableEq, Repr

/-- What is wrong with a stored stack line: symbols in error, or the check pattern that always reads uncorrectable
(R350, R351). -/
inductive LineErr where
  | symbols (l : List Nat)
  | pattern
  deriving DecidableEq, Repr

/-- A stack's state beside its memory and registers (R344-R360). A row key is bank * 65536 + row. -/
structure StackSt where
  lines : SMap (Option LineErr)
  failed : SMap (List Nat)               -- failed vias by group 0-71 (R347)
  hist : SMap (List (List Nat))          -- by channel: symbols of the 16 latest corrected lines, newest first (R346)
  suspect : List (Nat × Nat)             -- channel and symbol of the vias to be tested
  corrected : SMap Nat                   -- by channel: corrections since reset (R351)
  tracker : SMap (List (Nat × Nat))      -- by channel: rows and their corrected reads in this pass (R355)
  remaps : SMap (List Nat)               -- by channel: rows remapped, one entry per spare used (R355)
  badRows : SMap (List (Nat × Nat))      -- by channel: rows read uncorrectable and when, in µs (R348)
  waiting : List Nat                     -- channels that wait to retire (R361)
  stress : SMap Int                      -- by layer: the stress correction of both trims (R349)
  refreshes : SMap Nat                   -- by layer: refreshes done (R357, R359)
  temps : SMap Int                       -- by layer: working temperature in units of 1/6000 °C (R360)
  deriving DecidableEq, Repr

/-- A stack after reset. -/
def StackSt.reset : StackSt := ⟨[], [], [], [], [], [], [], [], [], [], [], []⟩

/-- An event raised and not yet appended (R418-R422): the fields of R420 but SEQ, UPTIME_US and CRC. -/
structure Event where
  cls : Nat
  code : Nat
  sev : Nat
  die : Nat
  unit : Nat
  outing : Nat
  time : Nat        -- LOCAL: STEP_COUNT of the die when raised
  d0 : Word
  d1 : Word
  d2 : Word
  device : Option Nat   -- the declaring module, where it is another (R518)
  deriving DecidableEq, Repr

/-! ### The Ridge (R256-R339) -/

/-- A flit: 128 bytes, byte i in bits [8i+7:8i] (R312). -/
abbrev Flit := BitVec 1024

/-- An arbiter of a launch's pair (R267), of a port group of a landing (R268) or of a pod link (R400): which of its last 32
positions sent CTRL (bit 0 the newest), the class that deficit round robin serves and the flits it may still send, and the source
last served in each class. -/
structure Arb where
  ctrl : BitVec 32
  turn : Nat
  left : Nat
  last : List Nat
  deriving DecidableEq, Repr

/-- An arbiter at reset: the first round begins with MGMT and source 0 (DESIGN CHOICE, log entry 66). -/
def Arb.reset : Arb := ⟨0, 3, 0, [15, 15, 15, 15]⟩

/-- A flit a launch has sent and holds (R264): its place in stripe order, 32 * slot + position (R260), and the planes that carried
it, two while the position is doubled (R265). -/
structure SentFlit where
  place : Nat
  planes : List Nat
  flit : Flit
  deriving DecidableEq, Repr

/-- A doubled position of which one copy has arrived: the slot, the plane the other copy comes on, and whether the first copy passed
(R265). -/
structure HalfSeen where
  slot : Nat
  plane : Nat
  passed : Bool
  deriving DecidableEq, Repr

/-- Who takes the flits of a message from its landing (R315, R271): a Casob port, or the site's reduction or merge unit. -/
inductive Taker where
  | port (n : Nat)
  | unit
  deriving DecidableEq, Repr

/-- A message whose flits are being handed on or reassembled: its site, source, VC and TAG (R315). -/
structure MsgKey where
  site : Nat
  source : Nat
  vc : Nat
  tag : Nat
  deriving DecidableEq, Repr

/-- A message complete at a die, a gateway router or a unit, before its own command takes it (R315, log entry 53). -/
structure DieMsg where
  key : MsgKey
  bytes : List Byte
  deriving DecidableEq, Repr

/-- A flit waiting at a launch: whether positions are reserved for it (R269), and the Casob port whose buffer it came from. -/
structure Waiting where
  flit : Flit
  reserved : Bool
  port : Option Nat
  deriving DecidableEq, Repr

/-- An ordered pair of sites (R258): its replay buffer at the launch (R264), its pool at the landing (R271), and replay. -/
structure SadPair where
  sent : List SentFlit             -- sent, credit not yet returned, in stripe order
  resend : Nat                     -- how many of the newest of those are to be sent again (R263)
  pool : List (Nat × Flit)         -- landed, not yet handed on, with their places, in stripe order
  landed : Nat                     -- place of the last flit landed, plus one
  freed : List Nat                 -- credits on their way back, by class
  failed : Option Nat              -- place of the failed flit: it and every later one are discarded (R263)
  asked : Bool                     -- a replay request is on its way
  resume : Option Nat              -- place of the first flit sent again
  skip : List Nat                  -- planes whose position the pair skips (R288)
  seen : List HalfSeen
  arb : Arb
  due : List Nat                   -- planes on which an identity flit is due (R285)
  deriving DecidableEq, Repr

def SadPair.reset : SadPair := ⟨[], 0, [], 0, [0, 0, 0, 0], none, false, none, [], [], Arb.reset, []⟩

/-- A ring beside its RING_STATUS (R281-R287). -/
structure RingX where
  hits : Nat          -- consecutive matching identity flits since the lock
  low : Nat           -- consecutive updates below half the locked level
  step : Nat          -- re-search step of a mismatch at this landing ring, 0 none (R287)
  sent : Nat          -- slot of the last identity flit of this launch ring, plus one (R285)
  deriving DecidableEq, Repr

def RingX.reset : RingX := ⟨0, 0, 0, 0⟩

/-- A temperature set of a calibration item: one run's temperature in units of 0.25 °C, when it was stored, and its results
(R292). -/
structure CalSet where
  temp : Int
  stored : Nat
  values : List Nat
  deriving DecidableEq, Repr

/-- A calibration item beside its registers (R292-R296). -/
structure CalItem where
  sets : List CalSet
  overdue : Bool      -- the overdue record of this age is logged
  forced : Bool       -- forced by a margin monitor (R349)
  width : Nat         -- a Casob port's width before its run (R327)
  temp : Option Int   -- its temperature as last told to the scheduler, in units of 0.25 °C (R293)
  deriving DecidableEq, Repr

def CalItem.reset : CalItem := ⟨[], false, false, 0, none⟩

/-- A laser module beside LASER_GROUP_n (R300-R308, R511, R512). -/
structure LaserX where
  present : Bool
  latchOpen : Bool
  dark : Bool             -- put dark by its latch
  passes : Nat            -- consecutive self-tests passed
  takeback : Bool         -- the OVERLAP under way is a takeback
  tookBack : Option Nat   -- UPTIME_US when it last took control back
  condemned : Bool        -- goes from DIAG to FAILED without a self-test (R304)
  asked : Option Nat      -- a standby's: the 50 µs update in which its group asked (R299)
  deriving DecidableEq, Repr

def LaserX.reset : LaserX := ⟨true, false, false, 0, false, none, false, none⟩

/-- One end of a Casob port (R318-R320). Lists hold one number per virtual channel. -/
structure PortEnd where
  next : Nat                   -- LSEQ of the next DATA flit sent
  expect : Nat                 -- LSEQ expected
  unacked : List (Nat × Flit)  -- replay buffer: the flits as sent
  nak : Bool                   -- a NAK is outstanding
  again : Nat × Nat            -- the LSEQ last replayed and how often in a row
  used : List Nat              -- flits sent
  back : List Nat              -- credits returned, modulo 2^32
  freed : List Nat             -- FREED_v
  owed : List Nat              -- credits to return in CCNT
  buffer : List Flit           -- received since flit sync, not yet freed
  old : List Flit              -- received before flit sync, not yet freed
  command : Option (Nat × Nat) -- SYNC, REMAP or RETRAIN repeated until answered, and its argument
  wire : List Flit             -- IDLE and LINK flits sent and not yet arrived
  deriving DecidableEq, Repr

def PortEnd.reset : PortEnd :=
  ⟨0, 0, [], false, (0, 0), [0, 0, 0, 0], [0, 0, 0, 0], [0, 0, 0, 0], [0, 0, 0, 0], [], [], none, []⟩

/-- A Casob port beside CASOB_STATUS (R322-R328). -/
structure PortX where
  held : Bool     -- DOWN until RESET_N
  part : Bool     -- training after a partial reset
  warm : Bool     -- the training under way is a warm start (R322)
  runs : Nat      -- consecutive calibration runs that ended in disagreement
  gaveUp : Bool   -- no longer made due for width
  deriving DecidableEq, Repr

def PortX.reset : PortX := ⟨false, false, false, 0, false⟩

/-- The Spur site and its firewall (R331-R338). -/
structure Spur where
  rails : Bool
  released : Bool           -- SP_RESET_N is high
  steward : List Nat        -- TAGs of steward requests outstanding
  inbound : List HomeOp     -- requests passed to the Spur and not answered
  tags : List Nat           -- their TAGs, in the same order
  tokens : Nat              -- flits that may pass at once
  waiting : List (Nat × HomeOp)   -- requests that the rate holds back, with their flits
  deriving DecidableEq, Repr

def Spur.reset : Spur := ⟨false, false, [], [], [], 256, []⟩

/-- The Ridge's own state beside its registers. -/
structure Ridge where
  pairs : SMap SadPair            -- by source * 16 + destination
  launch : SMap (List Waiting)    -- by site: flits waiting for their positions, in order of arrival
  weights : SMap Word             -- LAUNCH_ARB as of the last slot boundary, by site (R270)
  ports : SMap Arb                -- arbiters of the landings' port groups, by site * 32 + port (R268)
  bound : List (MsgKey × Taker)   -- messages partly handed on by a landing (R315)
  parts : List (MsgKey × List Flit)   -- messages partly received by a die, router or unit
  inbox : List DieMsg             -- messages received whole
  rings : SMap RingX              -- by ring key
  items : SMap CalItem            -- by item ID (R290)
  running : List Nat              -- items running, oldest first
  searches : List Nat             -- rings that wait to be searched (R282)
  late : List (Nat × Nat × Nat)   -- site, plane, ring of mismatches handled once the plane is in service (R295, R301)
  warmStart : Bool                -- the start-up under way sets the rings from the saved table (R289)
  gap : Option (Nat × Nat)        -- open batch gap: UPTIME_US when opened, its µs
  lastForced : Nat                -- UPTIME_US of the last forced run outside a gap, plus one
  lasers : SMap LaserX            -- by bay
  ends : SMap PortEnd             -- by (site * 32 + port) * 2 + end; end 1 is the Ridge's
  portXs : SMap PortX             -- by site * 32 + port
  firstCaps : SMap (Option (Nat × Nat))   -- by site: LEVEL and FEATURES of the die's first port
  readmit : List Nat              -- sites readmitted after a partial reset
  spur : Spur
  deriving DecidableEq, Repr

def Ridge.reset : Ridge :=
  { pairs := [], launch := [], weights := [], ports := [], bound := [], parts := [], inbox := [], rings := [], items := [], running := [],
    searches := [], late := [], warmStart := false, gap := none, lastForced := 0, lasers := [], ends := [], portXs := [],
    firstCaps := [], readmit := [], spur := Spur.reset }

end Sys2Proof.Machine
end

