-- ==== Sys2Proof/Machine/SystemTypes.lean ====
section
/-! DEFINITION. The plain data of the module's clocks (R363-R384), power (R437-R460), pod links and fabric manager
(R385-R414), steward, security and ports (R461-R489), pins and test port (R501-R506). -/

namespace Sys2Proof.Machine

/-! ### Clocks -/

/-- A clock region beside REGION_STATUS (R369, R370, R375). -/
structure ClkRegion where
  applied : Nat     -- tokens applied
  held : Bool       -- a detection is held
  recentre : Bool   -- a recentre is due (R368)
  stop : Nat        -- 0 runs, 1 stopped for a divider change, 2 for a recentre
  deriving DecidableEq, Repr

def ClkRegion.reset : ClkRegion := ⟨0, false, false, 0⟩

/-- The dies' clocks beside their registers. Regions by die * 32 + region. -/
structure Clk where
  regions : SMap ClkRegion
  issued : SMap Nat       -- stretch tokens issued, by die (R370)
  issuedAt : SMap Nat     -- State.ticks at the last token, plus one, by die
  offset : SMap Int       -- STEP_COUNT beyond the model's own count, by die (R371)
  floorStop : Bool        -- a lowering step is due as the region stop that sets DIV 3 (R374)
  lastLower : Nat         -- count of the last lowering step for the input power, plus one (R452)
  deriving DecidableEq, Repr

def Clk.reset : Clk := ⟨[], [], [], [], false, 0⟩

/-! ### Power -/

/-- A policy request that shedding holds until the restore (R458): a core rung, a module rung, or a wake,
from L6 too or from L5 alone. -/
inductive PowerReq where
  | core (k rung : Nat)
  | module (req : Nat)
  | wake (dim : Bool)
  deriving DecidableEq, Repr

/-- Power and heat beside their registers. -/
structure Power where
  shed : Bool               -- the KC regions are in shed hold (R441)
  reason : Nat              -- REASON of the save under way (R445)
  hold : Bool               -- the module holds itself in reset after the save (R452, R457)
  noSave : Bool             -- shedding began before READY: no Hamper (R487)
  begun : Nat               -- UPTIME_US when the save began
  slot : Nat                -- Hamper slot of the last save
  planes : List Nat         -- planes that shedding withdrew (R440)
  group : Option Nat        -- the save group (R444)
  resetWaits : Bool         -- RESET_N fell while a save ran (R458)
  dogWaits : Bool           -- the watchdog expired while a save ran (R487)
  trip : Bool               -- trip stretch for current (R452)
  heat : Bool               -- trip stretch for heat (R456)
  avg : Nat                 -- 1 ms average of the input power, W (R453)
  cool : Nat                -- consecutive checks with every KC temperature below THROTTLE - 3 (R456)
  supply : SMap Nat         -- supply raised for margin warnings, mV, by die (R456)
  inrush : Bool             -- the input capacitance has been charged (R437)
  requests : List PowerReq  -- held by shedding, oldest first (R43, R458)
  deriving DecidableEq, Repr

def Power.reset : Power := ⟨false, 0, false, false, 0, 0, [], none, false, false, false, false, 0, 0, [], true, []⟩

/-! ### Pod links and the fabric manager -/

/-- A pod link's near end (R387-R391). Lists of credits hold one number per hop class and VC, at 4 * hop + VC. -/
structure LinkX where
  next : Nat                      -- LSEQ of the next DATA flit sent
  expect : Nat                    -- LSEQ expected
  unacked : List (Nat × Flit)     -- replay buffer: the flits as sent
  said : Option Flit              -- the IDLE or LINK flit last sent
  resend : Nat                    -- how many of the newest of those are to be sent again (R391)
  waiting : List (Nat × Flit)     -- flits that wait for the arbiter, with their messages' outings
  arb : Arb                       -- R400
  shares : SMap Nat               -- bytes an outing may still send in its turns (R401)
  turn : Nat                      -- outing that deficit round robin serves
  open_ : SMap (Option Nat)       -- outing of the message under way, by VC (R388)
  nak : Bool                      -- a NAK is outstanding
  again : Nat × Nat               -- the LSEQ last replayed and how often in a row
  used : List Nat                 -- flits sent, less credits returned
  owed : List Nat                 -- credits to return
  parts : SMap (List Flit)        -- messages being received, by VC
  bytes : Nat                     -- bytes sent (R394)
  tries : Nat                     -- full trainings tried since DOWN
  stopped : Bool                  -- stopped by shedding or L6 (R440, R448)
  routed : Bool                   -- it may carry messages: it has entered a route by a swap since it came up (R396)
  deriving DecidableEq, Repr

def LinkX.reset : LinkX :=
  { next := 0, expect := 0, unacked := [], said := none, resend := 0, waiting := [], arb := Arb.reset, shares := [], turn := 0, open_ := [],
    nak := false, again := (0, 0), used := List.replicate 12 0, owed := List.replicate 12 0, parts := [], bytes := 0,
    tries := 0, stopped := false, routed := false }

/-- Messages sent to one device (R392): the next MSEQ, those unacknowledged with the link each left on, those that wait. -/
structure Egress where
  next : Nat
  sent : List (PodMsg × Nat)
  waiting : List PodMsg
  deriving DecidableEq, Repr

def Egress.reset : Egress := ⟨0, [], []⟩

/-- Messages received from one device (R392, R393): the window and the next MSEQ in order. -/
structure Ingress where
  window : Option Window
  next : Nat
  deriving DecidableEq, Repr

def Ingress.reset : Ingress := ⟨none, 0⟩

/-- A request a gateway handed on: its own tag, the requester's device and tag, and what its response echoes (R389). -/
structure TagRec where
  tag : Nat
  device : Nat
  theirs : Nat
  stream : Nat
  seq : Nat
  deriving DecidableEq, Repr

/-- What a module sends round the management ring or over the pod's control traffic (R392, R397, R398, R407, R442). -/
inductive RingMsg where
  | heartbeat | saving | resumed | join | snapshot
  | dead (device : Nat)
  | command (seq : Nat) (cmd : FabricCmd)
  | prepare (seq epoch : Nat)
  | swap (seq epoch : Nat)
  | teardown (seq o : Nat)
  | drained (epoch : Nat)
  | torn (o : Nat)
  | ack (device mseq : Nat)
  | refused (device mseq : Nat)
  deriving DecidableEq, Repr

/-- The gateways, the ring router and the fabric manager beside their registers. -/
structure PodNet where
  links : SMap LinkX
  egress : SMap Egress             -- by destination device
  ingress : SMap Ingress           -- by source device
  tags : List TagRec
  nextTag : Nat
  removed : SMap (List Nat)        -- links a route-refused return removed, by device (R395)
  arrived : List (Nat × List Byte) -- messages complete on a link, with the link, not yet at their gateway
  saving : SMap (List (PodMsg × Option (Nat × Nat)))   -- messages held for a SAVING device, with link and HOP of arrival (R442)
  sent : List RingMsg              -- sent, oldest first
  draining : Option Nat            -- epoch of a swap between PREPARE and SWAP (R398)
  reported : Bool                  -- DRAINED reported
  drained : List Nat               -- members that have reported to this Summit
  swapping : Option Nat            -- epoch of the swap this Summit runs
  cmds : Option Window             -- command numbers applied (R407)
  nextCmd : Nat                    -- the Summit's next command number
  joining : Option Nat             -- device being admitted (R410)
  joins : List Nat                 -- JOINs that wait
  torn : SMap (List Nat)           -- members that have reported TORN, by outing (R412)
  snapshot : List Byte             -- the last snapshot (R407)
  handing : Bool                   -- this Summit is handing over (R408)
  takeover : Bool                  -- the standby starts because the Summit is dead (R409)
  back : Bool                      -- the handover under way is a taking back from DIAG (R408)
  passes : Nat                     -- consecutive self-tests passed in DIAG
  deriving DecidableEq, Repr

def PodNet.reset : PodNet :=
  ⟨[], [], [], [], 0, [], [], [], [], none, false, [], none, none, 0, none, [], [], [], false, false, false, 0⟩

/-! ### Steward -/

/-- The one-time-programmable fuses (R473-R475, R479, R489). -/
structure Fuses where
  uds : BitVec 384
  serial : BitVec 128
  mac : BitVec 48
  hashes : SMap (BitVec 384)   -- by key slot
  programmed : BitVec 4
  revoked : BitVec 4
  min1 : Nat
  min2 : Nat
  debugOpen : Bool
  netBoot : Bool
  deriving DecidableEq, Repr

/-- The fuses of the model's part (DESIGN CHOICE, log entry 10). -/
def Fuses.blank : Fuses := ⟨0, 0, 0, [], 3, 0, 0, 0, false, false⟩

/-- A network transfer (R482). -/
structure NetBoot where
  server : BitVec 48
  length : Nat
  offset : Nat
  tries : Nat
  data : List Byte
  deriving DecidableEq, Repr

/-- What a security command under way blows, so that RESET_N can leave each fuse blown or not (R487). -/
inductive Blow where
  | nothing
  | slot (k : Nat) (before : BitVec 384) (programmed : Bool)
  | revoke (k : Nat) (before : Bool)
  | svn (stage2 : Bool) (before : Nat)
  deriving DecidableEq, Repr

/-- What the module keeps in its flash beside the slots (R354, R426, R466). -/
structure Kept where
  retired : SMap Word    -- RETIRED masks by stack
  fenced : List Nat      -- fenced positions
  cert : List Byte       -- DevID certificate
  table : SMap (List CalSet)   -- saved table of the rings, by plane (R289)
  deriving DecidableEq, Repr

/-- A hart's trap and translation state (R26, R461, R462, R491, R493). -/
structure Hart where
  on : Bool
  mode : Nat
  pc : Word
  mepc : Word
  mcause : Word
  mtval : Word
  mtvec : Word
  mie : Bool
  mpie : Bool
  mpp : Nat
  mtip : Bool
  cmp : Word
  medeleg : Word     -- exceptions that supervisor level takes
  sepc : Word
  scause : Word
  stval : Word
  stvec : Word
  sie : Bool
  spie : Bool
  spp : Bool         -- true supervisor, false user
  sum : Bool
  mxr : Bool
  satp : Word
  deriving DecidableEq, Repr

/-- A hart after reset (PRESUMED, log entry 11). -/
def Hart.reset : Hart :=
  ⟨false, 3, 0, 0, 0, 0, 0, false, false, 0, false, 0, 0, 0, 0, 0, 0, false, false, false, false, false, 0⟩

/-- A management frame the module sends (R480). -/
structure Frame where
  mac : BitVec 48
  kind : Nat
  status : Nat
  xid : BitVec 32
  arg : Nat
  data : List Byte
  deriving DecidableEq, Repr

/-- The steward die beside its registers. -/
structure Steward where
  loading : Option Nat            -- the stage whose sources are being tried (R468)
  source : Nat                    -- the source being tried
  offer : Bool                    -- a BOOT_REQ waits for its offer
  net : Option NetBoot
  net1 : Bool                     -- the running stage 1 came from the network
  wait : Option Nat               -- back-off under way, in µs (R469)
  meas1 : BitVec 384
  meas2 : BitVec 384
  measExt : BitVec 384
  user : BitVec 512
  aliasKey : Nat
  aliasCert : List Byte
  fuses : Fuses
  sec : Nat                       -- RESULT of the command under way
  blow : Blow
  kept : Kept
  harts : SMap Hart
  irq : BitVec 32                 -- pending interrupt sources (R463)
  claimed : BitVec 32             -- sources claimed and not completed
  again : BitVec 32               -- of those, the ones raised meanwhile
  plic : SMap Nat                 -- priorities, enables and thresholds of the interrupt controller, by offset / 4
  window : SMap Word              -- the status window, by offset / 8 (R465)
  linkUp : Bool                   -- the management port's link
  fec : Bool                      -- RS-FEC is enabled (R481)
  sent : List Frame               -- frames sent, oldest first
  queue : List (List Byte)        -- frames queued for firmware
  attest : Option (FrameHead × BitVec 384)   -- the attestation request being answered
  xids : List (BitVec 32 × Frame) -- cairn adds of the last 64 transactions, newest last
  dynamic : Option (BitVec 7)     -- I3C dynamic address
  cap : Nat                       -- BMC_CAP
  mask : BitVec 8                 -- ALERT_MASK
  flags : BitVec 8                -- ALERT_FLAGS
  request : BitVec 8              -- REQUEST
  refused : Nat                   -- WRITES_REFUSED
  bySev : List Nat                -- records appended, by severity
  lastFatal : Nat                 -- CLASS + 256 * CODE of the newest FATAL record
  lastErrors : List Nat           -- the four newest ERROR records
  ibi : List Nat                  -- in-band interrupts sent: flag numbers
  i3cAt : Nat × Nat               -- PAGE and OFFSET where the target's next read begins (R485)
  deriving DecidableEq, Repr

/-- The steward after reset: hart 0 alone runs (R462). -/
def Steward.reset : Steward :=
  { loading := none, source := 0, offer := false, net := none, net1 := false, wait := none, meas1 := 0, meas2 := 0, measExt := 0,
    user := 0, aliasKey := 0, aliasCert := [], fuses := Fuses.blank, sec := 0, blow := .nothing, kept := ⟨[], [], [], []⟩,
    harts := [(0, { Hart.reset with on := true })], irq := 0, claimed := 0, again := 0, plic := [], window := [], linkUp := false, fec := true, sent := [],
    queue := [], attest := none, xids := [], dynamic := none, cap := 0, mask := 0, flags := 0, request := 0,
    refused := 0, bySev := [0, 0, 0, 0], lastFatal := 0, lastErrors := [], ibi := [], i3cAt := (0, 0) }

/-! ### Pins and test port -/

/-- Instructions of the test access port (R506). -/
inductive JtagIr where
  | bypass | samplePreload | extest | idcode
  deriving DecidableEq, Repr

/-- Pins and the test access port. Bit n - 1 of a boundary word stands for land F4.n. -/
structure Pins where
  resetLow : Bool        -- RESET_N is low
  held : Bool            -- the module holds itself in reset (R437, R452, R457, R504, R506)
  up : Bool              -- start-up has begun (R504 step 4)
  pfsave : Bool          -- PFSAVE_N is high
  ir : JtagIr
  shift : BitVec 32      -- what the selected register shifts out
  update : BitVec 32     -- boundary update register
  deriving DecidableEq, Repr

/-- Pins after reset; IDCODE is the test port's instruction after its own reset (IEEE 1149.1, log entry 12). -/
def Pins.reset : Pins := ⟨false, false, false, true, .idcode, 0x1B960ABD, 0⟩

end Sys2Proof.Machine
end

