-- ==== Sys2Proof/Machine/State.lean ====
section
/-! DEFINITION. The state of one module: plain data, holding everything the spec gives it, and the queue of commands. -/

namespace Sys2Proof.Machine

/-- Why the machine would stop with a fault. No command of the table stops: every row has an effect (INVENTORY.md,
Faults). The one reason stands for an instruction with no effect at all; nothing raises it. Safe. -/
inductive Fault where
  /-- Raised by nothing. -/
  | noEffect
  deriving DecidableEq, Repr

/-- Why the model would refuse a command. -/
inductive Refusal where
  /-- An arm of exec without a meaning raises this, naming the row. Safe. -/
  | notModelled (mnemonic : String)
  deriving DecidableEq, Repr

/-- The ordering code of the module (R1, R2). -/
inductive Part where
  | kb768 | kb384
  deriving DecidableEq, Repr

/-- Messages the module has sent and that have not yet arrived (R316, R317): the model's own field. -/
inductive Msg where
  | request (op : HomeOp)
  | response (r : Resp)
  | partialRecord (stream ctx : Nat) (p : PartialMsg)
  deriving DecidableEq, Repr

/-- The module. -/
structure State where
  part : Part
  regs : SMap Word                 -- registers that differ from their reset word, by RegName.key
  ticks : Nat                      -- CCLK cycles stepped
  free : Nat                       -- index of the next free value (log entry 9)
  cores : SMap Core                -- by 9 * die + position
  out : List Msg
  windows : SMap (Option Window)   -- by (2 * site + kind) * 4096 + stream; kind 0 operations, 1 adds
  admitted : SMap (List (BitVec 32 × Nat))   -- copies' numbers and the granules they passed, by site * 4096 + stream (R207)
  history : SMap (List (BitVec 32 × Word))   -- the 64 latest atomics by site * 4096 + stream (R225)
  jobs : SMap (Option Job)          -- what waits for pending beats, by job number
  nextJob : Nat
  held : SMap (List HomeOp)        -- accesses held for a substitution, by die, oldest first (R425)
  wakeHeld : SMap (List HomeOp)    -- operations held for a waking position, or (key 36) a waking module (R449, R450)
  combining : List CombWin
  combined : List Combined
  streamSeq : SMap Nat             -- next sequence number of the landings' and gateways' streams (R222), by unit
  unitSends : List UnitSend        -- deliveries and stage outputs not yet answered (R224, R247, R252)
  lines : SMap Nat                 -- by 64-byte line: State.ticks at which its home's queue is empty (R227)
  reds : SMap RedChunk             -- by (context or stage key) * 1024 + chunk
  stackMem : SMap Mem                -- stack memories by stack 0-7
  stackSts : SMap StackSt
  attnQueue : SMap (List Req)      -- by stack (R169)
  stewardMem : Mem
  flash : Mem                      -- the steward's flash but its Hamper slots
  hamper : SMap (List Byte)        -- the Hamper slots: header, then body (R445, R466)
  hartRead : Word                  -- what the last steward read returned
  events : List Event              -- raised, not yet appended
  early : Mem                      -- the early ring of 256 records (R419)
  fatal : List (List Byte)         -- FATAL records kept in flash, newest last (R418)
  logCounts : SMap (Nat × Nat)     -- this millisecond, by source unit: appended, suppressed (R421)
  logFirst : Nat                   -- early records lost before the log was placed (R419)
  ridge : Ridge
  clk : Clk
  power : Power
  podnet : PodNet
  steward : Steward
  pins : Pins
  pending : List Instr
  deriving DecidableEq, Repr

/-- The module right after reset. The part and every fuse are DESIGN CHOICE (log entry 10). -/
def State.reset : State :=
  { part := .kb768, regs := [], ticks := 0, free := 0, cores := [], out := [], windows := [], admitted := [], history := [],
    jobs := [], nextJob := 0, held := [], wakeHeld := [], combining := [], combined := [], streamSeq := [], unitSends := [],
    lines := [], reds := [], stackMem := [], stackSts := [],
    attnQueue := [], stewardMem := [], flash := [], hamper := [], hartRead := 0, events := [], early := [], fatal := [],
    logCounts := [], logFirst := 0, ridge := Ridge.reset,
    clk := Clk.reset, power := Power.reset, podnet := PodNet.reset, steward := Steward.reset, pins := Pins.reset,
    pending := [] }

/-- The stored word of a register instance. -/
def State.word (s : State) (r : RegName) (i : Nat) : Word := SMap.get s.regs (r.key i) (r.reset i)

/-- Store a register instance's word. -/
def State.setWord (s : State) (r : RegName) (i : Nat) (w : Word) : State :=
  { s with regs := SMap.set s.regs (r.key i) w (r.reset i) }

/-- A stored field's value. -/
def State.get (s : State) (f : Fld) (i : Nat) : Nat := bits f.hi f.lo (s.word f.reg i).toNat

/-- Store a field's value (modulo its size); the word's other bits stay. -/
def State.put (s : State) (f : Fld) (i : Nat) (v : Nat) : State :=
  s.setWord f.reg i (BitVec.ofNat 64 (setBits f.hi f.lo (s.word f.reg i).toNat v))

/-- The largest value a field holds. -/
def Fld.max (f : Fld) : Nat := 2 ^ (f.hi + 1 - f.lo) - 1

/-- Add to a counting field, saturating at its largest value. -/
def State.bump (s : State) (f : Fld) (i n : Nat) : State := s.put f i (min f.max (s.get f i + n))

/-- A one-bit field is set. -/
def State.flag (s : State) (f : Fld) (i : Nat) : Bool := s.get f i == 1

/-- A core position by number. -/
def State.core (s : State) (k : Nat) : Core := SMap.get s.cores k Core.reset

/-- Store a core position. -/
def State.setCore (s : State) (k : Nat) (c : Core) : State := { s with cores := SMap.set s.cores k c Core.reset }

/-- Change a core position. -/
def State.modCore (s : State) (k : Nat) (f : Core → Core) : State := s.setCore k (f (s.core k))

/-- The number of a core position: 9 * die + position. -/
def coreNum (c : CoreRef) : Nat := 9 * c.die.val + c.pos.val

/-- Send a message. -/
def State.send (s : State) (m : Msg) : State := { s with out := s.out ++ [m] }

/-- The memory of stack `m`. -/
def State.stack (s : State) (m : Nat) : Mem := SMap.get s.stackMem m []

/-- Store the memory of stack `m`. -/
def State.setStack (s : State) (m : Nat) (v : Mem) : State := { s with stackMem := SMap.set s.stackMem m v [] }

/-- The rest of stack `m`. -/
def State.stackSt (s : State) (m : Nat) : StackSt := SMap.get s.stackSts m StackSt.reset

/-- Change the rest of stack `m`. -/
def State.modStack (s : State) (m : Nat) (f : StackSt → StackSt) : State :=
  { s with stackSts := SMap.set s.stackSts m (f (s.stackSt m)) StackSt.reset }

/-- A fresh free value (log entry 9). -/
def State.fresh (s : State) : Word × State := (Config.freeWord s.free, { s with free := s.free + 1 })

/-- The model's own count of STEP_COUNT: 9.765625 MHz beside CCLK at 1.6 GHz (R383, log entry 2). -/
def State.baseCount (s : State) : Nat := s.ticks * 25 / 4096

/-- STEP_COUNT of die `d` (R371). -/
def State.stepCount (s : State) (d : Nat) : Nat := ((s.baseCount : Int) + SMap.get s.clk.offset d 0).toNat

/-- UPTIME_US (R383, log entry 2). -/
def State.uptime (s : State) : Nat := s.ticks / 1600

/-- Raise an interrupt source of the steward (R463): it is pending at once, or, claimed and not yet completed, when it is completed. -/
def State.interrupt (s : State) (n : Nat) : State :=
  { s with steward :=
      if s.steward.claimed.getLsbD n then { s.steward with again := s.steward.again ||| (1 <<< n) }
      else { s.steward with irq := s.steward.irq ||| (1 <<< n) } }

/-- Set an alert flag: a rising unmasked flag sends an in-band interrupt (R485). -/
def State.alert (s : State) (f : Nat) : State :=
  { s with steward := { s.steward with
    flags := s.steward.flags ||| (1 <<< f)
    ibi := if s.steward.flags.getLsbD f || s.steward.mask.getLsbD f then s.steward.ibi else s.steward.ibi ++ [f] } }

/-- The alert flag of an event, if it has one (R485): the eight flags by class and code. -/
def alertOf (cls code sev : Nat) : Option Nat :=
  if cls = 0x0C ∧ code = 9 then some 0
  else if cls = 0x0C ∧ code = 7 then some 1
  else if cls = 0x0C ∧ code = 2 then some 2
  else if cls = 0x0D ∧ code = 3 then some 4
  else if (cls = 0x0C ∧ code = 11) ∨ (cls = 0x09 ∧ code = 7) then some 5
  else if cls = 0x07 ∧ (code = 3 ∨ code = 4) then some 6
  else if cls = 0x09 ∧ (code = 4 ∨ code = 5) then some 7
  else if sev = 3 then some 3
  else none

/-- Raise an event; the event log appends it by EVENT_RECORD_APPEND (R418). -/
def State.raise (s : State) (cls code sev die unit outing : Nat) (d0 d1 d2 : Word) : State :=
  let s := { s with events := s.events ++ [⟨cls, code, sev, die, unit, outing, s.stepCount die, d0, d1, d2, none⟩] }
  match alertOf cls code sev with
  | some f => s.alert f
  | none => s

/-- A register event of class 0x01 (R518): the die and unit holding it, its address, the value written. -/
def State.regEvent (s : State) (code die unit : Nat) (addr : Nat) (v : Word) : State :=
  s.raise 0x01 code 0 die unit 0x3FF (BitVec.ofNat 64 addr) v 0

end Sys2Proof.Machine
end

