-- ==== Sys2Proof/Machine/Addr.lean ====
section
/-! DEFINITION. The steward's physical map (R491, R492, R494, R496, R498): where each register and each window lies, and
the register that an address names. -/

namespace Sys2Proof.Machine

/-- Where a register's holder lies: each core position, each compute die's uncore, one block, each stack, each die header. -/
inductive Space where
  | position | uncore | block (b : Nat) | stack | header
  deriving DecidableEq, Repr

/-- A row of the register index: `n` registers of one holder, `stride` bytes apart; numbers `gap` apart between holders. -/
structure RegRow where
  reg : RegName
  space : Space
  off : Nat
  n : Nat
  stride : Nat
  gap : Nat
  deriving DecidableEq, Repr

/-- Registers at consecutive offsets of a space, one per holder. -/
def runOf (sp : Space) : Nat → List RegName → List RegRow
  | _, [] => []
  | o, r :: t => ⟨r, sp, o, 1, 8, 1⟩ :: runOf sp (o + 8) t

/-- The register index, position spans and uncore (R498). -/
def regRowsCore : List RegRow :=
  runOf .position 0x4110000
    [.CORE_CTRL, .CORE_STATUS, .CORE_FAULT, .FP_FLAGS, .SR_SEED_V, .SR_SEED_M, .SR_STATE, .CYCLE_ISSUE, .CYCLE_FROZEN,
     .STORE_ECC, .STORE_SCRUB, .IMEM_ECC, .SELF, .CORE_OUTING, .POD_SEQ, .POD_STATUS, .STREAM_PACE, .CORE_PWR,
     .CAIRN_CTRL, .WAIT_STATE, .WAIT_AGE, .CAIRN_STATS, .CAIRN_DUMP_ADDR, .CAIRN_DUMP_CTRL, .REPLAY_CTRL, .BATCH_MARK,
     .BATCH_MARK_SR, .FP_FLAGS_SET]
  ++ runOf .uncore 0xF0000000 [.CORE_MAP, .CORE_FENCE, .FENCE_STATUS, .DIE_DEVICE]

/-- The Ridge's block 4. -/
def regRowsRidge : List RegRow :=
  runOf (.block 4) 0x0 [.SITE_MAP, .SLOT_COUNT, .TUNE_STATUS, .RING_SEL, .RING_STATUS, .LASER_CFG, .CASOB_SEL,
    .CASOB_STATUS, .PKG_CAPS, .SPUR_FW_CTRL, .SPUR_FW_STATUS]
  ++ [⟨.PLANE_STATUS, .block 4, 0x100, 40, 8, 0⟩, ⟨.LAUNCH_ARB, .block 4, 0x300, 16, 8, 0⟩,
    ⟨.LAND_STATUS, .block 4, 0x380, 16, 8, 0⟩, ⟨.LOOP_TEST, .block 4, 0x400, 16, 8, 0⟩,
    ⟨.LASER_GROUP, .block 4, 0x480, 8, 8, 0⟩, ⟨.DIE_CAPS, .block 4, 0x500, 14, 8, 0⟩,
    ⟨.SPUR_OUT_WIN, .block 4, 0x600, 8, 8, 0⟩, ⟨.SPUR_IN_WIN, .block 4, 0x640, 8, 8, 0⟩,
    ⟨.SPUR_CAIRN_GRANT, .block 4, 0x680, 8, 8, 0⟩,
    ⟨.RED_CFG, .block 4, 0x10000, 256, 0x40, 0⟩, ⟨.RED_OUT, .block 4, 0x10008, 256, 0x40, 0⟩,
    ⟨.RED_ADMIT, .block 4, 0x10010, 256, 0x40, 0⟩, ⟨.RED_DELIVER, .block 4, 0x10018, 256, 0x40, 0⟩,
    ⟨.RED_UNITS, .block 4, 0x10020, 256, 0x40, 0⟩, ⟨.RED_STATUS, .block 4, 0x10028, 256, 0x40, 0⟩]

/-- Stacks, steward and gateways, and the die headers (R494). -/
def regRowsRest : List RegRow :=
  runOf .stack 0x0 [.STACK_STATUS, .STACK_RETIRED, .RETIRE_CTRL, .CHAN_SEL, .CHAN_STATUS, .ECC_LAST, .LAYER_SEL,
    .LAYER_TEMP, .SCRUB_STATUS]
  ++ [⟨.GRANULE_OWNER, .stack, 0x100, 90, 8, 128⟩]
  ++ runOf (.block 13) 0x0 [.CLK_POINT, .REGION_SEL, .REGION_STATUS, .UPTIME_US, .CAL_CTRL, .CAL_GAP, .CAL_SEL,
    .CAL_ITEM_STATUS, .CAL_ITEM_TIME, .BANDGAP_STATUS, .LOG_BASE, .LOG_STATUS, .LOG_SEQ, .PWR_STATUS, .PWR_CTRL,
    .PWR_COUNTS, .HAMPER_STATUS, .MODULE_PWR, .THERM_CTRL, .THERM_STATUS, .SENSOR_SEL, .SENSOR_STATUS]
  ++ runOf (.block 13) 0x10000 [.BOOT_STATUS, .BOOT_CTRL, .SVN_STATUS, .SEC_CMD, .SEC_STATUS]
  ++ [⟨.SEC_DATA, .block 13, 0x10040, 8, 8, 0⟩, ⟨.HOST_CTRL, .block 13, 0x20000, 1, 8, 0⟩]
  ++ runOf (.block 15) 0x0 [.POD_TOPO, .POD_CFG, .POD_MEMBERS, .POD_DEAD, .POD_SAVING, .POD_LINK_SEL, .POD_LINK_STATUS,
    .GW_STATUS, .SUMMIT_STATUS]
  ++ [⟨.ROUTE, .block 15, 0x200, 64, 8, 0⟩, ⟨.ROUTE_STAGE, .block 15, 0x400, 64, 8, 0⟩,
    ⟨.LINK_RES, .block 15, 0x800, 256, 8, 0⟩, ⟨.OUTING_STATUS, .block 15, 0x1000, 256, 8, 0⟩,
    ⟨.RED_STAGE_CFG, .block 15, 0x20000, 256, 0x20, 0⟩, ⟨.RED_STAGE_UNITS, .block 15, 0x20008, 256, 0x20, 0⟩,
    ⟨.RED_STAGE_STATUS, .block 15, 0x20010, 256, 0x20, 0⟩]
  ++ runOf .header 0xFFFF0000 [.DIE_ID, .STEP_COUNT, .REF_STATUS, .TMR_STATUS, .CLK_STATUS]

/-- The whole index. -/
def regRows : List RegRow := regRowsCore ++ regRowsRidge ++ regRowsRest

/-- Base of the module register space (R491). -/
def regBase : Nat := 0x10000000000

/-- Base address of holder `h` of a space. -/
def Space.base (sp : Space) (h : Nat) : Nat :=
  match sp with
  | .position => regBase + h / 9 * 0x100000000 + h % 9 * 0x10000000
  | .uncore => regBase + h * 0x100000000
  | .block b => regBase + b * 0x100000000
  | .stack => regBase + (5 + h) * 0x100000000
  | .header => regBase + h * 0x100000000

/-- Width of an access in bytes. -/
def accessBytes : AccessSize → Nat
  | .b1 => 1
  | .b2 => 2
  | .b4 => 4
  | .b8 => 8

/-- The holder of a space in block `b` at block offset `o`, and the offset within the holder. -/
def Space.holder (sp : Space) (b o : Nat) : Option (Nat × Nat) :=
  match sp with
  | .position => if b < 4 ∧ o < 0x90000000 then some (9 * b + o / 0x10000000, o % 0x10000000) else none
  | .uncore => if b < 4 ∧ 0xF0000000 ≤ o then some (b, o) else none
  | .block b' => if b = b' then some (0, o) else none
  | .stack => if 5 ≤ b ∧ b < 13 then some (b - 5, o) else none
  | .header => if b < 14 then some (b, o) else none

/-- The register number a row gives an offset, if it lies on one of its registers' bytes. -/
def RegRow.find (r : RegRow) (b o : Nat) : Option Nat :=
  match r.space.holder b o with
  | none => none
  | some (h, x) =>
    if r.off ≤ x ∧ (x - r.off) / r.stride < r.n ∧ (x - r.off) % r.stride < 8 then
      some (h * r.gap + (x - r.off) / r.stride)
    else none

/-- What a steward address names (R491, R496). -/
inductive Place where
  | reg (r : RegName) (i : Nat)
  | store (core off : Nat)
  | imem (core slot : Nat)
  | cairn (core n : Nat)
  | shadow (core n : Nat)
  | stewardMem (a : Nat)
  | flash (a : Nat)
  | window (off : Nat)           -- the status window (R465)
  | mtime
  | mtimecmp (hart : Nat)
  | plic (off : Nat)
  | rom (off : Nat)
  | spur (off : Nat)             -- block 14 (R495)
  | empty (block off : Nat)      -- an offset of a present block that no table lists (R493)
  | outside
  deriving DecidableEq, Repr

/-- The register named by block `b`, offset `o`. -/
def findReg (b o : Nat) : Option (RegName × Nat) :=
  regRows.findSome? (fun r => (r.find b o).map (fun i => (r.reg, i)))

/-- What an address names. -/
def locate (a : Nat) : Place :=
  if a < 0x10000 then .rom a
  else if 0x2000000 ≤ a ∧ a < 0x2010000 then
    let o := a - 0x2000000
    if o < 8 then .mtime else .mtimecmp ((o - 8) / 8)
  else if 0xC000000 ≤ a ∧ a < 0x10000000 then .plic (a - 0xC000000)
  else if 0x10000000 ≤ a ∧ a < 0x10001000 then .window (a - 0x10000000)
  else if 0x80000000 ≤ a ∧ a < 0x84000000 then .stewardMem a
  else if 0x100000000 ≤ a ∧ a < 0x180000000 then .flash (a - 0x100000000)
  else if regBase ≤ a ∧ a < regBase + 0x1000000000 then
    let b := (a - regBase) / 0x100000000
    let o := (a - regBase) % 0x100000000
    let k := 9 * b + o / 0x10000000
    let p := o % 0x10000000
    if b < 4 ∧ o < 0x90000000 ∧ p < 0x4000000 then .store k p
    else if b < 4 ∧ o < 0x90000000 ∧ p < 0x4100000 then .imem k ((p - 0x4000000) / 8)
    else if b < 4 ∧ o < 0x90000000 ∧ p < 0x4108000 then .cairn k ((p - 0x4100000) / 8)
    else if b < 4 ∧ o < 0x90000000 ∧ p < 0x4110000 then .shadow k ((p - 0x4108000) / 8)
    else if b = 14 then .spur o
    else match findReg b o with
      | some (r, i) => .reg r i
      | none => .empty b o
  else .outside

/-- The steward address of a register. -/
def addrOf (r : RegName) (i : Nat) : Nat :=
  match regRows.find? (fun x => x.reg == r) with
  | some x =>
    let h := if x.gap = 0 then 0 else i / x.gap
    let j := if x.gap = 0 then i else i % x.gap
    x.space.base h + x.off + j * x.stride
  | none => 0

/-- SRC_DIE and SRC_UNIT of a register's events (R518): gateways count as die 4. -/
def regDie (a : Nat) : Nat × Nat :=
  let b := (a - regBase) / 0x100000000
  let o := (a - regBase) % 0x100000000
  if b < 4 ∧ o < 0x90000000 then (b, o / 0x10000000) else (if 14 ≤ b then 4 else b, 0xFF)

/-- A register-encoding (1), register-access-size (2) or register-state (3) event at a register (R518). -/
def State.regEventAt (s : State) (code : Nat) (r : RegName) (i : Nat) (v : Word) : State :=
  let a := addrOf r i
  let d := regDie a
  s.regEvent code d.1 d.2 a v

/-- Clock regions of a die (R366, R461). -/
def regionCount (die : Nat) : Nat := if die < 4 then 10 else if die = 4 then 17 else if die < 13 then 2 else 4

/-- The region exists. -/
def regionExists (ix : Nat) : Bool := decide (ix / 32 < 14) && decide (ix % 32 < regionCount (ix / 32))

/-- Sensor locations of a die, 16 the laser modules (R454, R455). -/
def sensorCount (die : Nat) : Nat :=
  if die < 4 then 10 else if die = 4 then 17 else if die = 13 then 1 else if die = 16 then 8 else 0

/-- Encodings that a field's table marks reserved (R19). A mask of SPUR_FW_CTRL with a bit set that R339 marks reserved is taken
for a reserved encoding of the mask, which keeps it whole (DESIGN CHOICE, log entry 64). FORCE, BOOST_MAX, BASE and COUNT are judged against the word written. -/
def reservedEncoding (r : RegName) (w : Nat) (f : Fld) : Bool :=
  let x := bits f.hi f.lo w
  match r with
  | .CAIRN_CTRL => (f == CAIRN_CTRL_WDOG_LIMIT && x == 0) || (f == CAIRN_CTRL_GATE_AFTER && x < 0x10)
  | .CORE_OUTING => f == CORE_OUTING_OUTING && decide (0x100 ≤ x ∧ x < 0x3FF)
  | .GRANULE_OWNER => f == GRANULE_OWNER_OWNER && decide (0x100 ≤ x ∧ x < 0x3FF)
  | .LAUNCH_ARB => ((f == LAUNCH_ARB_W_REQ || f == LAUNCH_ARB_W_RESP || f == LAUNCH_ARB_W_MGMT) && x == 0)
      || (f == LAUNCH_ARB_CTRL_CAP && decide (32 < x))
  | .RED_CFG => (f == RED_CFG_OP && decide (7 < x)) || (f == RED_CFG_TYPE && x == 3) || (f == RED_CFG_ADD && x == 0)
  | .RED_STAGE_CFG => (f == RED_STAGE_CFG_OP && decide (7 < x)) || (f == RED_STAGE_CFG_TYPE && x == 3)
      || (f == RED_STAGE_CFG_HOME_SITE && decide (3 < x))
  | .LOOP_TEST => f == LOOP_TEST_PLANE && decide (39 < x)
  | .CAL_CTRL => ((f == CAL_CTRL_MAX_AGE_S || f == CAL_CTRL_TRIG) && x == 0)
      || (f == CAL_CTRL_FORCE && decide (x < bits 47 40 w))
  | .RING_SEL => f == RING_SEL_PLANE && decide (39 < x)
  | .LASER_CFG => f == LASER_CFG_OVERLAP_US && decide (x < 0x14)
  | .CASOB_SEL => f == CASOB_SEL_SITE && decide (13 < x)
  | .SPUR_FW_CTRL => ((f == SPUR_FW_CTRL_OUT_MASK || f == SPUR_FW_CTRL_IN_MASK) && decide (x % 2 = 1 ∨ 0x1000 ≤ x))
      || (f == SPUR_FW_CTRL_RATE && x == 0)
  | .SPUR_OUT_WIN => (f == SPUR_OUT_WIN_LOG2_SIZE && decide (x < 12 ∨ 51 < x))
      || (f == SPUR_OUT_WIN_BASE && x % 2 ^ (bits 60 55 w - 12) != 0)
  | .SPUR_IN_WIN => (f == SPUR_IN_WIN_LOG2_SIZE && decide (x < 12 ∨ 51 < x))
      || (f == SPUR_IN_WIN_BASE && x % 2 ^ (bits 60 55 w - 12) != 0)
  | .SPUR_CAIRN_GRANT => (f == SPUR_CAIRN_GRANT_SITE && decide (3 < x))
      || (f == SPUR_CAIRN_GRANT_COUNT && decide (4096 < bits 49 38 w + x))
  | .CLK_POINT => f == CLK_POINT_TARGET && decide (5 < x)
  | .REGION_SEL => f == REGION_SEL_DIE && decide (13 < x)
  | .POD_TOPO => f == POD_TOPO_OVERLAP_US && decide (x < 0x14)
  | .CORE_FENCE => f == CORE_FENCE_TARGET && decide (8 < x)
  | .PWR_CTRL => f == PWR_CTRL_PWR_LIMIT && decide (x < 1000 ∨ 3600 < x)
  | .CORE_PWR => f == CORE_PWR_REQ && decide (x = 1 ∨ 4 < x)
  | .MODULE_PWR => f == MODULE_PWR_REQ && x == 3
  | .THERM_CTRL => (f == THERM_CTRL_THROTTLE && decide (x < 60 ∨ 105 < x))
      || (f == THERM_CTRL_BOOST_MAX && decide (bits 63 56 w < x + 5))
  | .BOOT_CTRL => (f == BOOT_CTRL_BOOT_TIMEOUT_S || f == BOOT_CTRL_WDOG_MS) && x == 0
  | _ => false

/-- One field of a register write, by its access code (R17). -/
def State.writeField (s : State) (i w : Nat) (f : Fld) : State :=
  let x := bits f.hi f.lo w
  match f.acc with
  | .ro => s
  | .wo => s
  | .rw => if reservedEncoding f.reg w f then s else s.put f i x
  | .w1c => s.put f i ((s.get f i) &&& (f.max ^^^ x))
  | .w1s => s.put f i ((s.get f i) ||| x)

/-- A register write: each field by its access code (R17), a reserved encoding keeping its field and recorded (R19). -/
def State.writeReg (s : State) (r : RegName) (i : Nat) (v : Word) : State :=
  let s' := r.fields.foldl (fun s f => s.writeField i v.toNat f) s
  if r.fields.any (fun f => f.acc == .rw && reservedEncoding r v.toNat f) then s'.regEventAt 1 r i v else s'

end Sys2Proof.Machine
end

