-- ==== Sys2Proof/Machine/Messages.lean ====
section
/-! DEFINITION. Messages as bytes (R170, R316, R317), and a message's arrival. -/

namespace Sys2Proof.Machine

/-- Code of an operation (R316). -/
def opcNum : Opc → Nat
  | .load8 => 1
  | .load512 => 2
  | .store8 => 3
  | .store512 => 4
  | .atomic => 5
  | .cairnAdd => 6
  | .copyRead => 7
  | .copyWrite => 8
  | .msg => 9
  | .redc => 10
  | .attnSegment => 11

/-- A request's data: an atomic's operand and compare value, and an add's amount, go first (log entry 33). -/
def reqData (opc : Opc) (r : Req) : List Byte :=
  if opc = .atomic then toLE 8 r.operand.toNat ++ toLE 8 r.compare.toNat ++ r.data
  else if opc = .cairnAdd then toLE 8 r.operand.toNat ++ r.data
  else r.data

/-- LENGTH of a descriptor: the data bytes of the message, or what a COPY_READ asks for (R316). -/
def reqLength (opc : Opc) (r : Req) : Nat := if opc = .atomic ∨ opc = .cairnAdd then (reqData opc r).length else r.length.toNat

/-- A request's descriptor and data (R316); an atomic's AUX is its AOP (log entry 33). -/
def reqBytes (opc : Opc) (r : Req) : List Byte :=
  toLE 1 (opcNum opc) ++ toLE 1 ((if r.af then 1 else 0) + 2 * r.ck.toNat) ++ toLE 2 r.outing.toNat ++ toLE 2 r.stream.toNat
    ++ toLE 2 r.cairn.toNat ++ toLE 4 r.seq.toNat ++ toLE 4 (reqLength opc r) ++ toLE 8 r.address.toNat
    ++ toLE 8 (if opc = .atomic then r.aop.toNat else r.aux.toNat) ++ reqData opc r

/-- STATUS of a response word. -/
def respNum : RespStatus → Nat
  | .done => 0
  | .refused => 1
  | .hold => 2
  | .dead => 3
  | .dataError => 4

/-- A response word and its data: bits 15:8 hold a code only where STATUS is REFUSED (R317). -/
def respBytes (r : Resp) : List Byte :=
  toLE 8 (respNum r.status + 256 * (if r.status = .refused then r.code.toNat else 0) + (if r.mark then 65536 else 0)
    + 2 ^ 32 * r.seq.toNat) ++ r.data

/-- A partial record's bytes (R170). -/
def PartialMsg.bytes (p : PartialMsg) : List Byte :=
  toLE 2 p.segment.toNat ++ toLE 1 p.rows.length ++ toLE 1 p.flags.toNat ++ toLE 4 p.skipped.toNat ++ toLE 8 p.tokens.toNat
    ++ List.replicate 48 0 ++ (p.rows.map (fun r => (r.map (fun w => toLE 4 w.toNat)).flatten)).flatten

/-- The Casob content of a message (R316, R317). -/
def Msg.bytes : Msg → List Byte
  | .request op => reqBytes op.opc op.req
  | .response r => respBytes r
  | .partialRecord _ _ p => PartialMsg.bytes p

/-- The first whole message received with these bytes is taken from its receiver (R315; zeros fill a last flit). -/
def Ridge.takeInbox (r : Ridge) (b : List Byte) : Ridge :=
  match r.inbox.find? (fun m => m.bytes.take b.length == b) with
  | some m => { r with inbox := r.inbox.erase m }
  | none => r

/-- A message that arrives is no longer on its way, nor waiting at its receiver. -/
def State.arrived (s : State) (m : Msg) : State :=
  { s with out := s.out.erase m, ridge := s.ridge.takeInbox m.bytes }

end Sys2Proof.Machine
end

