-- ==== Sys2Proof/Machine/Ops.lean ====
section
/-! DEFINITION. The named operations over a core and its memories: register views, faults (R115-R117), cairns (R178-R201),
waits (R186, R195), the core store's code (R104-R106), and the pipelines' landings (R87, R88). -/

namespace Sys2Proof.Machine

/-! ### Names -/

/-- The die of core position `k`. -/
def coreDie (k : Nat) : Nat := k / 9

/-- The physical position of core `k` on its die. -/
def corePos (k : Nat) : Nat := k % 9

/-- LOG_n of a die's CORE_MAP: the position of die-local logical core `j` (R119). -/
def State.mapped (s : State) (die j : Nat) : Nat := bits (4 * j + 3) (4 * j) (s.word .CORE_MAP die).toNat

/-- The core position of die-local logical core `j` of a die; nine and above name none. -/
def State.logicalCore (s : State) (die j : Nat) : Nat := 9 * die + s.mapped die j

/-- SELF.LOGICAL: the logical number that CORE_MAP maps to position `k`, or 0x3F (R135). -/
def State.logical (s : State) (k : Nat) : Nat :=
  match (List.range 8).find? (fun j => s.mapped (coreDie k) j == corePos k) with
  | some j => 8 * coreDie k + j
  | none => 0x3F

/-- This module's device number (R414). -/
def State.device (s : State) : Nat := s.get POD_TOPO_DEVICE 0

/-- The clock of position `k`'s region runs: neither a region stop (R375) nor shed hold (R441) holds it. -/
def State.clocked (s : State) (k : Nat) : Bool :=
  !s.power.shed && !s.flag REGION_STATUS_STOPPED (coreDie k * 32 + corePos k)

/-- A core in L2-L4 leaves its rung (R449). -/
def State.exitRung (s : State) (k : Nat) : State := if 2 ≤ s.get CORE_PWR_RUNG k then s.put CORE_PWR_RUNG k 0 else s

/-- The stream of core position `k` (R222). -/
def State.stream (s : State) (k : Nat) : Nat := s.device * 64 + s.logical k

/-- Is a position fenced? -/
def State.isFenced (s : State) (k : Nat) : Bool := (s.core k).st == .fenced

/-- Bit `n` of the package's features is cleared (R329); before start-up ends no bit is (log entry 35). -/
def State.featureOff (s : State) (n : Nat) : Bool :=
  s.get PKG_CAPS_LEVEL 0 != 0 && !(s.get PKG_CAPS_FEATURES 0).testBit n

/-- The format of a code; FP4-PS is illegal where the package lacks it (R125, R329). -/
def State.format (s : State) (code : BitVec 5) : Option NumFmt :=
  if code = 0x0A ∧ s.featureOff 0 then none else NumFmt.ofCode code

/-! ### Views of the core registers -/

/-- CORE_STATUS (R114), computed. -/
def State.coreStatus (s : State) (k : Nat) : Word :=
  let c := s.core k
  let st : Nat := match c.st with
    | .stopped => 0 | .running => 1 | .frozenWait => 2 | .frozenBank => 3 | .halted => 4 | .faulted => 5 | .fenced => 6
  BitVec.ofNat 64 (c.pc * 2 ^ 36 + st * 2 ^ 32 + c.loadsOut * 2 ^ 24 + (if c.quiet then 2 ^ 16 else 0) + c.copyBusy)

/-- SELF (R135, R497), computed from DIE_DEVICE and CORE_MAP. -/
def State.selfReg (s : State) (k : Nat) : Word :=
  BitVec.ofNat 64 (s.get DIE_DEVICE_DEVICE (coreDie k) * 256 + s.logical k)

/-- Operations of the stream sent and not acknowledged (R226): pod operations, started copies, attention requests. -/
def Core.unackedCount (c : Core) : Nat :=
  (c.unacked.filter (fun o => o.back.isNone)).length
    + ((List.range 16).filter (fun n => (c.copy n).status = 1 ∧ (c.copy n).started)).length
    + ((List.range 16).filter (fun n => match SMap.get c.merges n none with | some m => 0 < m.accept | none => false)).length

/-- POD_STATUS (R226): the stored counts with UNACKED and SLOTS as they are now. -/
def State.podStatus (s : State) (k : Nat) : Word :=
  let c := s.core k
  BitVec.ofNat 64 (setBits 8 0 (setBits 21 9 (s.word .POD_STATUS k).toNat c.unackedCount) c.slots.length)

/-- UNACKED of a core's port. -/
def State.unacked (s : State) (k : Nat) : Nat := bits 21 9 (s.podStatus k).toNat

/-! ### FP_FLAGS and the generators -/

/-- Flags landing (R75): they set the sticky bits and are remembered for R134. -/
def State.orFlags (s : State) (k : Nat) (f : FpFlags) : State :=
  (s.setWord .FP_FLAGS k (s.word .FP_FLAGS k ||| f.zeroExtend 64)).modCore k
    (fun c => { c with landed := c.landed ||| f })

/-- The V generator's state. -/
def State.genV (s : State) (k : Nat) : BitVec 32 := BitVec.ofNat 32 (s.get SR_STATE_STATE_V k)

/-- The M generator's state. -/
def State.genM (s : State) (k : Nat) : BitVec 32 := BitVec.ofNat 32 (s.get SR_STATE_STATE_M k)

/-- A write of SR_SEED_V or SR_SEED_M: SEED is kept and loads the generator (R66). -/
def State.seed (s : State) (seedFld genFld : Fld) (k : Nat) (v : Word) : State :=
  let x := v.toNat % 2 ^ 32
  (s.put seedFld k x).put genFld k (if x = 0 then srDefault.toNat else x)

/-! ### Waits -/

/-- The held wait ends: MAX becomes the larger of MAX and CURRENT, CURRENT 0, ACTIVE and GATED 0 (R195, R196). -/
def State.endWait (s : State) (k : Nat) : State :=
  let s := s.put WAIT_AGE_MAX k (max (s.get WAIT_AGE_MAX k) (s.get WAIT_AGE_CURRENT k))
  let s := ((s.put WAIT_AGE_CURRENT k 0).put WAIT_STATE_ACTIVE k 0).put WAIT_STATE_GATED k 0
  s.modCore k (fun c => { c with held := none, waitCount := 0, l1 := false, wakeAsked := false })

/-- May long waits ask for L1 (R192, R197)? -/
def State.gateOn (s : State) (k : Nat) : Bool := s.flag CAIRN_CTRL_GATE_EN k && !s.flag CAIRN_CTRL_A1_WDOG k

/-- One freeze cycle of a held wait: CYCLE_FROZEN and CURRENT advance, and the count of R192 while gating is on. -/
def State.freezeCycle (s : State) (k : Nat) : State :=
  let s := s.setWord .CYCLE_FROZEN k (s.word .CYCLE_FROZEN k + 1)
  let n := if s.gateOn k then 1 else 0
  (s.bump WAIT_AGE_CURRENT k 1).modCore k (fun c => { c with waitCount := c.waitCount + n })

/-- A gated core's clock runs again; the count of R192 starts from zero (R193, R195). -/
def State.ungate (s : State) (k : Nat) : State :=
  (s.put WAIT_STATE_GATED k 0).modCore k (fun c => { c with l1 := false, wakeAsked := false, waitCount := 0 })

/-- A1_WDOG set while the core is in L1 is a wake (R195). -/
def State.wakeForWdog (s : State) (k : Nat) : State :=
  if s.flag CAIRN_CTRL_A1_WDOG k ∧ (s.core k).l1 then s.ungate k else s

/-- The wake watcher of a gated core compares the held cairn's count with the held threshold and, once it is reached, asks
for the clock (R193). -/
def State.watch (s : State) (k : Nat) : State :=
  let c := s.core k
  if c.l1 ∧ s.get WAIT_STATE_THRESHOLD k ≤ (c.cairn (s.get WAIT_STATE_CAIRN k)).count.toNat then
    s.modCore k (fun c => { c with wakeAsked := true })
  else s

/-! ### Faults -/

/-- One detected fault: code, slot, DETAIL, and the bundle it names (R116). -/
structure FaultRec where
  code : Nat
  slot : Nat
  detail : Nat
  pc : Nat
  deriving DecidableEq, Repr

/-- CORE_FAULT takes the first fault; every later one counts in MORE, saturating at 15 (R116). -/
def State.noteFault (s : State) (k : Nat) (f : FaultRec) : State :=
  if s.get CORE_FAULT_CODE k = 0 then
    s.setWord .CORE_FAULT k (BitVec.ofNat 64 (f.code * 2 ^ 56 + f.slot * 2 ^ 52 + f.pc % 2 ^ 15 * 2 ^ 32 + f.detail % 2 ^ 32))
  else s.bump CORE_FAULT_MORE k 1

/-- The core-fault record (R117, R421): CORE_FAULT, CORE_STATUS, SELF. -/
def State.coreFaultEvent (s : State) (k : Nat) : State :=
  s.raise 0x02 1 2 (coreDie k) (corePos k) (s.get CORE_OUTING_OUTING k) (s.word .CORE_FAULT k) (s.coreStatus k)
    (s.selfReg k)

/-- Faults of one cycle in the order they rank: slots S, V, M, X, then those of no slot (R116). -/
def rankFaults (l : List FaultRec) : List FaultRec := (List.range 5).flatMap (fun i => l.filter (fun f => f.slot == i))

/-- Taking faults of one cycle (R115-R117): recorded in rank, a held wait ends, STATE becomes FAULTED and one record is
raised; a position already FAULTED counts them in MORE, a FENCED one only records them (R424). -/
def State.takeFaults (s : State) (k : Nat) (l : List FaultRec) : State :=
  if l.isEmpty then s
  else
    let s := (rankFaults l).foldl (fun s f => s.noteFault k f) s
    if s.isFenced k ∨ (s.core k).st = .faulted then s
    else
      let s := if (s.core k).st = .frozenWait then s.endWait k else s
      (s.modCore k (fun c => { c with st := .faulted, drain := .none, redirect := none })).coreFaultEvent k

/-! ### Cairns -/

/-- The cairn-saturation record (R518). -/
def State.saturationEvent (s : State) (k n : Nat) (kind : BitVec 3) (amount : BitVec 32) : State :=
  s.raise 0x03 1 1 (coreDie k) (corePos k) (s.get CORE_OUTING_OUTING k) (BitVec.ofNat 64 n) (kind.zeroExtend 64)
    (amount.zeroExtend 64)

/-- The 16-bit operation counter advances (R201). -/
def Core.tickSeq (c : Core) : Core := { c with cairnSeq := c.cairnSeq + 1 }

/-- Store a cairn. -/
def Core.setCairn (c : Core) (n : Nat) (v : Cairn) : Core := { c with cairns := SMap.set c.cairns n v Cairn.zero }

/-- An add to cairn `n` of position `k`, saturating (R180); `kind` as LAST_KIND names it. -/
def State.addCairn (s : State) (k n : Nat) (amount : BitVec 32) (kind : BitVec 3) : State :=
  let c := (s.core k).cairn n
  let sum := c.count.toNat + amount.toNat
  if 2 ^ 32 ≤ sum then
    (((s.modCore k (fun x => (x.setCairn n ⟨0xFFFFFFFF#32, true, kind⟩).tickSeq)).bump CAIRN_STATS_SAT_EVENTS k 1)
      ).saturationEvent k n kind amount
  else s.modCore k (fun x => (x.setCairn n ⟨c.count + amount, c.sat, kind⟩).tickSeq)

/-- CSET: the count becomes the amount and SAT clears (R181). -/
def State.setCairnCount (s : State) (k n : Nat) (amount : BitVec 32) : State :=
  s.modCore k (fun x => (x.setCairn n ⟨amount, false, 2⟩).tickSeq)

/-- After a batch mark an add from outside also reaches the shadow, saturating on its own (R428). -/
def State.addShadow (s : State) (k n : Nat) (amount : BitVec 32) : State :=
  if s.get BATCH_MARK_VALID k = 1 then
    s.modCore k (fun x =>
      let c := SMap.get x.shadow n Cairn.zero
      let v : Cairn := if 2 ^ 32 ≤ c.count.toNat + amount.toNat then ⟨0xFFFFFFFF#32, true, 0⟩
        else ⟨c.count + amount, c.sat, 0⟩
      { x with shadow := SMap.set x.shadow n v Cairn.zero })
  else s

/-- An add from outside the core: RCADD or arrival (kind 4), steward (kind 5). The wake watcher sees it (R193). -/
def State.outsideAdd (s : State) (k n : Nat) (amount : BitVec 32) (kind : BitVec 3) : State :=
  ((s.addCairn k n amount kind).addShadow k n amount).watch k

/-- A cairn record (R201). -/
def State.cairnRecord (s : State) (k n : Nat) : Word :=
  let c := (s.core k).cairn n
  let waited := s.flag WAIT_STATE_ACTIVE k && s.get WAIT_STATE_CAIRN k == n
  BitVec.ofNat 64 ((s.core k).cairnSeq.toNat * 2 ^ 48 + (if waited then 2 ^ 37 else 0) + c.kind.toNat * 2 ^ 34
    + (if c.sat then 2 ^ 32 else 0) + c.count.toNat)

/-- The register words of a dump's header (table "Cairn dump header"). -/
def State.dumpHead (s : State) (k : Nat) : List Word :=
  [s.word .CYCLE_ISSUE k, s.word .CYCLE_FROZEN k, s.word .WAIT_STATE k, s.word .WAIT_AGE k, s.word .CAIRN_CTRL k]

/-- A dump under way reads its next record and writes it to steward memory; with record 0 it notes the header's words (R200,
R201). -/
def State.dumpRecord (s : State) (k : Nat) : State :=
  match (s.core k).dump with
  | none => s
  | some d =>
    let n := d.read.length
    if 4096 ≤ n then s
    else
      let r := s.cairnRecord k n
      let head := if n = 0 then s.dumpHead k else d.head
      { s with stewardMem := Mem.writeLE s.stewardMem (d.dest + 64 + 8 * n) 8 r.toNat }.modCore k
        (fun c => { c with dump := some ⟨d.dest, r :: d.read, head⟩ })

/-! ### The core store (R101, R104-R106) -/

/-- Size of the core store. -/
def storeSize : Nat := 0x4000000

/-- The code's verdict on the 64-bit word at byte offset `8 * w`. -/
def Core.ecc (c : Core) (w : Nat) : Ecc := SMap.get c.storeEcc w .good

/-- Set the mark of a word. -/
def Core.setEcc (c : Core) (w : Nat) (e : Ecc) : Core := { c with storeEcc := SMap.set c.storeEcc w e .good }

/-- One word read through the code: a single-bit error is corrected and counted, an uncorrectable word counted and
recorded (R104, R106). -/
def State.readWordEcc (s : State) (k w : Nat) : State :=
  match (s.core k).ecc w with
  | .good => s
  | .one => (s.modCore k (·.setEcc w .good)).bump STORE_ECC_CORRECTED k 1
  | .bad => (s.bump STORE_ECC_UNCORRECTED k 1).put STORE_ECC_LAST_BEAT k (w / 32)

/-- The words that bytes `a` to `a + n - 1` lie in. -/
def wordsOf (a n : Nat) : List Nat := if n = 0 then [] else (List.range ((a + n - 1) / 8 - a / 8 + 1)).map (· + a / 8)

/-- Uncorrectable words under a byte range. -/
def Core.badWords (c : Core) (a n : Nat) : List Nat := (wordsOf a n).filter (fun w => c.ecc w == .bad)

/-- A read of `n` bytes through the code; the bytes are read from the store itself. -/
def State.readStore (s : State) (k a n : Nat) : State := (wordsOf a n).foldl (fun s w => s.readWordEcc k w) s

/-- One word touched by a write: wholly written ends its error; a merge corrects a single bit, or keeps an uncorrectable
word uncorrectable (R105). -/
def State.writeWordEcc (s : State) (k w : Nat) (whole : Bool) : State :=
  if whole then s.modCore k (·.setEcc w .good)
  else match (s.core k).ecc w with
    | .good => s
    | .one => (s.modCore k (·.setEcc w .good)).bump STORE_ECC_CORRECTED k 1
    | .bad => (s.bump STORE_ECC_UNCORRECTED k 1).put STORE_ECC_LAST_BEAT k (w / 32)

/-- How many of the 8 bytes of word `w` a masked write from `a` covers. -/
def covered (a : Nat) (l : List (Byte × Bool)) (w : Nat) : Nat :=
  ((List.range 8).filter (fun i => 8 * w + i ≥ a ∧ ((l.getD (8 * w + i - a) (0, false)).2))).length

/-- A masked write to the core store from byte offset `a`. -/
def State.writeStore (s : State) (k a : Nat) (l : List (Byte × Bool)) : State :=
  let s := (wordsOf a l.length).foldl (fun s w =>
    let n := covered a l w
    if n = 0 then s else s.writeWordEcc k w (n == 8)) s
  s.modCore k (fun c => { c with store := Mem.setMasked c.store a l })

/-- An unmasked write. -/
def State.writeBytes (s : State) (k a : Nat) (l : List Byte) : State := s.writeStore k a (l.map (fun b => (b, true)))

/-! ### Landings -/

/-- Register-parity DETAIL (R116): class and index. -/
def parityDetail (cls r : Nat) : Nat := cls + 4 * r

/-- A due item acts; it may leave a later item in its place (a load's register write, an MMA's result) and may meet a
fault. -/
def State.land (s : State) (k : Nat) (it : Item) : State × List Item × List FaultRec :=
  match it.act with
  | .s r v => (s.modCore k (·.setS r v), [], [])
  | .v r v lanes => (s.modCore k (·.setV r v lanes), [], [])
  | .p r v => (s.modCore k (·.setP r v), [], [])
  | .t r v => (s.modCore k (·.setT r v), [], [])
  | .flags f => (s.orFlags k f, [], [])
  | .cairnAdd n a => (s.addCairn k n a 1, [], [])
  | .cairnSet n a => (s.setCairnCount k n a, [], [])
  | .write a l => (s.writeStore k a l, [], [])
  | .readS r a =>
    let c := s.core k
    let s' := s.readStore k a 8
    if (c.badWords a 8).isEmpty then
      (s', [{ it with due := it.due + 3, act := .s r (Mem.word c.store a) }], [])
    else (s', [], [⟨7, it.slot, a / 256, it.pc⟩])
  | .readV r a lanes =>
    let c := s.core k
    let s' := s.readStore k a 512
    let hit := (c.badWords a 512).filter (fun w =>
      let i := (8 * w - a) / 4
      lanes.getLsbD i || lanes.getLsbD (i + 1))
    match hit with
    | [] => (s', [{ it with due := it.due + 3, act := .v r (Mem.vec c.store a) lanes }], [])
    | w :: _ => (s', [], [⟨7, it.slot, w / 32, it.pc⟩])
  | .fetch td tile cls a b rest left x y =>
    match left with
    | [] => (s, [], [])
    | p :: t =>
      let c := s.core k
      let s' := s.readStore k p.addr p.size
      match c.badWords p.addr p.size with
      | w :: _ => (s', [], [⟨7, it.slot, w / 32, it.pc⟩])
      | [] =>
        let x := if p.ofB then x else x.take c.store p
        let y := if p.ofB then y.take c.store p else y
        if !t.isEmpty then (s', [{ it with due := it.due + 1, act := .fetch td tile cls a b rest t x y }], [])
        else
          let r := mmaTile cls a b x y tile
          (s', [{ it with due := it.due + rest, act := .t td r.1 }, { it with due := it.due + rest, act := .flags r.2 }], [])

/-- The items of a list that are due act in order; the others stay in their places. -/
def State.landAll (k n : Nat) : List Item → State → State × List Item × List FaultRec
  | [], s => (s, [], [])
  | it :: t, s =>
    let r := if it.due = n then s.land k it else (s, [it], [])
    let q := State.landAll k n t r.1
    (q.1, r.2.1 ++ q.2.1, r.2.2 ++ q.2.2)

/-- Banks a program footprint claims in pipeline cycle `n` (R102). -/
def Core.claimed (c : Core) (n : Nat) : BitVec 16 :=
  c.claims.foldl (fun b x => if x.first ≤ n ∧ n ≤ x.last then b ||| x.banks else b) 0

/-- The end of a pipeline cycle: items due land, claims that are past are dropped, and the next cycle begins. The faults
that landing operations met are the caller's to take. -/
def State.endCycle (s : State) (k : Nat) : State × List FaultRec :=
  let c := s.core k
  let s := s.modCore k (fun c => { c with landed := 0, pipe := [] })
  let r := State.landAll k c.cyc c.pipe s
  (r.1.modCore k (fun x =>
    { x with pipe := r.2.1, cyc := c.cyc + 1, claims := x.claims.filter (fun y => c.cyc < y.last) }), r.2.2)

end Sys2Proof.Machine
end

