-- ==== Sys2Proof/Machine/StackMem.lean ====
section
/-! DEFINITION. A stack's memory as its operations see it: layout (R341), capacity (R352), the decoder's verdicts and what
they count (R350, R351), row remap (R355), channel retirement (R347-R354). -/

namespace Sys2Proof.Machine

/-! ### Layout -/

/-- Capacity of one channel in units of 10^6 bytes (R340). -/
def State.channelMb (s : State) : Nat := match s.part with | .kb768 => 1500 | .kb384 => 750

/-- Channels RETIRING or RETIRED of stack `m`. -/
def State.retiredCount (s : State) (m : Nat) : Nat :=
  ((List.range 64).filter (fun c => (s.word .STACK_RETIRED m).getLsbD c)).length

/-- CAPACITY of stack `m` in bytes (R352). -/
def State.capacity (s : State) (m : Nat) : Nat := (64 - s.retiredCount m) * s.channelMb * 1000000

/-- Register index of channel `c` of stack `m`. -/
def chanIx (m c : Nat) : Nat := m * 64 + c

/-- STATE of a channel. -/
def State.chanState (s : State) (m c : Nat) : Nat := s.get CHAN_STATUS_STATE (chanIx m c)

/-- The channel that serves line `l`: L mod 64, or, once that channel is RETIRED, the next one up that is not (the place a
moved line takes is not stated: DESIGN CHOICE, log entry 21). -/
def State.channelOf (s : State) (m l : Nat) : Nat :=
  ((List.range 64).map (fun i => (l + i) % 64)).find? (fun c => s.chanState m c != 3) |>.getD (l % 64)

/-- Row key of a line: bank * 65536 + row (R341). -/
def rowKey (l : Nat) : Nat := l / 64 % 16 * 65536 + l / 1024 / 32

/-- The 32 lines of a row of a channel. -/
def rowLines (c key : Nat) : List Nat :=
  (List.range 32).map (fun col => ((key % 65536 * 32 + col) * 16 + key / 65536) * 64 + c)

/-- What is wrong with line `l`. -/
def State.lineErr (s : State) (m l : Nat) : Option LineErr := SMap.get (s.stackSt m).lines l none

/-- Set what is wrong with line `l`. -/
def State.setLineErr (s : State) (m l : Nat) (e : Option LineErr) : State :=
  s.modStack m (fun x => { x with lines := SMap.set x.lines l e none })

/-- Symbols of the failed vias of channel `c`: its 64 data vias and its 8 check vias (R344, R347). -/
def State.failedSymbols (s : State) (m c : Nat) : List Nat :=
  let f := (s.stackSt m).failed
  SMap.get f c [] ++ ((SMap.get f (64 + c / 8) []).filter (fun v => v / 8 == c % 8)).map (fun v => 64 + v % 8)

/-! ### The decoder -/

/-- What a read through the decoder finds. -/
inductive Decoded where
  | good
  | corrected (symbols : List Nat)
  | wrong (line : BitVec 512)      -- beyond the limit, not reported: another line is returned
  | failed
  deriving DecidableEq, Repr

/-- The decoder's verdict on line `l` (R350). Beyond 2e + f = 8 which outcome it gives, and the line it returns, are free. A
line with erasures alone is no corrected read (DESIGN CHOICE, log entry 21). -/
def State.decodeLine (s : State) (m l : Nat) : Decoded × State :=
  let c := s.channelOf m l
  if s.chanState m c = 4 then (.failed, s)
  else
    let f := s.failedSymbols m c
    let judge (e : List Nat) : Decoded × State :=
      if 2 * e.length + f.length ≤ 8 then (if e.isEmpty then .good else .corrected e, s)
      else
        let r := Config.decoderReports s.free
        let x := Config.decoderLine s.free
        (if r then .failed else .wrong x, { s with free := s.free + 1 })
    match s.lineErr m l with
    | none => judge []
    | some .pattern => (.failed, s)
    | some (.symbols e) => judge (e.filter (fun x => !f.contains x))

/-- A stack record (R518): CODE 2 correction, 3 uncorrectable; DATA0 the line's offset, DATA1 the symbols. -/
def State.lineEvent (s : State) (code sev m c l symbols : Nat) : State :=
  s.raise 0x09 code sev (5 + m) c 0x3FF (BitVec.ofNat 64 (l * 64)) (BitVec.ofNat 64 symbols)
    (s.word .CHAN_STATUS (chanIx m c))

/-- A line of a row is rebuilt in its new place (R353, R355): corrected, or with the check pattern. -/
def State.rebuildLine (s : State) (m l : Nat) : State × Bool :=
  let r := s.decodeLine m l
  match r.1 with
  | .good => (r.2.setLineErr m l none, true)
  | .corrected _ => (r.2.setLineErr m l none, true)
  | .wrong x => ((r.2.setStack m (Mem.writeLE (r.2.stack m) (l * 64) 64 x.toNat)).setLineErr m l none, true)
  | .failed => (r.2.setLineErr m l (some .pattern), false)

/-- A row that qualifies is remapped to a spare row of its bank (R355, R361). -/
def State.remapRow (s : State) (m c key : Nat) : State :=
  if s.chanState m c ≥ 2 then s
  else
    let used := SMap.get (s.stackSt m).remaps c []
    if 16 ≤ (used.filter (fun k => k / 65536 == key / 65536)).length then
      s.raise 0x09 6 1 (5 + m) c 0x3FF (BitVec.ofNat 64 (key / 65536)) (BitVec.ofNat 64 (key % 65536))
        (s.word .CHAN_STATUS (chanIx m c))
    else
      let s := (rowLines c key).foldl (fun s l => if (s.lineErr m l).isNone then s else (s.rebuildLine m l).1) s
      let used := used ++ [key]
      let s := s.modStack m (fun x => { x with
        remaps := SMap.set x.remaps c used [],
        tracker := SMap.set x.tracker c ((SMap.get x.tracker c []).filter (fun y => y.1 != key)) [] })
      s.put CHAN_STATUS_REMAPS (chanIx m c) used.dedup.length

/-! ### Retirement -/

/-- Granules wholly at or above CAPACITY read OWNER 0x3FF (R354). -/
def State.dropGranules (s : State) (m : Nat) : State :=
  (List.range 90).foldl (fun s n =>
    if s.capacity m ≤ n * 2 ^ 30 then s.setWord .GRANULE_OWNER (m * 128 + n) 0x3FF else s) s

/-- What the offsets at and above CAPACITY held is lost (R352). -/
def State.dropTop (s : State) (m : Nat) : State :=
  let cap := s.capacity m
  (s.setStack m ((s.stack m).filter (fun x => x.1 < cap))).modStack m (fun x =>
    { x with lines := x.lines.filter (fun y => y.1 * 64 < cap) })

/-- CAPACITY and RETIRED follow the channels retired. -/
def State.showCapacity (s : State) (m : Nat) : State :=
  (s.put STACK_STATUS_CAPACITY_MB m ((64 - s.retiredCount m) * s.channelMb)).put STACK_STATUS_RETIRED m (s.retiredCount m)

/-- The retirement of channel `c` starts (R352), or takes effect at once in STARTING (R354). -/
def State.retireStart (s : State) (m c : Nat) : State :=
  let s := s.put STACK_RETIRED_CHANNELS m (s.get STACK_RETIRED_CHANNELS m ||| 2 ^ c)
  let s := ((s.showCapacity m).dropTop m).dropGranules m
  if s.get STACK_STATUS_STATE m = 0 then s.put CHAN_STATUS_STATE (chanIx m c) 3
  else
    (((s.put STACK_STATUS_STATE m 2).put STACK_STATUS_MOVE_CHANNEL m c).put STACK_STATUS_MOVE_LINES m 0).put
      CHAN_STATUS_STATE (chanIx m c) 2

/-- The stack retires a channel on its own (R347, R348): a ninth one goes to FAILED (R354), one that meets a move waits
DEGRADED (R361). -/
def State.autoRetire (s : State) (m c : Nat) : State :=
  if s.chanState m c ≥ 2 then s
  else if 8 ≤ s.retiredCount m then
    let s := s.put CHAN_STATUS_STATE (chanIx m c) 4
    s.raise 0x09 5 2 (5 + m) c 0x3FF (BitVec.ofNat 64 c) 0 0
  else if s.get STACK_STATUS_STATE m = 2 then
    (s.put CHAN_STATUS_STATE (chanIx m c) 1).modStack m (fun x =>
      { x with waiting := if x.waiting.contains c then x.waiting else x.waiting ++ [c] })
  else s.retireStart m c

/-! ### Reads and writes of lines -/

/-- A corrected read (R346, R351, R355). -/
def State.countCorrected (s : State) (m l : Nat) (symbols : List Nat) : State :=
  let c := s.channelOf m l
  let i := chanIx m c
  let s := s.bump CHAN_STATUS_CORRECTED i 1
  let s := if s.flag ECC_LAST_UE m then s
    else ((s.put ECC_LAST_CHANNEL m c).put ECC_LAST_SYMBOLS m symbols.length).put ECC_LAST_OFFSET m (l * 64)
  let n := SMap.get (s.stackSt m).corrected c 0 + 1
  let hist := (symbols :: SMap.get (s.stackSt m).hist c []).take 16
  let newSuspects := (symbols.filter (fun x => decide (8 ≤ (hist.filter (·.contains x)).length))).map (fun x => (c, x))
  let rows := SMap.get (s.stackSt m).tracker c []
  let k := rowKey l
  let cnt := ((rows.find? (fun y => y.1 == k)).map (·.2)).getD 0 + 1
  let known := rows.any (fun y => y.1 == k)
  let rows' := if known then rows.map (fun y => if y.1 = k then (k, cnt) else y)
    else if rows.length < 256 then rows ++ [(k, 1)] else rows
  let s := s.modStack m (fun x => { x with
    corrected := SMap.set x.corrected c n 0, hist := SMap.set x.hist c hist [],
    suspect := x.suspect ++ newSuspects.filter (fun y => !x.suspect.contains y),
    tracker := SMap.set x.tracker c rows' [] })
  let s := if n = 1 ∨ n % 65536 = 1 then s.lineEvent 2 0 m c l symbols.length else s
  if 8 ≤ cnt then s.remapRow m c k else s

/-- An uncorrectable read (R348, R351, R355). -/
def State.countUncorrectable (s : State) (m l : Nat) : State :=
  let c := s.channelOf m l
  let i := chanIx m c
  let s := s.bump CHAN_STATUS_UNCORRECTED i 1
  let s := (((s.put ECC_LAST_UE m 1).put ECC_LAST_CHANNEL m c).put ECC_LAST_SYMBOLS m 0).put ECC_LAST_OFFSET m (l * 64)
  let s := s.lineEvent 3 2 m c l 0
  let k := rowKey l
  let now := s.uptime
  let rows := ((SMap.get (s.stackSt m).badRows c []).filter (fun y => y.1 != k && decide (now < y.2 + 1000))) ++ [(k, now)]
  let s := s.modStack m (fun x => { x with badRows := SMap.set x.badRows c rows [] })
  let s := s.remapRow m c k
  if 16 ≤ rows.length then s.autoRetire m c else s

/-- A line read through the decoder: its bytes, or nothing when uncorrectable. -/
def State.readLine (s : State) (m l : Nat) : Option (List Byte) × State :=
  let r := s.decodeLine m l
  match r.1 with
  | .good => (some (Mem.bytes (r.2.stack m) (l * 64) 64), r.2)
  | .corrected e => (some (Mem.bytes (r.2.stack m) (l * 64) 64), r.2.countCorrected m l e)
  | .wrong x => (some (toLE 64 x.toNat), r.2)
  | .failed => (none, r.2.countUncorrectable m l)

/-- `n` bytes from offset `a`; bytes of an uncorrectable line are none. -/
def State.readStack (s : State) (m a n : Nat) : List (Option Byte) × State :=
  if n = 0 then ([], s)
  else
    let lines := (List.range ((a + n - 1) / 64 - a / 64 + 1)).map (· + a / 64)
    let r := lines.foldl (fun (acc : List (Option Byte) × State) l =>
      let x := acc.2.readLine m l
      (acc.1 ++ (match x.1 with | some b => b.map some | none => List.replicate 64 none), x.2)) ([], s)
    ((r.1.drop (a % 64)).take n, r.2)

/-- A write: a whole line ends its error; a narrower one reads before it merges (R351). -/
def State.writeStack (s : State) (m a : Nat) (l : List Byte) : State :=
  if l.isEmpty then s
  else
    let lines := (List.range ((a + l.length - 1) / 64 - a / 64 + 1)).map (· + a / 64)
    let s := lines.foldl (fun s k =>
      if a ≤ k * 64 ∧ k * 64 + 64 ≤ a + l.length then s.setLineErr m k none
      else
        let r := s.readLine m k
        match r.1 with
        | none => r.2.setLineErr m k (some .pattern)
        | some b => (r.2.setStack m (Mem.setBytes (r.2.stack m) (k * 64) b)).setLineErr m k none) s
    s.setStack m (Mem.setBytes (s.stack m) a l)

end Sys2Proof.Machine
end

