-- ==== Sys2Proof/Machine/Pod.lean ====
section
/-! DEFINITION. Pod addresses and windows (R202-R205), the outing check (R206), duplicate windows (R223), what a fenced
position does to accesses (R121, R424, R425), and the adds that complete operations (R211). -/

namespace Sys2Proof.Machine

/-! ### Pod addresses -/

def podDevice (a : Word) : Nat := bits 61 56 a.toNat
def podSite (a : Word) : Nat := bits 54 51 a.toNat
def podOffset (a : Word) : Nat := bits 50 0 a.toNat

/-- A pod address from its fields (R202). -/
def podAddr (device site offset : Nat) : Word :=
  BitVec.ofNat 64 (device % 64 * 2 ^ 56 + site % 16 * 2 ^ 51 + offset % 2 ^ 51)

/-- The site of a stack. -/
def stackSite (m : Nat) : Nat := 4 + m

/-- SRC_DIE of a site (R378, R518): gateways count as die 4. -/
def siteDie (site : Nat) : Nat :=
  if site < 4 then site else if site < 12 then site + 1 else if site = 12 then 13 else 4

def cairnBase : Nat := 0x7000000000000
def redBase : Nat := 0x6000000000000

/-- The address of cairn `n` of die-local core `j` (R183). -/
def cairnOffset (j n : Nat) : Nat := cairnBase + j * 0x10000 + n * 8

/-- What a site-local offset names (R183, R204, R239). -/
inductive PodWindow where
  | store (j off : Nat)
  | cairn (j n : Nat)
  | red (ctx chunk : Nat)
  | stack (m off : Nat)
  | spur
  | unit           -- ST, GW0, GW1: no window
  | none
  deriving DecidableEq, Repr

/-- The window of an offset; `capacity` is the stack's. -/
def State.windowOf (s : State) (site off : Nat) : PodWindow :=
  if site < 4 then
    if off < 0x20000000 then .store (off / storeSize) (off % storeSize)
    else if cairnBase ≤ off ∧ (off - cairnBase) / 0x10000 < 8 ∧ (off - cairnBase) % 0x10000 < 0x8000 then
      .cairn ((off - cairnBase) / 0x10000) ((off - cairnBase) % 0x10000 / 8)
    else if redBase ≤ off ∧ (off - redBase) / 0x80000 < 64 ∧ off % 0x200 = 0
        ∧ (off - redBase) % 0x80000 / 0x200 ≤ s.get RED_CFG_CHUNKS_M1 (64 * site + (off - redBase) / 0x80000) then
      .red ((off - redBase) / 0x80000) ((off - redBase) % 0x80000 / 0x200)
    else .none
  else if site < 12 then if off < s.capacity (site - 4) then .stack (site - 4) off else .none
  else if site = 13 then .spur
  else .unit

/-- Do 512 bytes at `off` cross a boundary the port knows: of a core-store window, or the end of the cairn or reduction
window (R205)? -/
def crossesFixed (site off : Nat) : Bool :=
  decide (site < 4) &&
  (decide (off < 0x20000000 ∧ off / storeSize ≠ (off + 511) / storeSize)
  || decide (cairnBase ≤ off ∧ off < cairnBase + 0x80000 ∧ (off - cairnBase) % 0x10000 < 0x8000
      ∧ 0x8000 < (off - cairnBase) % 0x10000 + 512)
  || decide (redBase ≤ off ∧ off < redBase + 0x2000000 ∧ redBase + 0x2000000 < off + 512))

/-- DEVICE names a module that has joined the pod. -/
def State.joined (s : State) (d : Nat) : Bool := (s.word .POD_MEMBERS 0).getLsbD d

/-- A site of this module that the site map marks present (R31). -/
def State.sitePresent (s : State) (site : Nat) : Bool := (s.word .SITE_MAP 0).getLsbD site

/-- A device declared dead. -/
def State.deviceDead (s : State) (d : Nat) : Bool := (s.word .POD_DEAD 0).getLsbD d

/-- The full class (R236). -/
def State.fullClass (s : State) : Bool := s.flag POD_CFG_FULL_CLASS 0

/-! ### Fenced targets -/

/-- What becomes of an access that names die-local core `j` of a compute die. -/
inductive Gate where
  | pass | hold | dead
  deriving DecidableEq, Repr

/-- A substitution of position `p` is under way: DRAINING, COPYING or READY. -/
def State.substituting (s : State) (die p : Nat) : Bool :=
  s.get FENCE_STATUS_SUBST_FROM die == p && (1 ≤ s.get FENCE_STATUS_SUBST_STATE die && s.get FENCE_STATUS_SUBST_STATE die ≤ 3)

/-- R121, R425: a fenced core's accesses are dead, or held while a substitution of it runs. A map naming no position is
dead too. -/
def State.gate (s : State) (die j : Nat) : Gate :=
  let p := s.mapped die j
  if 8 < p then .dead
  else if s.isFenced (9 * die + p) then if s.substituting die p then .hold else .dead
  else .pass

/-- Hold an access at the die's entry (R425); HELD shows the first 2,048. -/
def State.hold (s : State) (die : Nat) (op : HomeOp) : State :=
  let l := SMap.get s.held die [] ++ [op]
  { s with held := SMap.set s.held die l [] }.put FENCE_STATUS_HELD die (min 2048 l.length)

/-! ### The outing check -/

/-- R206 at a core-store or cairn target. -/
def State.coreOuting (s : State) (k outing : Nat) : Bool :=
  outing != 0x3FF && s.get CORE_OUTING_OUTING k == outing

/-- Granules of `n` bytes at offset `o` of a stack. -/
def granulesOf (o n : Nat) : List Nat := (List.range ((o + n - 1) / 2 ^ 30 - o / 2 ^ 30 + 1)).map (· + o / 2 ^ 30)

/-- R206 at a stack: every granule of `n` bytes from `off`; `read` lets SHARED_READ pass it. -/
def State.granulesOk (s : State) (m off n outing : Nat) (read : Bool) : Bool :=
  outing != 0x3FF &&
  ((granulesOf off n).all (fun i =>
    let g := m * 128 + i
    s.get GRANULE_OWNER_OWNER g == outing || (read && s.flag GRANULE_OWNER_SHARED_READ g)))

/-- Key of a stream at a site: its atomic history (R225) and the copies it had admitted (R207). -/
def historyKey (site stream : Nat) : Nat := site * 4096 + stream

/-- A granule as a copy's source or destination. -/
def copyGranule (read : Bool) (g : Nat) : Nat := 2 * g + (if read then 0 else 1)

/-- A copy has passed the check of some granules of a stack, as a source or as a destination (R206, R207). -/
def State.admitCopy (s : State) (site stream : Nat) (seq : BitVec 32) (read : Bool) (l : List Nat) : State :=
  let key := historyKey site stream
  let old := SMap.get s.admitted key []
  let new := (l.map (fun g => (seq, copyGranule read g))).filter (fun x => !old.contains x)
  { s with admitted := SMap.set s.admitted key (old ++ new) [] }

/-- Granules of a stack that admit an outing's read or write (R206). -/
def State.openGranules (s : State) (m outing : Nat) (read : Bool) : List Nat :=
  (List.range 90).filter (fun g => s.granulesOk m (g * 2 ^ 30) 1 outing read)

/-! ### Duplicate windows (R223) -/

/-- Key of a window: `kind` 0 operations, 1 completion and arrival adds. GW0 and GW1 share one store (R228). -/
def windowKey (site kind stream : Nat) : Nat := (2 * (if site = 15 then 14 else site) + kind) * 4096 + stream

/-- The verdict of a window on a sequence number: perform or discard, and the window after it. -/
def Window.judge (w : Option Window) (seq : BitVec 32) : Bool × Window :=
  match w with
  | none => (true, ⟨seq, 1⟩)
  | some w =>
    let ahead := seq - w.h
    if ahead ≠ 0 ∧ ahead.toNat < 2 ^ 31 then (true, ⟨seq, (w.seen <<< ahead.toNat) ||| 1⟩)
    else
      let back := (w.h - seq).toNat
      if back < 4096 ∧ w.seen.getLsbD back = false then (true, ⟨w.h, w.seen ||| ((1 : BitVec 4096) <<< back)⟩)
      else (false, w)

/-- A checked operation or add passes its window; a discard of an old one raises a stale-sequence record. -/
def State.windowPass (s : State) (site kind stream : Nat) (seq : BitVec 32) : Bool × State :=
  let key := windowKey site kind stream
  let w := SMap.get s.windows key none
  let r := Window.judge w seq
  let s := { s with windows := SMap.set s.windows key (some r.2) none }
  if r.1 then (true, s)
  else if 4096 ≤ (r.2.h - seq).toNat then
    (false, s.raise 0x04 1 0 (siteDie site) site 0x3FF (BitVec.ofNat 64 stream) (seq.zeroExtend 64) (r.2.h.zeroExtend 64))
  else (false, s)

/-! ### Completion and arrival adds -/

/-- The completion add of position `k`'s own operation `seq` to its own cairn, through the add window; a FENCED position
discards it before the window (R424). -/
def State.ownAdd (s : State) (k n amount : Nat) (seq : Nat) : State :=
  if s.isFenced k then s
  else
    let w := s.windowPass (coreDie k) 1 (s.stream k) (BitVec.ofNat 32 seq)
    if w.1 then w.2.outsideAdd k n (BitVec.ofNat 32 amount) 4 else w.2

/-- A blank descriptor. -/
def Req.blank : Req :=
  { af := false, ck := 0, outing := 0x3FF, stream := 0, cairn := 0, seq := 0, length := 0, address := 0, aux := 0, aop := 0,
    operand := 0, compare := 0, data := [] }

/-- An add message to a cairn (R316): `operand` carries the amount (log entry 22). -/
def addMsg (device site j n amount stream seq outing : Nat) (completion : Bool) : HomeOp :=
  ⟨.cairnAdd, completion, { Req.blank with
    outing := BitVec.ofNat 10 outing, stream := BitVec.ofNat 12 stream, seq := BitVec.ofNat 32 seq,
    address := podAddr device site (cairnOffset j n), operand := BitVec.ofNat 64 amount }⟩

/-- A copy's arrival add when its destination is stack memory: to the issuing core's own cairn. A FENCED issuer holds it
under a substitution, and loses it otherwise (R231, R424). -/
def State.copyOwnAdd (s : State) (k n seq outing : Nat) : State :=
  let die := coreDie k
  let j := s.logical k % 8
  if s.isFenced k then
    if s.substituting die (corePos k) then s.hold die (addMsg s.device die j n 1 (s.stream k) seq outing true) else s
  else s.ownAdd k n 1 seq

/-- An operation that the port counts as ended by a dead target (3) or bad data (4) (R237): its counter, LAST_DEVICE,
LAST_SITE and the record. -/
def State.endBadly (s : State) (k code : Nat) (addr : Word) (opc : Nat) (seq outing : Nat) : State :=
  let s := if code = 3 then s.bump POD_STATUS_DEAD_OPS k 1 else s.bump POD_STATUS_DATA_ERRORS k 1
  let s := (s.put POD_STATUS_LAST_DEVICE k (podDevice addr)).put POD_STATUS_LAST_SITE k (podSite addr)
  s.raise 0x04 code 2 (coreDie k) (corePos k) outing addr (BitVec.ofNat 64 opc) (BitVec.ofNat 64 seq)

end Sys2Proof.Machine
end

