-- ==== Sys2Proof/Machine/AttnUnit.lean ====
section
/-! DEFINITION. Near-memory attention (R160-R175): the request and its checks, a stack's work on one segment, and the
merge in the requesting core's landing. -/

namespace Sys2Proof.Machine

/-! ### The request -/

/-- The request block (R164), as read. -/
structure AttnReq where
  q : Nat
  rows : Nat
  dimCode : Nat
  fmt : Nat
  mode : Nat
  scale : Nat
  add : Nat
  segs : Nat
  qpos : Nat
  window : Nat
  segOff : Nat
  out : Nat
  spill : Nat
  rsvd : Nat
  deriving DecidableEq, Repr

/-- The request block in the 64 bytes at `a`. -/
def AttnReq.read (m : Mem) (a : Nat) : AttnReq :=
  let g (o n : Nat) : Nat := Mem.readLE m (a + o) n
  ⟨g 0 4, g 4 1, g 5 1, g 6 1, g 7 1, g 8 4, g 0xC 2, g 0xE 2, g 0x10 8, g 0x18 8, g 0x20 4, g 0x24 4, g 0x28 4, g 0x2C 4⟩

/-- A segment record (R163). -/
structure Segment where
  pte : Word
  entries : Nat
  first : Nat
  device : Nat
  site : Nat
  rsvd : Nat
  deriving DecidableEq, Repr

/-- The segment record in the 32 bytes at `a`. -/
def Segment.read (m : Mem) (a : Nat) : Segment :=
  let g (o n : Nat) : Nat := Mem.readLE m (a + o) n
  ⟨BitVec.ofNat 64 (g 0 8), g 8 4, g 0xC 4, g 0x10 1, g 0x11 1, g 0x12 14⟩

/-- Head dimension d. -/
def AttnReq.dim (r : AttnReq) : Nat := 64 * 2 ^ r.dimCode

def AttnReq.ordered (r : AttnReq) : Bool := r.mode % 2 == 1

/-- Bytes of a spill slot (R170). -/
def slotBytes (rows d : Nat) : Nat := (64 + rows * (8 + 4 * d) + 255) / 256 * 256

/-- Bytes of the result area (R173). -/
def resultBytes (mode rows d : Nat) : Nat :=
  if mode / 2 % 2 = 1 then rows * (8 + 4 * d) else if mode / 4 % 2 = 1 then 2 * d * rows else 4 * d * rows

/-- An area of `n` bytes at a 256-byte-aligned offset that lies in the core store. -/
def areaOk (a n : Nat) : Bool := a % 256 == 0 && decide (a + n ≤ storeSize)

/-- Known bytes, or none if one is missing. -/
def allBytes (l : List (Option Byte)) : Option (List Byte) := if l.all (·.isSome) then some (l.filterMap id) else none

/-- Tokens of a page (R160). -/
def AttnReq.tokens (r : AttnReq) : Nat :=
  32768 / (r.dim * (((NumFmt.ofCode (BitVec.ofNat 5 r.fmt)).getD .bf16).width / 8))

/-- The stack skips this entry (R162). -/
def State.skipsEntry (s : State) (m : Nat) (r : AttnReq) (w : Nat) : Bool :=
  bits 63 51 w != 0 || bits 5 0 w != 0 || decide (r.tokens < bits 15 6 w ∨ s.capacity m < bits 50 16 w * 65536 + 65536)

/-- Check 9 at a holder: the entries of a segment lie in the stack, and they and the pages they name belong to the outing (R165,
R206, log entry 23). -/
def State.holderOk (s : State) (g : Segment) (r : AttnReq) (outing : Nat) : Bool :=
  let m := g.site - 4
  let o := podOffset g.pte
  decide (o + 8 * g.entries ≤ s.capacity m) && (g.entries == 0 || (s.granulesOk m o (8 * g.entries) outing false
    && (List.range g.entries).all (fun i =>
      match allBytes (s.readStack m (o + 8 * i) 8).1 with
      | none => true
      | some b =>
        let w := leNat b
        s.skipsEntry m r w || bits 15 6 w == 0 || s.granulesOk m (bits 50 16 w * 65536) 65536 outing false)))

/-- The refusal reason of R165: the first check that fails. -/
def State.attnReason (s : State) (r : AttnReq) (segs : List Segment) (outing : Nat) : Option Nat :=
  let d := r.dim
  if 8 ≤ r.mode ∨ r.rsvd ≠ 0 ∨ segs.any (fun g => g.rsvd != 0) ∨ (r.mode / 2 % 2 = 1 ∧ r.mode / 4 % 2 = 1)
      ∨ (r.ordered ∧ s.featureOff 3) then some 1
  else if r.rows = 0 ∨ 64 < r.rows then some 2
  else if 2 < r.dimCode then some 3
  else if r.fmt = 0 ∨ 4 < r.fmt then some 4
  else if r.add = 0 then some 5
  else if r.segs = 0 ∨ 4096 < r.segs then some 6
  else if !(areaOk r.q (2 * d * r.rows) && areaOk r.segOff (32 * r.segs) && areaOk r.out (resultBytes r.mode r.rows d)
      && (!r.ordered || areaOk r.spill (r.segs * slotBytes r.rows d))) then some 7
  else if segs.any (fun g => decide (63 < g.device) || decide (g.site < 4) || decide (11 < g.site)
      || g.pte.toNat % 8 != 0 || podDevice g.pte != g.device || podSite g.pte != g.site || decide (2 ^ 32 < g.first + g.entries))
    then some 8
  else if segs.any (fun g => bits 63 62 g.pte.toNat != 0 || bits 55 55 g.pte.toNat != 0 || !s.joined g.device
      || outing == 0x3FF || (g.device == s.device && !(s.sitePresent g.site && s.holderOk g r outing))) then some 9
  else none

/-- The completion record and the cairn add (R173); the record is written last. A FENCED core gets neither (R175). -/
def State.attnRecord (s : State) (k base cairn add seq status reason flags skipped tokens : Nat) : State :=
  if s.isFenced k then s
  else
  let s := s.writeBytes k (base + 0x30)
    (toLE 1 status ++ toLE 1 reason ++ toLE 1 flags ++ [0] ++ toLE 4 skipped ++ toLE 8 tokens)
  s.ownAdd k cairn add seq

/-- A row at the start of a merge: M = −∞, L = 0, O = 0 (R171). -/
def MergeRow.start (d : Nat) : MergeRow := ⟨none, 0xFF800000, 0, List.replicate d 0⟩

/-- The result area filled with the poison NaN of the result's format (R174). -/
def poisonResult (mode rows d : Nat) : List Byte :=
  if mode / 4 % 2 = 1 then (List.replicate (rows * d) (toLE 2 0x7FC0)).flatten
  else (List.replicate (resultBytes mode rows d / 4) (toLE 4 poison32)).flatten

/-- A word of the request block, the query block or the segment table is uncorrectable (R174). The two areas count where the request
places them in the store. -/
def Core.attnBad (c : Core) (base : Nat) (r : AttnReq) : Bool :=
  let bad (a n : Nat) : Bool := decide (a + n ≤ storeSize) && !(c.badWords a n).isEmpty
  bad base 64 || (decide (r.rows ≤ 64 ∧ r.dimCode ≤ 2) && bad r.q (2 * r.dim * r.rows))
    || (decide (r.segs ≤ 4096) && bad r.segOff (32 * r.segs))

/-- Poison in the result area, where the request places one in the store (R174). -/
def State.attnPoison (s : State) (k : Nat) (r : AttnReq) : State :=
  if r.rows ≤ 64 ∧ r.dimCode ≤ 2 ∧ areaOk r.out (resultBytes r.mode r.rows r.dim) then
    s.writeBytes k r.out (poisonResult r.mode r.rows r.dim)
  else s

/-- An ATTN leaves its send slot (R165, R166): checks, a merge context, and one message to the holder of each segment that
has entries. Its sequence number is `seq`. Check 1 judges the segment records that lie in the store (DESIGN CHOICE, log entry
43); of two conditions the one lower in the status table decides (R174); a FENCED core's request ends with nothing (R175). -/
def State.attnStart (s : State) (k : Nat) (op : PodOp) (seq : Nat) : State :=
  let c := s.core k
  let base := bits 25 6 op.addr.toNat * 64
  let r := AttnReq.read c.store base
  let segs := ((List.range r.segs).filter (fun i => decide (r.segOff + 32 * i + 32 ≤ storeSize))).map
    (fun i => Segment.read c.store (r.segOff + 32 * i))
  let add := if r.add = 0 then 1 else r.add
  if s.isFenced k then s
  else
  let s := s.readStore k base 64
  let reason := s.attnReason r segs op.outing
  let d := r.dim
  let s := if reason.isSome then s else (s.readStore k r.q (2 * d * r.rows)).readStore k r.segOff (32 * r.segs)
  if c.attnBad base r then (s.attnPoison k r).attnRecord k base op.cairn add seq 3 0 0 0 0
  else match reason with
  | some n => s.attnRecord k base op.cairn add seq 1 n 0 0 0
  | none => match (List.range 16).find? (fun n => (SMap.get c.merges n none).isNone) with
      | none => s.attnRecord k base op.cairn add seq 2 0 0 0 0
      | some n =>
        let live := (List.range r.segs).filter (fun i => match segs[i]? with | some g => g.entries != 0 | none => false)
        let ctx : MergeCtx :=
          { op := op.id, pc := op.pc, outing := op.outing, accept := live.length, missing := 0, deadSeen := 0, declared := 0, seq := seq, request := base,
            cairn := op.cairn, add := add, rows := r.rows, dim := d, mode := r.mode, out := r.out, spill := r.spill,
            count := r.segs, ptes := segs.map (·.pte), waiting := live, spilled := [], merged := List.replicate r.rows (MergeRow.start d),
            lost := false, flags := 0, skipped := 0, tokens := 0, status := 0, reason := 0 }
        let s := s.modCore k (fun c => { c with merges := SMap.set c.merges n (some ctx) none })
        live.foldl (fun s i =>
          match segs[i]? with
          | none => s
          | some g => s.send (.request ⟨.attnSegment, false, { Req.blank with
              outing := BitVec.ofNat 10 op.outing, stream := BitVec.ofNat 12 (s.stream k), cairn := BitVec.ofNat 12 op.cairn,
              seq := BitVec.ofNat 32 seq, length := BitVec.ofNat 32 (96 + 2 * d * r.rows), address := g.pte,
              aux := BitVec.ofNat 64 (0xF00 + s.logical k % 8 * 16 + n), operand := BitVec.ofNat 64 i,
              data := Mem.bytes c.store base 64 ++ Mem.bytes c.store (r.segOff + 32 * i) 32
                ++ Mem.bytes c.store r.q (2 * d * r.rows) }⟩)) s

/-! ### What a stack computes (R168) -/

/-- A partial row under computation. -/
structure PartRow where
  m : Nat
  l : Nat
  o : List Nat
  stuck : List Bool    -- by k: o[k] has overflowed
  nan : Option FV
  ovf : Bool
  deriving DecidableEq, Repr

/-- A row before its first page. -/
def PartRow.start (d : Nat) : PartRow := ⟨0xFF800000, 0, List.replicate d 0, List.replicate d false, none, false⟩

/-- An exact sum of products, rounded once to FP32. -/
def dotRound (l : List (FV × FV)) : Conv := finish32 false 0 (FV.sum (l.map (fun p => (p.1.mul p.2).1)))

/-- The larger of two FP32 patterns that are no NaN. -/
def maxNum (a b : Nat) : Nat := (minmax32 true a b).1

/-- An accumulator scaled and added to; one that has overflowed stays as it is (R168). -/
def scaleAdd (a old : Nat) (stuck : Bool) (terms : List (FV × FV)) : Conv :=
  if stuck then ⟨old, 0, 0⟩ else dotRound ((dec32 a, dec32 old) :: terms)

/-- One page's visible tokens folded into a row: `keys` and `vals` are their elements. -/
def PartRow.page (r : PartRow) (scale : Nat) (q : List FV) (keys vals : List (List FV)) : PartRow :=
  let sc := keys.map (fun kt => (mul32 false 0 scale (dotRound (q.zip kt)).bits).bits)
  let badS := sc.filter (fun x => match dec32 x with | .fin .. => false | _ => true)
  if keys.isEmpty then r
  else if r.nan.isSome ∨ !badS.isEmpty then
    { r with nan := nanOf ((match r.nan with | some n => [n] | none => []) ++ badS.map dec32 ++ [FV.nan]) }
  else
    let mn := sc.foldl maxNum r.m
    let a := if r.m = 0xFF800000 then 0 else (exp2_32 (sub32 false 0 r.m mn).bits).bits
    let p := sc.map (fun x => dec32 (exp2_32 (sub32 false 0 x mn).bits).bits)
    let l := scaleAdd a r.l false (p.map (fun x => (x, FV.fin false 1 0)))
    let o := (List.range r.o.length).map (fun i =>
      scaleAdd a (r.o.getD i 0) (r.stuck.getD i false) (p.zip (vals.map (fun v => v.getD i (FV.fin false 0 0)))))
    let burst (c : Conv) : Bool := c.flags &&& fOverflow != 0
    { m := mn, l := l.bits, o := o.map (·.bits), nan := none,
      stuck := (List.range r.o.length).map (fun i => r.stuck.getD i false || burst (o.getD i ⟨0, 0, 0⟩)),
      ovf := r.ovf || burst l || o.any burst }

/-- Elements of an array of `n` at `a`. -/
def elemsAt (f : NumFmt) (bytes : List Byte) : List FV :=
  let w := f.width / 8
  (List.range (bytes.length / w)).map (fun i => f.elemValue (leNat ((bytes.drop (i * w)).take w)))

/-- A segment under computation: the rows, FLAGS, PAGES_SKIPPED and TOKENS. -/
structure SegAcc where
  rows : List PartRow
  flags : Nat
  skipped : Nat
  tokens : Nat
  deriving DecidableEq, Repr

/-- One page table entry of a segment (R162, R168). -/
def State.attnEntry (s : State) (m : Nat) (r : AttnReq) (q : List (List FV)) (f : NumFmt) (n ptea : Nat) (acc : SegAcc) :
    SegAcc × State :=
  let e := s.readStack m ptea 8
  match allBytes e.1 with
  | none => ({ acc with flags := acc.flags ||| 8 }, e.2)
  | some eb =>
    let w := leNat eb
    let d := r.dim
    let b := f.width / 8
    let t := r.tokens
    let count := bits 15 6 w
    let frame := bits 50 16 w * 65536
    if e.2.skipsEntry m r w then
      ({ acc with flags := acc.flags ||| 1, skipped := min (2 ^ 32 - 1) (acc.skipped + 1) }, e.2)
    else
      let acc := { acc with tokens := acc.tokens + count }
      let visible (row tok : Nat) : Bool :=
        decide (n * t + tok ≤ r.qpos + row) && (r.window == 0 || decide (r.qpos + row < n * t + tok + r.window))
      let used := (List.range count).filter (fun tok => (List.range r.rows).any (fun row => visible row tok))
      let load (base : Nat) (s : State) : List (Nat × Option (List Byte)) × State :=
        used.foldl (fun (x : List (Nat × Option (List Byte)) × State) tok =>
          let y := x.2.readStack m (base + tok * d * b) (d * b)
          (x.1 ++ [(tok, allBytes y.1)], y.2)) ([], s)
      let ks := load frame e.2
      let vs := load (frame + 32768) ks.2
      let badData := ks.1.any (fun x => x.2.isNone) || vs.1.any (fun x => x.2.isNone)
      let elems (x : List (Nat × Option (List Byte))) (tok : Nat) : List FV :=
        elemsAt f (((x.find? (fun y => y.1 == tok)).bind (·.2)).getD [])
      let rows := (List.range r.rows).map (fun row =>
        let vis := used.filter (visible row)
        (acc.rows.getD row (PartRow.start d)).page r.scale (q.getD row [])
          (vis.map (elems ks.1)) (vis.map (elems vs.1)))
      ({ acc with rows := rows, flags := if badData then acc.flags ||| 8 else acc.flags }, vs.2)

/-- The partial of a segment request (R168, R170). -/
def State.attnPartial (s : State) (m : Nat) (req : Req) : PartialMsg × State :=
  let mem := Mem.setBytes [] 0 req.data
  let r := AttnReq.read mem 0
  let g := Segment.read mem 64
  let d := r.dim
  let q := (List.range r.rows).map (fun i => elemsAt .bf16 (Mem.bytes mem (96 + 2 * d * i) (2 * d)))
  let f := (NumFmt.ofCode (BitVec.ofNat 5 r.fmt)).getD .bf16
  let start : SegAcc := ⟨List.replicate r.rows (PartRow.start d), 0, 0, 0⟩
  let res := (List.range g.entries).foldl (fun (x : SegAcc × State) i =>
    x.2.attnEntry m r q f (g.first + i) (podOffset g.pte + 8 * i) x.1) (start, s)
  let out := res.1.rows.map (fun p =>
    match p.nan with
    | some x => List.replicate (2 + d) (BitVec.ofNat 32 (rne32 x).bits)
    | none => (p.m :: p.l :: p.o).map (BitVec.ofNat 32))
  let flags := res.1.flags ||| (if res.1.rows.any (fun p => p.nan.isSome) then 2 else 0)
    ||| (if res.1.rows.any (·.ovf) then 4 else 0)
  ({ segment := BitVec.ofNat 12 req.operand.toNat, flags := BitVec.ofNat 4 flags, skipped := BitVec.ofNat 32 res.1.skipped,
     tokens := BitVec.ofNat 64 res.1.tokens, rows := out }, res.2)

/-! ### The merge (R171, R172) -/

/-- Fold one row of a partial, `m :: l :: o`. -/
def MergeRow.fold (r : MergeRow) (x : List (BitVec 32)) : MergeRow :=
  let m := (x.getD 0 0).toNat
  let l := (x.getD 1 0).toNat
  let o := (x.drop 2).map BitVec.toNat
  match nanOf ((match r.nan with | some n => [dec32 n] | none => []) ++ dec32 m :: dec32 l :: o.map dec32) with
  | some n => { r with nan := some (rne32 n).bits }
  | none =>
    if m = 0xFF800000 then r
    else
      let mn := maxNum r.m m
      let a := if r.m = 0xFF800000 then 0 else (exp2_32 (sub32 false 0 r.m mn).bits).bits
      let b := (exp2_32 (sub32 false 0 m mn).bits).bits
      { nan := none, m := mn, l := (dotRound [(dec32 a, dec32 r.l), (dec32 b, dec32 l)]).bits,
        o := (r.o.zip o).map (fun p => (dotRound [(dec32 a, dec32 p.1), (dec32 b, dec32 p.2)]).bits) }

/-- The quotient of two values, exact and rounded once. -/
def divTo (f : FloatFmt) (x y : FV) : Conv :=
  match nanOf [x, y] with
  | some n => f.encode false false 0 n
  | none =>
    match x, y with
    | .inf _, .inf _ => f.encode false false 0 .nan
    | .inf a, y => f.encode false false 0 (.inf (xor a y.isNeg))
    | .fin a _ _, .inf b => f.encode false false 0 (.fin (xor a b) 0 0)
    | .fin a m e, .fin b n j =>
      if n = 0 then f.encode false false 0 (if m = 0 then .nan else .inf (xor a b))
      else roundTo f false false 0 (xor a b) m n (e - j)
    | _, _ => f.encode false false 0 .nan

/-- A finished row's bytes (R171, R173). -/
def MergeRow.finish (r : MergeRow) (mode d : Nat) : List Byte :=
  let b16 := mode / 4 % 2 = 1
  if mode / 2 % 2 = 1 then
    match r.nan with
    | some n => (List.replicate (2 + d) (toLE 4 n)).flatten
    | none => ((r.m :: r.l :: r.o).map (toLE 4)).flatten
  else
    let elems : List Nat := match r.nan with
      | some n => List.replicate d (if b16 then (FloatFmt.bf16.encode false false 0 (dec32 n)).bits else n)
      | none =>
        if (dec32 r.l).isZero then List.replicate d 0
        else r.o.map (fun o => (divTo (if b16 then .bf16 else .fp32) (dec32 o) (dec32 r.l)).bits)
    (elems.map (toLE (if b16 then 2 else 4))).flatten

/-- A partial folded into a context. -/
def MergeCtx.fold (x : MergeCtx) (p : PartialMsg) : MergeCtx :=
  { x with
    merged := (x.merged.zip (p.rows ++ List.replicate x.rows [])).map (fun y =>
      if y.2.isEmpty then y.1 else y.1.fold y.2),
    waiting := x.waiting.erase p.segment.toNat,
    flags := x.flags ||| p.flags.toNat % 8,
    skipped := min (2 ^ 32 - 1) (x.skipped + p.skipped.toNat),
    tokens := (x.tokens + p.tokens.toNat) % 2 ^ 64,
    status := if p.flags.getLsbD 3 then max x.status 3 else x.status }

/-- A partial record read back from a spill slot. -/
def PartialMsg.ofMem (m : Mem) (a rows d : Nat) : PartialMsg :=
  { segment := BitVec.ofNat 12 (Mem.readLE m a 2), flags := BitVec.ofNat 4 (Mem.readLE m (a + 3) 1),
    skipped := BitVec.ofNat 32 (Mem.readLE m (a + 4) 4), tokens := BitVec.ofNat 64 (Mem.readLE m (a + 8) 8),
    rows := (List.range rows).map (fun r => (List.range (2 + d)).map (fun i =>
      BitVec.ofNat 32 (Mem.readLE m (a + 64 + r * (8 + 4 * d) + 4 * i) 4))) }

/-- Fold in turn: with ORDERED, every spilled partial whose turn has come is read back and folded (R172). An uncorrectable word of
one counts as uncorrectable data (DESIGN CHOICE, log entry 43). -/
def State.foldSpilled (s : State) (k : Nat) : Nat → MergeCtx → MergeCtx × State
  | 0, x => (x, s)
  | n + 1, x =>
    match x.waiting with
    | [] => (x, s)
    | i :: _ =>
      if x.spilled.contains i then
        let a := x.spill + i * slotBytes x.rows x.dim
        let bad := !((s.core k).badWords a (64 + x.rows * (8 + 4 * x.dim))).isEmpty
        let p := PartialMsg.ofMem (s.core k).store a x.rows x.dim
        let s := s.readStore k a (64 + x.rows * (8 + 4 * x.dim))
        let y := { (x.fold p) with waiting := x.waiting.tail, spilled := x.spilled.erase i }
        State.foldSpilled s k n (if bad then { y with status := max y.status 3 } else y)
      else (x, s)

/-- Store a merge context. -/
def State.setMerge (s : State) (k n : Nat) (x : Option MergeCtx) : State :=
  s.modCore k (fun c => { c with merges := SMap.set c.merges n x none })

/-- Completion (R173-R175): the result area, the record, the add; a FENCED core's delivery is discarded. -/
def State.attnFinish (s : State) (k n : Nat) (x : MergeCtx) : State :=
  let s := s.setMerge k n none
  if s.isFenced k then s
  else
    let s := if x.status = 0 then s.writeBytes k x.out ((x.merged.map (fun r => r.finish x.mode x.dim)).flatten)
      else if x.status = 1 then s
      else s.writeBytes k x.out (poisonResult x.mode x.rows x.dim)
    let empty := x.merged.any (fun r => r.nan.isNone && (dec32 r.l).isZero)
    s.attnRecord k x.request x.cairn x.add x.seq x.status (if x.status = 1 then x.reason else 0)
      (x.flags ||| (if empty then 8 else 0)) x.skipped x.tokens

end Sys2Proof.Machine
end

