-- ==== Sys2Proof/Machine/Crc.lean ====
section
/-! DEFINITION. The two check values of the module, CRC-32C and CRC-64, with the parameters of R27. -/

namespace Sys2Proof.Machine

/-- One bit of the reflected CRC-32C register: polynomial 0x1EDC_6F41 bit-reversed. -/
def crc32cBit (c : BitVec 32) : BitVec 32 :=
  if c.getLsbD 0 then (c >>> 1) ^^^ 0x82F63B78#32 else c >>> 1

/-- One byte into the CRC-32C register. -/
def crc32cByte (c : BitVec 32) (b : Byte) : BitVec 32 :=
  crc32cBit (crc32cBit (crc32cBit (crc32cBit (crc32cBit (crc32cBit (crc32cBit (crc32cBit
    (c ^^^ b.zeroExtend 32))))))))

/-- CRC-32C of a byte list (R27). -/
def crc32c (l : List Byte) : BitVec 32 :=
  l.foldl crc32cByte 0xFFFFFFFF#32 ^^^ 0xFFFFFFFF#32

/-- One bit of the CRC-64 register, ECMA-182 polynomial, not reflected. -/
def crc64Bit (c : BitVec 64) : BitVec 64 :=
  if c.getLsbD 63 then (c <<< 1) ^^^ 0x42F0E1EBA9EA3693#64 else c <<< 1

/-- One byte into the CRC-64 register. -/
def crc64Byte (c : BitVec 64) (b : Byte) : BitVec 64 :=
  crc64Bit (crc64Bit (crc64Bit (crc64Bit (crc64Bit (crc64Bit (crc64Bit (crc64Bit
    (c ^^^ (b.zeroExtend 64 <<< 56)))))))))

/-- CRC-64 of a byte list (R27). -/
def crc64 (l : List Byte) : BitVec 64 := l.foldl crc64Byte 0#64

end Sys2Proof.Machine
end

