-- ==== Sys2Proof/Machine/Operands.lean ====
section
/-! DEFINITION. Slot words and their fields (R122-R127, R130, R136, R140, R144), and what an issued slot does: the checks,
claims and pipeline items every slot instruction is described by (R87, R90, R116). -/

namespace Sys2Proof.Machine

/-- Bits [hi:lo] of a slot word. -/
def fld (hi lo : Nat) (w : Word) : Nat := bits hi lo w.toNat

/-- Sign extension of the low `n` bits (R131, R137). -/
def sext (n v : Nat) : Word := BitVec.ofInt 64 (signedOf n v)

/-! ### Encoders, one per format -/

def encSR (op : Nat) (rd ra rb : BitVec 6) : Word :=
  BitVec.ofNat 64 (op * 2 ^ 56 + rd.toNat * 2 ^ 50 + ra.toNat * 2 ^ 44 + rb.toNat * 2 ^ 38)

def encSI (op : Nat) (rd ra : BitVec 6) (imm : BitVec 32) : Word :=
  BitVec.ofNat 64 (op * 2 ^ 56 + rd.toNat * 2 ^ 50 + ra.toNat * 2 ^ 44 + imm.toNat)

def encSB (op : Nat) (ra rb rd : BitVec 6) (tgt : BitVec 15) : Word :=
  BitVec.ofNat 64 (op * 2 ^ 56 + ra.toNat * 2 ^ 50 + rb.toNat * 2 ^ 44 + rd.toNat * 2 ^ 38 + tgt.toNat)

def encSC (op : Nat) (rd ra : BitVec 6) (cr : BitVec 12) : Word :=
  BitVec.ofNat 64 (op * 2 ^ 56 + rd.toNat * 2 ^ 50 + ra.toNat * 2 ^ 44 + cr.toNat)

/-- The fields of VR from VD down to ET (R136). -/
structure VRFields where
  vd : BitVec 6
  va : BitVec 6 := 0
  vb : BitVec 6 := 0
  vc : BitVec 6 := 0
  pr : BitVec 4 := 0
  fd : BitVec 5 := 0
  fs : BitVec 5 := 0
  rnd : Bool := false
  ovf : Bool := false
  part : BitVec 2 := 0
  et : BitVec 2 := 0
  deriving DecidableEq, Repr

def encVR (op : Nat) (f : VRFields) : Word :=
  BitVec.ofNat 64 (op * 2 ^ 56 + f.vd.toNat * 2 ^ 50 + f.va.toNat * 2 ^ 44 + f.vb.toNat * 2 ^ 38 + f.vc.toNat * 2 ^ 32
    + f.pr.toNat * 2 ^ 28 + f.fd.toNat * 2 ^ 23 + f.fs.toNat * 2 ^ 18 + f.rnd.toNat * 2 ^ 17 + f.ovf.toNat * 2 ^ 16
    + f.part.toNat * 2 ^ 14 + f.et.toNat * 2 ^ 12)

def encVM (op : Nat) (vd ra : BitVec 6) (pr : BitVec 4) (imm : BitVec 18) : Word :=
  BitVec.ofNat 64 (op * 2 ^ 56 + vd.toNat * 2 ^ 50 + ra.toNat * 2 ^ 44 + pr.toNat * 2 ^ 28 + imm.toNat)

def encVT (op : Nat) (vd ra : BitVec 6) (ts : BitVec 5) (half : Bool) (row : BitVec 8) : Word :=
  BitVec.ofNat 64 (op * 2 ^ 56 + vd.toNat * 2 ^ 50 + ra.toNat * 2 ^ 44 + ts.toNat * 2 ^ 39 + half.toNat * 2 ^ 38
    + row.toNat)

def encMI (op : Nat) (td : BitVec 5) (tag : Bool) : Word :=
  BitVec.ofNat 64 (op * 2 ^ 56 + td.toNat * 2 ^ 51 + tag.toNat * 2 ^ 50)

def encMM (op : Nat) (td : BitVec 5) (ra rb : BitVec 6) (fa fb : BitVec 5) (spa : Bool) : Word :=
  BitVec.ofNat 64 (op * 2 ^ 56 + td.toNat * 2 ^ 51 + ra.toNat * 2 ^ 45 + rb.toNat * 2 ^ 39 + fa.toNat * 2 ^ 34
    + fb.toNat * 2 ^ 29 + spa.toNat * 2 ^ 28)

def encMW (op : Nat) (ts : BitVec 5) (ra : BitVec 6) (fd : BitVec 5) (rnd ovf : Bool) : Word :=
  BitVec.ofNat 64 (op * 2 ^ 56 + ts.toNat * 2 ^ 51 + ra.toNat * 2 ^ 45 + fd.toNat * 2 ^ 40 + rnd.toNat * 2 ^ 39
    + ovf.toNat * 2 ^ 38)

def encXC (op : Nat) (rd ra rb : BitVec 6) (c : BitVec 12) (cons af : Bool) (imm : BitVec 16) : Word :=
  BitVec.ofNat 64 (op * 2 ^ 56 + rd.toNat * 2 ^ 50 + ra.toNat * 2 ^ 44 + rb.toNat * 2 ^ 38 + c.toNat * 2 ^ 26
    + cons.toNat * 2 ^ 25 + af.toNat * 2 ^ 24 + imm.toNat)

def encXP (op : Nat) (rd ra rb : BitVec 6) (c : BitVec 12) (aop : BitVec 4) : Word :=
  BitVec.ofNat 64 (op * 2 ^ 56 + rd.toNat * 2 ^ 50 + ra.toNat * 2 ^ 44 + rb.toNat * 2 ^ 38 + c.toNat * 2 ^ 26
    + aop.toNat * 2 ^ 22)

def encXK (op : Nat) (rd ra rb : BitVec 6) (c : BitVec 12) (ch : BitVec 4) (ck : BitVec 2) : Word :=
  BitVec.ofNat 64 (op * 2 ^ 56 + rd.toNat * 2 ^ 50 + ra.toNat * 2 ^ 44 + rb.toNat * 2 ^ 38 + c.toNat * 2 ^ 26
    + ch.toNat * 2 ^ 22 + ck.toNat * 2 ^ 20)

def encXF (op : Nat) (kind : BitVec 2) : Word := BitVec.ofNat 64 (op * 2 ^ 56 + kind.toNat)

def encXM (op : Nat) (rd ra : BitVec 6) (ln : BitVec 7) : Word :=
  BitVec.ofNat 64 (op * 2 ^ 56 + rd.toNat * 2 ^ 50 + ra.toNat * 2 ^ 44 + ln.toNat)

/-! ### What an issued slot does -/

/-- A copy started by COPY: channel, length, source, destination, cairn, check mode (R230). -/
structure CopyStart where
  ch : Nat
  len : Word
  src : Word
  dst : Word
  cairn : Nat
  ck : Nat
  deriving DecidableEq, Repr

/-- What an X-slot instruction asks of the external port. -/
inductive XAct where
  | none
  | op (o : PodOp)
  | fence (k : FenceKind)
  | copy (c : CopyStart)
  | abort (ch : Nat)
  deriving DecidableEq, Repr

/-- A slot's effect as read at issue: its checks, footprint, destinations, pipeline items (due offset from the issue
cycle), and its doings at issue. -/
structure SlotEff where
  illegal : Bool := false
  reads : List (Nat × Nat) := []           -- registers read: class, index
  tile : Option (Nat × Nat × Nat) := none  -- accumulator tile read at its own step: index, parity keys (first, number) (R108)
  fault : Option (Nat × Nat) := none       -- OPERAND_TYPE or STORE_RANGE: code, DETAIL
  dests : List (Nat × Nat) := []
  items : List (Nat × Act) := []
  banks : List (Nat × Nat × BitVec 16) := []   -- first and last cycle offset, banks
  branch : Bool := false
  target : Option Nat := none
  engine : Option (Nat × Nat) := none      -- M slot: busy time, tile it writes (32: none)
  halt : Bool := false
  genV : Option (BitVec 32) := none
  genM : Option (BitVec 32) := none
  crw : Option (Nat × Word) := none
  podLoad : Bool := false
  channel : Option Nat := none
  wait : Option (Nat × BitVec 32 × Bool) := none
  x : XAct := .none
  deriving DecidableEq, Repr

/-- An illegal encoding (R125). -/
def SlotEff.bad : SlotEff := { illegal := true }

/-- A slot that does nothing (R124). -/
def SlotEff.nop : SlotEff := {}

/-- The effect `e`, unless a field that must be zero is not (R125). -/
def SlotEff.guard (ok : Bool) (e : SlotEff) : SlotEff := if ok then e else .bad

/-- The bank of a local address (R101). -/
def bankOf (a : Nat) : BitVec 16 := (1 : BitVec 16) <<< (a / 256 % 16)

/-- The two banks of a vector access. -/
def banks2 (a : Nat) : BitVec 16 := bankOf a ||| bankOf (a + 256)

/-- A local access of `n` bytes at alignment `al` lies in the store (R101). -/
def inStore (a n al : Nat) : Bool := decide (a + n ≤ storeSize) && a % al == 0

/-- STORE_RANGE with the offending offset (R116). -/
def rangeFault (a : Nat) : Option (Nat × Nat) := some (4, a % 2 ^ 32)

end Sys2Proof.Machine
end

