-- ==== Sys2Proof/Machine/XSlot.lean ====
section
/-! DEFINITION. The X slot (R144-R147, R179-R184, R232): cairn operations, pod operations, fences, copies, lane moves. -/

namespace Sys2Proof.Machine

/-- The amount of a cairn operation: (s[RB] + IMM) modulo 2^32 (R179). -/
def cairnAmount (rb : BitVec 6) (imm : BitVec 16) (s : State) (k : Nat) : BitVec 32 :=
  BitVec.ofNat 32 (((s.core k).readS rb.toNat).toNat + imm.toNat)

def effCadd (rb : BitVec 6) (cn : BitVec 12) (imm : BitVec 16) (s : State) (k : Nat) : SlotEff :=
  { reads := [(0, rb.toNat)], items := [(1, .cairnAdd cn.toNat (cairnAmount rb imm s k))] }

def effCset (rb : BitVec 6) (cn : BitVec 12) (imm : BitVec 16) (s : State) (k : Nat) : SlotEff :=
  { reads := [(0, rb.toNat)], items := [(1, .cairnSet cn.toNat (cairnAmount rb imm s k))] }

/-- CREAD: the count as it stands at issue (R181, R184). -/
def effCread (rd : BitVec 6) (cn : BitVec 12) (s : State) (k : Nat) : SlotEff :=
  { dests := [(0, rd.toNat)], items := [(1, .s rd.toNat (((s.core k).cairn cn.toNat).count.zeroExtend 64))] }

def effCwait (rb : BitVec 6) (cn : BitVec 12) (cons : Bool) (imm : BitVec 16) (s : State) (k : Nat) : SlotEff :=
  { reads := [(0, rb.toNat)], wait := some (cn.toNat, cairnAmount rb imm s k, cons) }

/-- A pod operation read at issue; the port numbers it and fills in outing and bundle. -/
def podOp (kind : OpKind) (addr : Word) (rd cairn : Nat) : PodOp :=
  ⟨0, kind, addr, rd, cairn, 0, 0, 0, 0, false, 0, 0x3FF, none, none, false⟩

def effRcadd (ra rb : BitVec 6) (af : Bool) (imm : BitVec 16) (s : State) (k : Nat) : SlotEff :=
  let c := s.core k
  if af ∧ s.featureOff 4 then .bad
  else
    { reads := [(0, ra.toNat), (0, rb.toNat)],
      x := .op { podOp .rcadd (c.readS ra.toNat) 0 0 with
        data := c.readS rb.toNat + imm.zeroExtend 64, af := af } }

def effPld (rd ra : BitVec 6) (cn : BitVec 12) (s : State) (k : Nat) : SlotEff :=
  { reads := [(0, ra.toNat)], dests := [(0, rd.toNat)], podLoad := true,
    x := .op (podOp .pld ((s.core k).readS ra.toNat) rd.toNat cn.toNat) }

def effPldv (rd ra : BitVec 6) (cn : BitVec 12) (s : State) (k : Nat) : SlotEff :=
  { reads := [(0, ra.toNat)], dests := [(1, rd.toNat)], podLoad := true,
    x := .op (podOp .pldv ((s.core k).readS ra.toNat) rd.toNat cn.toNat) }

def effPst (rd ra : BitVec 6) (cn : BitVec 12) (s : State) (k : Nat) : SlotEff :=
  let c := s.core k
  { reads := [(0, ra.toNat), (0, rd.toNat)],
    x := .op { podOp .pst (c.readS ra.toNat) rd.toNat cn.toNat with data := c.readS rd.toNat } }

def effPstv (rd ra : BitVec 6) (cn : BitVec 12) (s : State) (k : Nat) : SlotEff :=
  let c := s.core k
  { reads := [(0, ra.toNat), (1, rd.toNat)],
    x := .op { podOp .pstv (c.readS ra.toNat) rd.toNat cn.toNat with vec := c.readV rd.toNat } }

/-- PATOM: AOP 0xA-0xF are reserved; CAS also reads s[RD] (R146). -/
def effPatom (rd ra rb : BitVec 6) (cn : BitVec 12) (aop : BitVec 4) (s : State) (k : Nat) : SlotEff :=
  let c := s.core k
  if 9 < aop.toNat then .bad
  else
    { reads := [(0, ra.toNat), (0, rb.toNat)] ++ (if aop = 9 then [(0, rd.toNat)] else []), dests := [(0, rd.toNat)],
      x := .op { podOp .patom (c.readS ra.toNat) rd.toNat cn.toNat with
        data := c.readS rb.toNat, cmp := c.readS rd.toNat, aop := aop.toNat } }

def effFence (kind : FenceKind) : SlotEff := { x := .fence kind }

/-- COPY: CK 3 is reserved (R146, R230). -/
def effCopy (rd ra rb : BitVec 6) (cn : BitVec 12) (ch : BitVec 4) (ck : BitVec 2) (s : State) (k : Nat) : SlotEff :=
  let c := s.core k
  if ck = 3 ∨ (ck ≠ 0 ∧ s.featureOff 5) then .bad
  else
    { reads := [(0, rd.toNat), (0, ra.toNat), (0, rb.toNat)], channel := some ch.toNat,
      x := .copy ⟨ch.toNat, c.readS rd.toNat, c.readS ra.toNat, c.readS rb.toNat, cn.toNat, ck.toNat⟩ }

def effCabort (ch : BitVec 4) : SlotEff := { x := .abort ch.toNat }

/-- The copy status word (R232). -/
def Copy.statusWord (c : Copy) : Word :=
  BitVec.ofNat 64 (c.check.toNat * 2 ^ 32 + c.status * 2 ^ 28 + (if c.status = 4 then c.reason * 2 ^ 20 else 0)
    + c.performed / 4096 % 2 ^ 20)

def effCstat (rd : BitVec 6) (ch : BitVec 4) (s : State) (k : Nat) : SlotEff :=
  { dests := [(0, rd.toNat)], items := [(1, .s rd.toNat ((s.core k).copy ch.toNat).statusWord)] }

def effMsg (rd ra : BitVec 6) (cn : BitVec 12) (s : State) (k : Nat) : SlotEff :=
  let c := s.core k
  { reads := [(0, ra.toNat), (1, rd.toNat)],
    x := .op { podOp .msg (c.readS ra.toNat) rd.toNat cn.toNat with vec := c.readV rd.toNat } }

def effRedc (rd ra : BitVec 6) (s : State) (k : Nat) : SlotEff :=
  let c := s.core k
  { reads := [(0, ra.toNat), (1, rd.toNat)],
    x := .op { podOp .redc (c.readS ra.toNat) rd.toNat 0 with vec := c.readV rd.toNat } }

def effAttn (ra : BitVec 6) (cn : BitVec 12) (s : State) (k : Nat) : SlotEff :=
  if s.featureOff 2 then .bad
  else { reads := [(0, ra.toNat)], x := .op (podOp .attn ((s.core k).readS ra.toNat) 0 cn.toNat) }

def effMvsv (rd ra : BitVec 6) (ln : BitVec 7) (s : State) (k : Nat) : SlotEff :=
  { reads := [(0, ra.toNat)], dests := [(1, rd.toNat)],
    items := [(1, .v rd.toNat (BitVec.ofNat 4096 (((s.core k).readS ra.toNat).toNat % 2 ^ 32 * 2 ^ (32 * ln.toNat)))
      (predOf1 ln.toNat))] }
where
  /-- Only one lane. -/
  predOf1 (i : Nat) : BitVec 128 := (1 : BitVec 128) <<< i

def effMvvs (rd ra : BitVec 6) (ln : BitVec 7) (s : State) (k : Nat) : SlotEff :=
  { reads := [(1, ra.toNat)], dests := [(0, rd.toNat)],
    items := [(1, .s rd.toNat (BitVec.ofNat 64 (lane ((s.core k).readV ra.toNat) ln.toNat)))] }

/-- The X slot decoded (R125, R144, R145). -/
def effX (w : Word) (s : State) (k : Nat) : SlotEff :=
  let rd : BitVec 6 := BitVec.ofNat 6 (fld 55 50 w)
  let ra : BitVec 6 := BitVec.ofNat 6 (fld 49 44 w)
  let rb : BitVec 6 := BitVec.ofNat 6 (fld 43 38 w)
  let cn : BitVec 12 := BitVec.ofNat 12 (fld 37 26 w)
  let cons := fld 25 25 w == 1
  let af := fld 24 24 w == 1
  let imm : BitVec 16 := BitVec.ofNat 16 (fld 15 0 w)
  let aop : BitVec 4 := BitVec.ofNat 4 (fld 25 22 w)
  let ck : BitVec 2 := BitVec.ofNat 2 (fld 21 20 w)
  let xc := fld 23 16 w == 0
  let xp := fld 21 0 w == 0
  let xp3 := xp && rb == 0 && aop == 0
  let xk := fld 19 0 w == 0
  let ln : BitVec 7 := BitVec.ofNat 7 (fld 6 0 w)
  let xm := fld 43 7 w == 0
  if w = 0 then .nop
  else match fld 63 56 w with
    | 0x08 => .guard (xc && rd == 0 && ra == 0 && !cons && !af) (effCadd rb cn imm s k)
    | 0x09 => .guard (xc && ra == 0 && rb == 0 && !cons && !af && imm == 0) (effCread rd cn s k)
    | 0x0A => .guard (xc && rd == 0 && ra == 0 && !af) (effCwait rb cn cons imm s k)
    | 0x0B => .guard (xc && rd == 0 && ra == 0 && !cons && !af) (effCset rb cn imm s k)
    | 0x10 => .guard (xc && rd == 0 && cn == 0 && !cons) (effRcadd ra rb af imm s k)
    | 0x18 => .guard xp3 (effPld rd ra cn s k)
    | 0x19 => .guard xp3 (effPldv rd ra cn s k)
    | 0x1A => .guard xp3 (effPst rd ra cn s k)
    | 0x1B => .guard xp3 (effPstv rd ra cn s k)
    | 0x1C => .guard xp (effPatom rd ra rb cn aop s k)
    | 0x20 =>
      if fld 55 2 w = 0 then
        match fld 1 0 w with
        | 0 => effFence .all
        | 1 => effFence .w
        | 2 => effFence .r
        | _ => .bad
      else .bad
    | 0x28 => .guard xk (effCopy rd ra rb cn aop ck s k)
    | 0x29 => .guard (xk && rd == 0 && ra == 0 && rb == 0 && cn == 0 && ck == 0) (effCabort aop)
    | 0x2A => .guard (xk && ra == 0 && rb == 0 && cn == 0 && ck == 0) (effCstat rd aop s k)
    | 0x30 => .guard xp3 (effMsg rd ra cn s k)
    | 0x38 => .guard (xp3 && cn == 0) (effRedc rd ra s k)
    | 0x3C => .guard (xp3 && rd == 0) (effAttn ra cn s k)
    | 0x40 => .guard xm (effMvsv rd ra ln s k)
    | 0x41 => .guard xm (effMvvs rd ra ln s k)
    | _ => .bad

end Sys2Proof.Machine
end

