-- ==== Sys2Proof/Machine/Port.lean ====
section
/-! DEFINITION. The external port of a core (R97, R147, R208, R216-R224) and its copy channels (R230-R237): checks at issue,
send slots and fences, sending, and the ends of copies. -/

namespace Sys2Proof.Machine

/-! ### Checks at issue (R208) -/

/-- A port's verdict on an operation. -/
inductive Verdict where
  | ok
  | refuse (code : Nat)
  | absent (site : Nat)
  deriving DecidableEq, Repr

/-- A pod address with a reserved bit set (R202). -/
def reservedAddr (a : Word) : Bool := bits 63 62 a.toNat != 0 || bits 55 55 a.toNat != 0

/-- The port's alignment check (R205). -/
def misaligned (kind : OpKind) (a : Word) : Bool :=
  match kind with
  | .pldv => podOffset a % 256 != 0 || crossesFixed (podSite a) (podOffset a)
  | .pstv => podOffset a % 256 != 0 || crossesFixed (podSite a) (podOffset a)
  | .msg => podOffset a % 256 != 0 || crossesFixed (podSite a) (podOffset a)
  | .redc => false
  | .attn => false
  | _ => podOffset a % 8 != 0

/-- ST, GW0 and GW1: refused at the port. -/
def unitSite (site : Nat) : Bool := site == 12 || site == 14 || site == 15

/-- The port's checks in table order (R208). -/
def State.portCheck (s : State) (k : Nat) (o : PodOp) : Verdict :=
  let full := 256 ≤ (s.core k).slots.length
  if o.kind = .attn then (if full then .refuse 8 else .ok)
  else if reservedAddr o.addr then .refuse 1
  else if !s.joined (podDevice o.addr) then .refuse 2
  else if podDevice o.addr = s.device ∧ !s.sitePresent (podSite o.addr) then .absent (podSite o.addr)
  else if unitSite (podSite o.addr) then .refuse 3
  else if misaligned o.kind o.addr then .refuse 4
  else if o.outing = 0x3FF then .refuse 6
  else if full then .refuse 8
  else .ok

/-- Bytes of a check value (R230). -/
def checkBytes (ck : Nat) : Nat := if ck = 1 then 4 else if ck = 2 then 8 else 0

/-- The port's checks of a copy (R208, R230); an absent site of the own module counts as TARGET_CLASS (R31). -/
def State.copyCheck (s : State) (c : CopyStart) (outing : Nat) : Option Nat :=
  let len := c.len.toNat
  let both (p : Word → Bool) : Bool := p c.src || p c.dst
  if both reservedAddr then some 1
  else if both (fun a => !s.joined (podDevice a)) then some 2
  else if both (fun a => unitSite (podSite a) || (podDevice a == s.device && !s.sitePresent (podSite a))) then some 3
  else if both (fun a => podOffset a % 8 != 0) ∨ len % 8 ≠ 0 then some 4
  else if outing = 0x3FF then some 6
  else if len = 0 ∨ 0xFFFFFFF8 < len then some 9
  else if podDevice c.src = podDevice c.dst ∧ podSite c.src = podSite c.dst ∧
      podOffset c.src < podOffset c.dst + len + checkBytes c.ck ∧ podOffset c.dst < podOffset c.src + len then some 10
  else none

/-! ### Fences (R216, R220) -/

/-- Is an operation of the W class? Loads alone are not. -/
def OpKind.isW : OpKind → Bool
  | .pld => false
  | .pldv => false
  | _ => true

/-- The classes a fence names. -/
def FenceKind.names : FenceKind → Bool → Bool
  | .all, _ => true
  | .w, isW => isW
  | .r, isW => !isW

/-- Operations not yet performed (R210): id, W class, add with the after-fence flag. -/
def Core.unperformed (c : Core) : List (Nat × Bool × Bool) :=
  (c.slots ++ c.unacked).map (fun o => (o.id, o.kind.isW, o.af))
  ++ ((List.range 16).filter (fun n => (c.copy n).status = 1)).map (fun n => ((c.copy n).id, true, false))
  ++ ((List.range 16).filterMap (fun n => SMap.get c.merges n none)).filterMap (fun m =>
      if 0 < m.accept then some (m.op, true, false) else none)

/-- Does a fence hold an operation with this id? -/
def Core.fenced (c : Core) (id : Nat) (isW : Bool) : Bool :=
  c.fences.any (fun f => decide (f.id < id) && f.kind.names isW
    && c.unperformed.any (fun o => decide (o.1 < f.id) && f.kind.names o.2.1))

/-- Does its after-fence flag hold an RCADD? Two such adds are not ordered with each other (R220). -/
def Core.afHeld (c : Core) (o : PodOp) : Bool :=
  o.af && c.unperformed.any (fun x => decide (x.1 < o.id) && x.2.1 && !x.2.2)

/-! ### Sending -/

/-- The next number of a stream (R223). -/
def State.takeSeq (s : State) (k : Nat) : Nat × State :=
  let n := s.get POD_SEQ_NEXT k
  (n, s.put POD_SEQ_NEXT k (n + 1))

/-- The message an operation travels as (R316). -/
def State.opMsg (s : State) (k : Nat) (o : PodOp) (seq : Nat) : HomeOp :=
  let r : Req := { Req.blank with
    af := o.af, outing := BitVec.ofNat 10 o.outing, stream := BitVec.ofNat 12 (s.stream k), cairn := BitVec.ofNat 12 o.cairn,
    seq := BitVec.ofNat 32 seq, address := o.addr }
  let d8 := toLE 8 o.data.toNat
  let d512 := toLE 512 o.vec.toNat
  match o.kind with
  | .rcadd => ⟨.cairnAdd, false, { r with operand := o.data }⟩
  | .pld => ⟨.load8, false, r⟩
  | .pldv => ⟨.load512, false, r⟩
  | .pst => ⟨.store8, false, { r with data := d8, length := 8 }⟩
  | .pstv => ⟨.store512, false, { r with data := d512, length := 512 }⟩
  | .patom => ⟨.atomic, false, { r with aop := BitVec.ofNat 4 o.aop, operand := o.data, compare := o.cmp }⟩
  | .msg => ⟨.msg, false, { r with data := d512, length := 512 }⟩
  | .redc => ⟨.redc, false, { r with data := d512, length := 512 }⟩
  | .attn => ⟨.attnSegment, false, r⟩

/-- An operation leaves its slot. -/
def State.sendOp (s : State) (k : Nat) (o : PodOp) : State :=
  let q := s.takeSeq k
  let s := q.2.modCore k (fun c => { c with slots := c.slots.erase o })
  if o.kind = .attn then s.attnStart k o q.1
  else
    (s.modCore k (fun c => { c with unacked := c.unacked ++ [{ o with seq := some q.1 }] })).send
      (.request (s.opMsg k o q.1))

/-! ### Copies -/

/-- Store a channel. -/
def State.setCopy (s : State) (k ch : Nat) (c : Copy) : State :=
  s.modCore k (fun x => { x with copies := SMap.set x.copies ch c Copy.idle })

/-- The CRC register at the start and after bytes (R233). -/
def crcStart (ck : Nat) : BitVec 64 := if ck = 1 then 0xFFFFFFFF else 0
def crcFeed (ck : Nat) (r : BitVec 64) (l : List Byte) : BitVec 64 :=
  if ck = 1 then (l.foldl crc32cByte (BitVec.ofNat 32 r.toNat)).zeroExtend 64
  else if ck = 2 then l.foldl crc64Byte r else r

/-- The finished CRC. -/
def crcDone (ck : Nat) (r : BitVec 64) : BitVec 64 := if ck = 1 then r ^^^ 0xFFFFFFFF else r

/-- `n` bytes of poison words. -/
def poisonBytes (n : Nat) : List Byte := (List.replicate ((n + 3) / 4) (toLE 4 poison32)).flatten.take n

/-- A copy ends with a final status (R232); every status but DONE raises a copy record. -/
def State.copyEnd (s : State) (k ch status reason : Nat) : State :=
  let c := (s.core k).copy ch
  let check := if status = 2 ∨ status = 5 ∨ status = 6 then BitVec.ofNat 32 (crcDone c.ck c.crc).toNat else 0
  let c := { c with status := status, reason := reason, check := check, flight := none }
  let s := s.setCopy k ch c
  if status = 2 then s
  else s.raise 0x04 5 (if status = 5 ∨ status = 6 then 2 else 0) (coreDie k) (corePos k) c.outing c.statusWord c.src c.dst

/-- A message of a copy. -/
def State.copyMsg (s : State) (k : Nat) (c : Copy) (opc : Opc) (addr aux : Word) (len : Nat) (data : List Byte) : State :=
  s.send (.request ⟨opc, false, { Req.blank with
    ck := BitVec.ofNat 2 c.ck, outing := BitVec.ofNat 10 c.outing, stream := BitVec.ofNat 12 (s.stream k),
    cairn := BitVec.ofNat 12 c.cairn, seq := BitVec.ofNat 32 c.seq, length := BitVec.ofNat 32 len, address := addr, aux := aux,
    data := data }⟩)

/-- Bytes of the chunk that starts at offset `o` of the copy: at most 4 KiB, no 4 KiB boundary of the destination (R231). -/
def Copy.chunk (c : Copy) (o : Nat) : Nat := min (c.len - o) (4096 - (podOffset c.dst + o) % 4096)

/-- A channel that has nothing on its way sends its next chunk, or its check value. -/
def State.copySend (s : State) (k ch : Nat) : State :=
  let c := (s.core k).copy ch
  if c.status ≠ 1 ∨ !c.started ∨ c.lost ∨ c.aborted ∨ c.flight.isSome then s
  else if c.sent < c.len then
    let n := c.chunk c.sent
    let d := c.dst + BitVec.ofNat 64 c.sent
    let phase := if c.srcDead then Phase.poison else Phase.chunk
    let s := s.setCopy k ch { c with sent := c.sent + n, flight := some (n, phase), bytes := none }
    if c.srcDead then s.copyMsg k c .copyWrite d 0 n (poisonBytes n)
    else s.copyMsg k c .copyRead (c.src + BitVec.ofNat 64 c.sent) d n []
  else if c.ck ≠ 0 ∧ !c.checked ∧ !c.dstDead then
    let n := checkBytes c.ck
    (s.setCopy k ch { c with flight := some (n, .check) }).copyMsg k c .copyWrite (c.dst + BitVec.ofNat 64 c.len) 0 n
      (toLE n (crcDone c.ck c.crc).toNat)
  else s

/-- What is on its way has ended: `data` is what the destination received or would have; `ok` says it was performed. -/
def State.copyLanded (s : State) (k ch : Nat) (data : List Byte) (ok : Bool) : State :=
  let c := (s.core k).copy ch
  match c.flight with
  | none => s
  | some (_, .check) =>
    let s := s.setCopy k ch { c with flight := none, checked := ok }
    if c.aborted then s.copyEnd k ch 3 0 else s
  | some (n, _) =>
    let s := s.setCopy k ch { c with
      flight := none, crc := crcFeed c.ck c.crc data, performed := if ok then c.performed + n else c.performed }
    if c.aborted then s.copyEnd k ch 3 0 else s.copySend k ch

/-- The home's check of a whole range of the own module (R204, R206, R231): a refusal code. A fenced target is judged by
what its messages meet. -/
def State.rangeCheck (s : State) (site off n outing : Nat) (read : Bool) : Option Nat :=
  match s.windowOf site off with
  | .store j o =>
    if storeSize < o + n then some 5
    else if s.gate site j ≠ .pass ∨ s.coreOuting (s.logicalCore site j) outing then none else some 6
  | .stack m o =>
    if s.capacity m < o + n then some 5 else if s.granulesOk m o n outing read then none else some 6
  | .spur => none
  | .none => some 5
  | _ => some 3

/-- Step 1 of a copy (R231): the homes of the own module check their whole ranges; then the first chunk leaves. Where both
ranges are refused the source's code is the copy's (DESIGN CHOICE, log entry 38). -/
def State.copyBegin (s : State) (k ch : Nat) : State :=
  let q := s.takeSeq k
  let c := (q.2.core k).copy ch
  let s := q.2.setCopy k ch { c with started := true, seq := q.1, crc := crcStart c.ck }
  let own (a : Word) : Bool := podDevice a == s.device
  let bad := (if own c.src then s.rangeCheck (podSite c.src) (podOffset c.src) c.len c.outing true else none).or
    (if own c.dst then s.rangeCheck (podSite c.dst) (podOffset c.dst) (c.len + checkBytes c.ck) c.outing false else none)
  let letIn (s : State) (a : Word) (n : Nat) (read : Bool) : State :=
    if own a ∧ 4 ≤ podSite a ∧ podSite a < 12 then
      s.admitCopy (podSite a) (s.stream k) (BitVec.ofNat 32 q.1) read (granulesOf (podOffset a) n)
    else s
  match bad with
  | some code => s.copyEnd k ch 4 code
  | none => (letIn (letIn s c.src c.len true) c.dst (c.len + checkBytes c.ck) false).copySend k ch

/-- CABORT (R234): an ACTIVE channel starts no new chunk and ends ABORTED when nothing is on its way. -/
def State.copyAbort (s : State) (k ch : Nat) : State :=
  let c := (s.core k).copy ch
  if c.status ≠ 1 then s
  else
    let s := s.setCopy k ch { c with aborted := true }
    if c.flight.isNone ∧ !c.lost then s.copyEnd k ch 3 0 else s

/-- CABORTs issued in the last cycle reach their channels (R234). -/
def State.reachAborts (s : State) (k : Nat) : State :=
  ((s.core k).aborts.foldl (fun s ch => s.copyAbort k ch) s).modCore k (fun c => { c with aborts := [] })

/-! ### The port at work -/

/-- May the stream send one more operation (R224, R399)? -/
def State.mayStream (s : State) (k : Nat) : Bool := decide ((s.core k).unackedCount < min 4096 (s.get STREAM_PACE_LIMIT k))

/-- The first operation in a slot that nothing holds (R217). -/
def State.eligible (s : State) (k : Nat) : Option PodOp :=
  let c := s.core k
  if !s.mayStream k then none
  else c.slots.find? (fun o => !(c.fenced o.id o.kind.isW || c.afHeld o))

/-- Copies that neither a fence nor the stream's limit holds any longer begin (R224); fences with nothing left before them go. -/
def State.releaseCopies (s : State) (k : Nat) : State :=
  let s := (List.range 16).foldl (fun s ch =>
    let c := s.core k
    let x := c.copy ch
    if x.status = 1 ∧ !x.started ∧ !c.fenced x.id true ∧ s.mayStream k then s.copyBegin k ch else s) s
  s.modCore k (fun c => { c with fences := c.fences.filter (fun f =>
    c.unperformed.any (fun o => decide (o.1 < f.id) && f.kind.names o.2.1)) })

/-- One cycle of the port: one eligible operation is sent (R217). -/
def State.pump (s : State) (k : Nat) : State :=
  let s := s.releaseCopies k
  match s.eligible k with
  | some o => (s.sendOp k o).modCore k (fun c => { c with sentNow := true })
  | none => s

/-- A POD_REFUSED or ABSENT_SITE fault of the X slot (R116, R209). -/
def portFault (code detail pc : Nat) : FaultRec := ⟨code, 3, detail + pc * 65536, pc⟩

/-- The next id in issue order. -/
def State.takeId (s : State) (k : Nat) : Nat × State :=
  ((s.core k).nextId, s.modCore k (fun c => { c with nextId := c.nextId + 1 }))

/-- What the X slot of bundle `pc` asks of the port, at issue: the faults its checks raise (R208, R209). A CABORT of the cycle
before reaches its channel (R234). -/
def State.portIssue (s : State) (k pc : Nat) (x : XAct) : State × List FaultRec :=
  let s := s.reachAborts k
  let q := s.takeId k
  let outing := s.get CORE_OUTING_OUTING k
  match x with
  | .none => (s, [])
  | .op o =>
    let o := { o with id := q.1, pc := pc, outing := outing }
    match q.2.portCheck k o with
    | .ok => ((q.2.modCore k (fun c => { c with slots := c.slots ++ [o] })).pump k, [])
    | .absent site => (q.2, [portFault 6 site pc])
    | .refuse code =>
      if o.kind = .attn then
        let base := bits 25 6 o.addr.toNat * 64
        let add := (AttnReq.read (s.core k).store base).add
        let n := q.2.takeSeq k
        (n.2.attnRecord k base o.cairn (if add = 0 then 1 else add) n.1 1 9 0 0 0, [])
      else (q.2, [portFault 0xA code pc])
  | .fence kd => (q.2.modCore k (fun c => { c with fences := c.fences ++ [⟨q.1, kd⟩] }), [])
  | .copy c =>
    let x : Copy := { Copy.idle with
      id := q.1, status := 1, src := c.src, dst := c.dst, len := c.len.toNat, ck := c.ck, cairn := c.cairn,
      outing := outing, pc := pc }
    let s := q.2.setCopy k c.ch x
    match s.copyCheck c outing with
    | some code => (s.copyEnd k c.ch 4 code, [])
    | none => (s.releaseCopies k, [])
  | .abort ch => (s.modCore k (fun c => { c with aborts := c.aborts ++ [ch] }), [])

end Sys2Proof.Machine
end

