-- ==== Sys2Proof/Machine/Home.lean ====
section
/-! DEFINITION. Homes: an operation that arrives is checked (R204-R208), numbered operations pass their window (R223), core-store
accesses take their beats (R103), and the operation is performed and answered (R209-R213, R317). -/

namespace Sys2Proof.Machine

/-! ### Answers -/

/-- Operations of one line in their home's queue (R227): those that wait for beats, and those of a line that performs one a
cycle. -/
def State.lineQueue (s : State) (a : Word) : Nat :=
  (s.jobs.filter (fun j => match j.2.bind Job.op with | some o => o.req.address.toNat / 64 == a.toNat / 64 | none => false)).length
    + (SMap.get s.lines (a.toNat / 64) 0 - s.ticks)

/-- An operation joins the queue of a stack or cairn line, which performs one a cycle (R227). The queue tells only when the
congestion mark is set: the operation's effect stands at once (log entry 8). -/
def State.joinLine (s : State) (a : Word) : State :=
  { s with lines := SMap.set s.lines (a.toNat / 64) (max s.ticks (SMap.get s.lines (a.toNat / 64) 0) + 1) 0 }

/-- A response to an operation (R317), with the congestion mark of R227. -/
def State.answer (s : State) (op : HomeOp) (st : RespStatus) (code : Nat) (data : List Byte) : State :=
  s.send (.response ⟨op.req.stream, op.req.seq, st, BitVec.ofNat 8 code, decide (64 < s.lineQueue op.req.address), data⟩)

/-- Remember an atomic's old value among the stream's latest 64 (R225). -/
def State.remember (s : State) (op : HomeOp) (site : Nat) (old : Word) : State :=
  let key := historyKey site op.req.stream.toNat
  { s with history := SMap.set s.history key (((op.req.seq, old) :: SMap.get s.history key []).take 64) [] }

/-- Answers to the originals of a combined operation (R229): each PATOM gets the old value plus the amounts held before it
for its word, which the gateway keeps for a repeat (R225); a refusal refuses each. -/
def State.answerOriginals (s : State) (l : List HomeOp) (st : RespStatus) (code : Nat) (old : List Byte) : State :=
  (l.foldl (fun (x : State × List (Nat × Nat)) o =>
    let w := o.req.address.toNat % 64 / 8
    let before := ((x.2.filter (fun y => y.1 == w)).map (·.2)).sum
    let value := leNat ((old.drop (8 * w)).take 8) + before
    let given := o.opc == .atomic && st == .done
    let s := if given then x.1.remember o (podSite o.req.address) (BitVec.ofNat 64 value) else x.1
    (s.answer o st code (if given then toLE 8 value else []), x.2 ++ [(w, o.req.operand.toNat)])) (s, [])).1

/-- A landing's own write of a spill slot (R246). -/
def HomeOp.isSpill (op : HomeOp) : Bool := op.completion && op.opc == .copyWrite

/-- A reduction record (R422): the Ridge or the gateways, and the site. `i` is a context's register index, or 256 and a stage's
number. -/
def State.redRecord (s : State) (i code sev : Nat) : State :=
  let outing := if i < 256 then s.get RED_CFG_OUTING i else s.get RED_STAGE_CFG_OUTING (i - 256)
  s.raise 0x05 code sev 4 (if i < 256 then i / 64 else 14) outing 0 0 0

/-- A delivery or a stage's output has its answer: a target of another outing is skipped (R247), a dead one is dropped (R252);
both are recorded. -/
def State.unitAnswer (s : State) (x : UnitSend) (st : RespStatus) (code : Nat) : State :=
  let s := { s with unitSends := s.unitSends.erase x }
  if st = .dead then s.redRecord x.red 3 2
  else if st = .refused ∧ code = 6 ∧ x.red < 256 then (s.put RED_STATUS_TARGET_SKIPPED x.red 1).redRecord x.red 1 2
  else s

/-- The answer to an operation: a combined one is answered at its gateway, a delivery of a landing here or a stage's output at
its unit, a completion or arrival add and a spill not at all. -/
def State.respond (s : State) (op : HomeOp) (st : RespStatus) (code : Nat) (data : List Byte) : State :=
  if op.completion ∧ op.opc ≠ .msg then s
  else match s.unitSends.find? (fun x => op.req.stream.toNat == s.device * 64 + x.unit && x.seq == op.req.seq) with
  | some x => if st = .hold then s else s.unitAnswer x st code
  | none =>
    let mine (c : Combined) : Bool := op.req.stream.toNat == s.device * 64 + c.unit && c.seq == op.req.seq.toNat
    match s.combined.find? mine with
    | some c => { s with combined := s.combined.filter (fun x => !mine x) }.answerOriginals c.originals st code data
    | none => s.answer op st code data

/-! ### Bytes of a window -/

/-- `n` bytes of a window; a missing byte lies in an uncorrectable word or line. -/
def State.readHome (s : State) (w : PodWindow) (n : Nat) (site : Nat) : List (Option Byte) × State :=
  match w with
  | .store j o =>
    let k := s.logicalCore site j
    let c := s.core k
    ((List.range n).map (fun i => if c.ecc ((o + i) / 8) = .bad then none else some (Mem.byte c.store (o + i))),
      s.readStore k o n)
  | .stack m o => s.readStack m o n
  | _ => (List.replicate n none, s)

/-- Bytes written to a window. -/
def State.writeHome (s : State) (w : PodWindow) (site : Nat) (l : List Byte) : State :=
  match w with
  | .store j o => s.writeBytes (s.logicalCore site j) o l
  | .stack m o => s.writeStack m o l
  | _ => s

/-- The bytes with every 64-byte line that misses one given as poison words, counted from byte offset `o` (R237). -/
def poisonLines (o : Nat) (l : List (Option Byte)) : List Byte :=
  let badLine (n : Nat) : Bool := ((List.range l.length).filter (fun i => (o + i) / 64 == n)).any
    (fun i => (l.getD i none).isNone)
  (List.range l.length).map (fun i =>
    if badLine ((o + i) / 64) then BitVec.ofNat 8 (poison32 / 2 ^ (8 * ((o + i) % 4))) else (l.getD i none).getD 0)

/-- The result of an atomic (R146): the new word. -/
def atomicNew (aop : Nat) (old x cmp : Word) : Word :=
  match aop with
  | 0 => old + x
  | 1 => old &&& x
  | 2 => old ||| x
  | 3 => old ^^^ x
  | 4 => if old.ult x then old else x
  | 5 => if old.ult x then x else old
  | 6 => if old.slt x then old else x
  | 7 => if old.slt x then x else old
  | 8 => x
  | 9 => if old = cmp then x else old
  | _ => old

/-- Amounts of a combined add by word: `data` holds eight 64-bit amounts (R228). -/
def combinedAmounts (data : List Byte) : List Nat := (List.range 8).map (fun i => leNat ((data.drop (8 * i)).take 8))

/-- Words of the line that a combined add names: those with an amount, and those whose originals sum to 0, which a bit of
`compare` marks (an add of 0 takes its place too, R181; log entry 22). -/
def combinedWords (r : Req) : List Nat :=
  (List.range 8).filter (fun i => (combinedAmounts r.data).getD i 0 != 0 || r.compare.getLsbD i)

/-! ### Performing -/

/-- A repeated PATOM (R225). -/
def State.replayAtomic (s : State) (op : HomeOp) (site : Nat) : State :=
  match (SMap.get s.history (historyKey site op.req.stream.toNat) []).find? (fun x => x.1 == op.req.seq) with
  | some x => s.respond op .done 0 (toLE 8 x.2.toNat)
  | none =>
    (s.raise 0x04 2 2 (siteDie site) site op.req.outing.toNat (op.req.stream.zeroExtend 64) (op.req.seq.zeroExtend 64)
      op.req.address).respond op .done 0 (toLE 8 0xDEADDEADDEADDEAD)

/-- An atomic at its home (R213, R223, R237). A combined add names a whole line (R228). -/
def State.performAtomic (s : State) (op : HomeOp) (w : PodWindow) (site : Nat) : State :=
  let p := s.windowPass site 0 op.req.stream.toNat op.req.seq
  if !p.1 then p.2.replayAtomic op site
  else if op.req.data.length = 64 then
    let r := p.2.readHome w 64 site
    match allBytes r.1 with
    | none => r.2.respond op .dataError 0 []
    | some b =>
      let new := (List.range 8).map (fun i =>
        toLE 8 (leNat ((b.drop (8 * i)).take 8) + (combinedAmounts op.req.data).getD i 0))
      (r.2.writeHome w site new.flatten).respond op .done 0 b
  else
    let r := p.2.readHome w 8 site
    match allBytes r.1 with
    | none => r.2.respond op .dataError 0 []
    | some b =>
      let old := BitVec.ofNat 64 (leNat b)
      let s := r.2.writeHome w site (toLE 8 (atomicNew op.req.aop.toNat old op.req.operand op.req.compare).toNat)
      (s.remember op site old).respond op .done 0 b

/-- An add at its cairn (R182, R228). -/
def State.performAdd (s : State) (op : HomeOp) (site j n : Nat) : State :=
  let p := s.windowPass site (if op.completion then 1 else 0) op.req.stream.toNat op.req.seq
  let k := s.logicalCore site j
  let s := if !p.1 then p.2
    else if op.req.data.length = 64 then
      (combinedWords op.req).foldl (fun s i =>
        s.outsideAdd k (n / 8 * 8 + i) (BitVec.ofNat 32 ((combinedAmounts op.req.data).getD i 0)) 4) p.2
    else p.2.outsideAdd k n (BitVec.ofNat 32 op.req.operand.toNat) 4
  s.respond op .done 0 []

/-- The channel of the own module that a chunk belongs to keeps the bytes its source sent (R233). -/
def State.chunkSent (s : State) (op : HomeOp) (bytes : List Byte) : State :=
  let l := op.req.stream.toNat % 64
  if op.req.stream.toNat / 64 = s.device ∧ l < 32 then
    let k := s.logicalCore (l / 8) (l % 8)
    match (List.range 16).find? (fun ch => let c := (s.core k).copy ch
      c.status == 1 && c.seq == op.req.seq.toNat && c.flight.isSome) with
    | some ch => s.setCopy k ch { (s.core k).copy ch with bytes := some bytes }
    | none => s
  else s

/-- The operation is performed at its window (R210). A message marked as a completion is a reduction delivery, with its own
amount (R247). The DONE answer of a COPY_WRITE carries the chunk's bytes, from which the port feeds the CRC (DESIGN CHOICE, log
entry 38). -/
def State.perform (s : State) (op : HomeOp) : State :=
  let site := podSite op.req.address
  let w := s.windowOf site (podOffset op.req.address)
  match op.opc with
  | .load8 =>
    match w with
    | .cairn j n => s.respond op .done 0 (toLE 8 ((s.core (s.logicalCore site j)).cairn n).count.toNat)
    | _ =>
      let r := s.readHome w 8 site
      match allBytes r.1 with
      | some b => r.2.respond op .done 0 b
      | none => r.2.respond op .dataError 0 []
  | .load512 =>
    let r := s.readHome w 512 site
    match allBytes r.1 with
    | some b => r.2.respond op .done 0 b
    | none => r.2.respond op .dataError 0 []
  | .store8 => (s.writeHome w site (op.req.data.take 8)).respond op .done 0 []
  | .store512 => (s.writeHome w site (op.req.data.take 512)).respond op .done 0 []
  | .atomic => s.performAtomic op w site
  | .cairnAdd =>
    match w with
    | .cairn j n => s.performAdd op site j n
    | _ => s
  | .copyRead =>
    let n := op.req.length.toNat
    let r := s.readHome w n site
    let bytes := poisonLines (podOffset op.req.address) r.1
    let s := r.2.send (.request ⟨.copyWrite, false, { op.req with address := op.req.aux, aux := 0, data := bytes }⟩)
    let s := s.chunkSent op bytes
    if (allBytes r.1).isSome then s else s.respond op .dataError 0 []
  | .copyWrite => (s.writeHome w site op.req.data).respond op .done 0 op.req.data
  | .msg =>
    let p := s.windowPass site (if op.completion then 1 else 0) op.req.stream.toNat op.req.seq
    let amount : BitVec 32 := if op.completion then BitVec.ofNat 32 op.req.operand.toNat else 1
    match w with
    | .store j _ =>
      if p.1 then
        ((p.2.writeHome w site (op.req.data.take 512)).outsideAdd (s.logicalCore site j) op.req.cairn.toNat amount 4).respond
          op .done 0 []
      else p.2.respond op .done 0 []
    | _ => s
  | .redc => s.send (.request op)
  | _ => s

/-! ### Checks at the home -/

/-- Bytes an operation names. -/
def HomeOp.size (op : HomeOp) : Nat :=
  match op.opc with
  | .load512 => 512
  | .store512 => 512
  | .msg => 512
  | .copyRead => op.req.length.toNat
  | .copyWrite => op.req.data.length
  | _ => 8

/-- Does the operation only read, so that SHARED_READ admits it (R206)? -/
def HomeOp.reads (op : HomeOp) : Bool := op.opc == .load8 || op.opc == .load512 || op.opc == .copyRead

/-- Does the window accept the operation (R204)? -/
def accepts (w : PodWindow) (opc : Opc) : Bool :=
  match w with
  | .store .. => opc != .cairnAdd && opc != .redc && opc != .attnSegment
  | .cairn .. => opc == .cairnAdd || opc == .load8
  | .red .. => opc == .redc
  | .stack .. => opc != .cairnAdd && opc != .redc && opc != .msg
  | .spur => true
  | .unit => false
  | .none => true

/-- Is the operation a chunk of a copy, or its check value? -/
def HomeOp.isChunk (op : HomeOp) : Bool := op.opc == .copyRead || op.opc == .copyWrite

/-- What the one check of a chunk's copy let pass at this stack, as source or as destination: none while it has not been made
(R206, R207). -/
def State.copyPassed (s : State) (op : HomeOp) : List (BitVec 32 × Nat) :=
  (SMap.get s.admitted (historyKey (podSite op.req.address) op.req.stream.toNat) []).filter
    (fun x => x.1 == op.req.seq && x.2 % 2 == copyGranule op.reads 0)

/-- The granule check of an operation at offset `o` of stack `m` (R206). All chunks of a copy go by the copy's one check
(R207). -/
def State.granulesPass (s : State) (op : HomeOp) (m o : Nat) : Bool :=
  let l := s.copyPassed op
  if op.isChunk && !l.isEmpty then (granulesOf o op.size).all (fun g => l.contains (op.req.seq, copyGranule op.reads g))
  else s.granulesOk m o op.size op.req.outing.toNat op.reads

/-- The home's refusal: TARGET_CLASS, RANGE, OUTING, in table order (R208). -/
def State.homeRefusal (s : State) (op : HomeOp) : Option Nat :=
  let site := podSite op.req.address
  let w := s.windowOf site (podOffset op.req.address)
  let outing := op.req.outing.toNat
  if !s.sitePresent site ∨ !accepts w op.opc then some 3
  else match w with
    | .none => some 5
    | .store j o =>
      if storeSize < o + op.size then some 5
      else if op.isSpill then none
      else if s.coreOuting (s.logicalCore site j) outing then none else some 6
    | .cairn j _ => if op.completion ∨ s.coreOuting (s.logicalCore site j) outing then none else some 6
    | .stack m o =>
      if s.capacity m < o + op.size then some 5
      else if s.granulesPass op m o then none else some 6
    | _ => none

/-! ### Beats (R103) -/

/-- Banks of the beats that `n` bytes at `o` take, one entry per beat. -/
def beatBanks (o n : Nat) : List Nat := (List.range ((o + n - 1) / 256 - o / 256 + 1)).map (fun i => (o / 256 + i) % 16)

/-- Banks that program footprints claim now: none while the core is frozen (R98). -/
def Core.claimedNow (c : Core) : BitVec 16 :=
  if c.st = .frozenWait ∨ c.st = .frozenBank then 0 else c.claimed c.cyc

/-- Can a beat take its bank now: no footprint claims it and no earlier beat waits for it? -/
def Core.bankFree (c : Core) (b : Nat) : Bool := !c.claimedNow.getLsbD b && !c.beats.any (fun x => x.bank == b)

/-- Perform an operation on core `k`'s store: at once when every beat finds its bank, otherwise when its last waiting beat
is served. -/
def State.throughBeats (s : State) (k o : Nat) (op : HomeOp) : State :=
  let wait := (beatBanks o op.size).filter (fun b => !(s.core k).bankFree b)
  if wait.isEmpty then s.perform op
  else
    let j := s.nextJob
    let s := { s with nextJob := j + 1, jobs := SMap.set s.jobs j (some (.home op)) none }
    s.modCore k (fun c => { c with beats := c.beats ++ wait.map (fun b => Beat.mk b 0 j) })

/-- A steward access to the core store is performed (R496): a read keeps the stored bits, a write merges (R105, R106). -/
def State.storeNow (s : State) (k off n : Nat) (write : Option Word) : State :=
  match write with
  | some v => s.writeBytes k off (toLE n v.toNat)
  | none => { s.readStore k off n with hartRead := BitVec.ofNat 64 (Mem.readLE (s.core k).store off n) }

/-- A steward access to the core store is one copy-class beat (R103, R496). -/
def State.storeAccess (s : State) (k off n : Nat) (write : Option Word) : State :=
  let bank := off / 256 % 16
  if off % n ≠ 0 then s
  else if (s.core k).bankFree bank then s.storeNow k off n write
  else
    let j := s.nextJob
    let s := { s with nextJob := j + 1, jobs := SMap.set s.jobs j (some (.steward k off n write)) none }
    s.modCore k (fun c => { c with beats := c.beats ++ [Beat.mk bank 0 j] })

/-- The oldest beat of a bank is served; the operation whose last beat it was is performed. -/
def State.serveBeat (s : State) (k b : Nat) : State :=
  match (s.core k).beats.find? (fun x => x.bank == b) with
  | none => s
  | some x =>
    let s := s.modCore k (fun c => { c with beats := c.beats.erase x })
    if (s.core k).beats.any (fun y => y.job == x.job) then s
    else match SMap.get s.jobs x.job none with
      | some (.home op) => { s with jobs := SMap.set s.jobs x.job none none }.perform op
      | some (.steward c o n w) => { s with jobs := SMap.set s.jobs x.job none none }.storeNow c o n w
      | none => s

/-! ### Arrival -/

/-- A compute die's core that an address names. -/
def State.targetCore (s : State) (a : Word) : Option Nat :=
  match s.windowOf (podSite a) (podOffset a) with
  | .store j _ => some j
  | .cairn j _ => some j
  | _ => none

/-- The address lies in a core-store window. -/
def State.targetStore (s : State) (a : Word) : Bool :=
  match s.windowOf (podSite a) (podOffset a) with
  | .store _ _ => true
  | _ => false

/-- Keep an operation for a position (or, 36, the module) that it wakes (R449, R450), or until shed hold (37) or a region stop (38)
ends. -/
def State.wakeHold (s : State) (key : Nat) (op : HomeOp) : State :=
  { s with wakeHeld := SMap.set s.wakeHeld key (SMap.get s.wakeHeld key [] ++ [op]) [] }

/-- An operation at a live target is checked and performed, or takes its beats. The check of a copy of another module, in step
1 of R231, is made when its first chunk comes, for all its chunks (R207; DESIGN CHOICE, log entry 38). -/
def State.serve (s : State) (op : HomeOp) : State :=
  match s.homeRefusal op with
  | some code => s.respond op .refused code []
  | none =>
    let s := if podSite op.req.address < 4 ∧ s.targetStore op.req.address then s else s.joinLine op.req.address
    match s.windowOf (podSite op.req.address) (podOffset op.req.address) with
    | .store j o => s.throughBeats (s.logicalCore (podSite op.req.address) j) o op
    | .stack m _ =>
      if op.isChunk ∧ (s.copyPassed op).isEmpty then
        (s.admitCopy (podSite op.req.address) op.req.stream.toNat op.req.seq op.reads
          (s.openGranules m op.req.outing.toNat op.reads)).perform op
      else s.perform op
    | _ => s.perform op

/-- The region that serves an operation is stopped: a die's uncore, or its target's position (R375). -/
def State.siteStopped (s : State) (op : HomeOp) : Bool :=
  let site := podSite op.req.address
  decide (site < 4) && (s.flag REGION_STATUS_STOPPED (site * 32 + 9)
    || (s.targetCore op.req.address).any (fun j => s.flag REGION_STATUS_STOPPED (site * 32 + corePos (s.logicalCore site j))))

/-- An operation at its home (R121, R425, R449, R450); while the module sheds, or the serving region is stopped, it waits (R375,
R441). The code of a dead answer names the operation it met (log entry
25). -/
def State.homeArrive (s : State) (op : HomeOp) : State :=
  let site := podSite op.req.address
  if s.power.shed then s.wakeHold 37 op
  else if s.get MODULE_PWR_RUNG 0 = 5 then s.wakeHold 36 op
  else if s.siteStopped op then s.wakeHold 38 op
  else match s.targetCore op.req.address with
    | none => s.serve op
    | some j =>
      match s.gate site j with
      | .hold => s.hold site op
      | .dead => s.respond op .dead (if op.opc = .copyWrite then 8 else 7) (if op.opc = .copyWrite then op.req.data else [])
      | .pass =>
        if 3 ≤ s.get CORE_PWR_RUNG (s.logicalCore site j) then s.wakeHold (s.logicalCore site j) op else s.serve op

/-- The logical cores of a delivery's targets on its device (R248): AUX holds them (DESIGN CHOICE, log entry 45). -/
def HomeOp.units (op : HomeOp) : List Nat := (List.range 32).filter (fun u => op.req.aux.getLsbD u)

/-- What an operation comes to at its homes: a delivery's chunk goes to every target, with a place and a number of the stream for
each (R247, R248); any other operation has one home. -/
def HomeOp.parts (op : HomeOp) : List HomeOp :=
  let l := op.units
  if op.opc = .msg ∧ op.completion ∧ !l.isEmpty then
    (List.range l.length).map (fun i =>
      let u := l.getD i 0
      { op with req := { op.req with
        aux := 0, seq := op.req.seq + BitVec.ofNat 32 i
        address := podAddr (podDevice op.req.address) (u / 8) (u % 8 * storeSize + podOffset op.req.address % storeSize) } })
  else [op]

/-- The sites that a message names in the module of its homes (R248). -/
def HomeOp.sites (op : HomeOp) : List Nat := (op.parts.map (fun o => podSite o.req.address)).dedup

/-- A request message arrives (R316). One for another module, or for the Spur (which its firewall judges), is not for a home
here. -/
def State.receive (s : State) (opc : Opc) (completion : Bool) (r : Req) : State :=
  let op : HomeOp := ⟨opc, completion, r⟩
  if podDevice r.address ≠ s.device ∨ podSite r.address = 13 ∧ s.sitePresent 13 then s
  else op.parts.foldl (fun (t : State) o => t.homeArrive o) (s.arrived (.request op))

end Sys2Proof.Machine
end

