-- ==== Sys2Proof/Machine/Matrix.lean ====
section
/-! DEFINITION. The M slot (R92-R96, R140-R143, R154-R158): tile initialise, matrix multiply-accumulate, tile write-out. -/

namespace Sys2Proof.Machine

/-- The result a matrix instruction issued now would forward to tile `td`: that of the M-slot instruction issued exactly
its busy time earlier, still on its way (R94, R95). -/
def forwarded (c : Core) (td : Nat) : Option Tile :=
  match c.engine.last with
  | some (t, at_, d) =>
    if t = td ∧ c.cyc = at_ + d then
      (c.pipe.filterMap (fun it =>
        match it.act with
        | .t r v => if r = td ∧ it.issued = at_ then some v else none
        | _ => none)).getLast?
    else none
  | none => none

/-- All 16 banks. -/
def allBanks : BitVec 16 := 0xFFFF#16

/-- The first plane that is misplaced: not on a 4 KiB boundary, or not wholly in the store (R93, R140). -/
def misplaced (l : List (Nat × Nat)) : Option Nat :=
  (l.find? (fun p => !inStore p.1 p.2 4096)).map (·.1)

/-- The operand a register pair places (R140). -/
def operandOf (c : Core) (r : BitVec 6) (f : NumFmt) (sparse : Bool) (depth : Nat) : Operand :=
  let second := (c.readS (r.toNat + 1)).toNat
  ⟨f, (c.readS r.toNat).toNat, second % 2 ^ 32, second / 2 ^ 32, sparse, depth⟩

/-- The registers of a pair that are read. -/
def pairReads (r : BitVec 6) (second : Bool) : List (Nat × Nat) :=
  (0, r.toNat) :: (if second then [(0, r.toNat + 1)] else [])

def effTinit (td : BitVec 5) (tag : Bool) : SlotEff :=
  { dests := [(3, td.toNat)], items := [(1, .t td.toNat ⟨tag, []⟩)], engine := some (1, td.toNat) }

/-- MMA (R76, R92-R94, R140, R142, R155). The destination tile is read at issue, forwarded or as visible (R87, R94). -/
def effMma (td : BitVec 5) (ra rb : BitVec 6) (fa fb : BitVec 5) (spa : Bool) (s : State) (k : Nat) : SlotEff :=
  let c := s.core k
  match s.format fa, s.format fb with
  | some f, some g =>
    let sparseOk := f.opClass = some .fp4 ∨ f.opClass = some .fp8
    if ra.toNat % 2 = 1 ∨ rb.toNat % 2 = 1 ∨ (spa ∧ (¬ sparseOk ∨ s.featureOff 1)) then .bad
    else
      let fwd := forwarded c td.toNat
      let tile := fwd.getD (c.readT td.toNat)
      let a := operandOf c ra f spa 256
      let b := operandOf c rb g false (if spa then 512 else 256)
      let reads := pairReads ra (f.isBlock || spa) ++ pairReads rb g.isBlock
      match f.opClass with
      | some cls =>
        if g.opClass = some cls ∧ (tile.isInt = (cls == .int)) then
          let fetch := a.fetch + b.fetch
          { reads := reads, fault := (misplaced (a.planes ++ b.planes)).bind rangeFault, dests := [(3, td.toNat)],
            tile := some (td.toNat, if fwd.isSome then (forwardKey td.toNat, 1) else (tileKey td.toNat 0 0, 512)),
            items := [(1, .fetch td.toNat tile cls a b (cls.busy + 7 - fetch) (a.pieces false ++ b.pieces true) .none .none)],
            banks := [(1, fetch, allBanks)], engine := some (cls.busy, td.toNat) }
        else { reads := reads, fault := some (5, td.toNat + fa.toNat * 256 + fb.toNat * 65536), engine := some (0, 32) }
      | none => { reads := reads, fault := some (5, td.toNat + fa.toNat * 256 + fb.toNat * 65536), engine := some (0, 32) }
  | _, _ => .bad

/-- TWR (R96, R143, R158): the tile as visible at issue, converted and written plane by plane. -/
def effTwr (ts : BitVec 5) (ra : BitVec 6) (fd : BitVec 5) (rnd ovf : Bool) (s : State) (k : Nat) : SlotEff :=
  let c := s.core k
  match s.format fd with
  | some f =>
    if ra.toNat % 2 = 1 then .bad
    else
      let o := operandOf c ra f false 256
      let w := f.twrCycles
      let p := twrPlanes (c.readT ts.toNat) f rnd ovf (s.genM k)
      { reads := pairReads ra f.isBlock, tile := some (ts.toNat, tileKey ts.toNat 0 0, 512), fault := (misplaced o.planes).bind rangeFault,
        items := [(3 + w, .write o.elems (p.elems.map (fun b => (b, true))))]
          ++ (if f.isBlock then [(3 + w, .write o.scales (p.scales.map (fun b => (b, true))))] else [])
          ++ [(3 + w, .flags p.flags)],
        banks := [(4, 3 + w, allBanks)], engine := some (w, 32), genM := some p.gen }
  | none => .bad

/-- The M slot decoded (R125, R140, R141). -/
def effM (w : Word) (s : State) (k : Nat) : SlotEff :=
  let td : BitVec 5 := BitVec.ofNat 5 (fld 55 51 w)
  let ra : BitVec 6 := BitVec.ofNat 6 (fld 50 45 w)
  if w = 0 then .nop
  else match fld 63 56 w with
    | 0x08 => .guard (fld 49 0 w == 0) (effTinit td (fld 50 50 w == 1))
    | 0x10 => .guard (fld 27 0 w == 0)
        (effMma td ra (BitVec.ofNat 6 (fld 44 39 w)) (BitVec.ofNat 5 (fld 38 34 w)) (BitVec.ofNat 5 (fld 33 29 w))
          (fld 28 28 w == 1) s k)
    | 0x18 => .guard (fld 37 0 w == 0)
        (effTwr td ra (BitVec.ofNat 5 (fld 44 40 w)) (fld 39 39 w == 1) (fld 38 38 w == 1) s k)
    | _ => .bad

end Sys2Proof.Machine
end

