-- ==== Sys2Proof/Machine/Scalar.lean ====
section
/-! DEFINITION. The S slot (R130-R135): the effect of each scalar instruction, read at issue. -/

namespace Sys2Proof.Machine

/-- A scalar result of latency `lat` in s[rd], from the registers in `reads`. -/
def sResult (lat rd : Nat) (reads : List Nat) (v : Word) : SlotEff :=
  { reads := reads.map (fun r => (0, r)), dests := [(0, rd)], items := [(lat - 1, .s rd v)] }

/-- A two-register operation of latency `lat` (R131). -/
def sBinary (f : Word → Word → Word) (lat : Nat) (rd ra rb : BitVec 6) (s : State) (k : Nat) : SlotEff :=
  let c := s.core k
  sResult lat rd.toNat [ra.toNat, rb.toNat] (f (c.readS ra.toNat) (c.readS rb.toNat))

/-- The same with IMM sign-extended in the place of s[RB] (R131). -/
def sImm (f : Word → Word → Word) (rd ra : BitVec 6) (imm : BitVec 32) (s : State) (k : Nat) : SlotEff :=
  sResult 1 rd.toNat [ra.toNat] (f ((s.core k).readS ra.toNat) (sext 32 imm.toNat))

/-- A truth value as a word. -/
def bit (b : Bool) : Word := if b then 1 else 0

def aluSll (a b : Word) : Word := a <<< (b.toNat % 64)
def aluSrl (a b : Word) : Word := a >>> (b.toNat % 64)
def aluSra (a b : Word) : Word := a.sshiftRight (b.toNat % 64)
def aluSlt (a b : Word) : Word := bit (a.slt b)
def aluSltu (a b : Word) : Word := bit (a.ult b)
def aluSeq (a b : Word) : Word := bit (a == b)
def aluMin (a b : Word) : Word := if a.slt b then a else b
def aluMax (a b : Word) : Word := if a.slt b then b else a
def aluMinu (a b : Word) : Word := if a.ult b then a else b
def aluMaxu (a b : Word) : Word := if a.ult b then b else a
def aluMulh (a b : Word) : Word := BitVec.ofInt 64 (a.toInt * b.toInt / 2 ^ 64)
def aluMulhu (a b : Word) : Word := BitVec.ofNat 64 (a.toNat * b.toNat / 2 ^ 64)

/-- SETHI keeps the low half of s[RA] (R131). -/
def effSethi (rd ra : BitVec 6) (imm : BitVec 32) (s : State) (k : Nat) : SlotEff :=
  sResult 1 rd.toNat [ra.toNat]
    (BitVec.ofNat 64 (imm.toNat * 2 ^ 32 + ((s.core k).readS ra.toNat).toNat % 2 ^ 32))

/-- What CRR reads (R134); a number the table does not list has no register. -/
def crRead (s : State) (k : Nat) (cr : Nat) : Option Word :=
  match cr with
  | 0 => some (s.coreStatus k)
  | 1 => some (s.word .FP_FLAGS k)
  | 2 => some (s.word .SR_SEED_V k)
  | 3 => some (s.word .SR_SEED_M k)
  | 4 => some (s.word .SR_STATE k)
  | 5 => some (s.word .CYCLE_ISSUE k)
  | 6 => some (s.word .CYCLE_FROZEN k)
  | 7 => some (s.word .STORE_ECC k)
  | 8 => some (s.word .STORE_SCRUB k)
  | 9 => some (s.word .IMEM_ECC k)
  | 10 => some (s.selfReg k)
  | _ => none

def effCrr (rd : BitVec 6) (cr : BitVec 12) (s : State) (k : Nat) : SlotEff :=
  match crRead s k cr.toNat with
  | some v => sResult 2 rd.toNat [] v
  | none => .bad

/-- CRW writes FP_FLAGS, SR_SEED_V and SR_SEED_M; any other CR is an illegal encoding (R134). -/
def effCrw (ra : BitVec 6) (cr : BitVec 12) (s : State) (k : Nat) : SlotEff :=
  if cr.toNat = 1 ∨ cr.toNat = 2 ∨ cr.toNat = 3 then
    { reads := [(0, ra.toNat)], crw := some (cr.toNat, (s.core k).readS ra.toNat) }
  else .bad

/-- The local offset of LD and ST: the sum modulo 2^64 (R132). -/
def localAddr (ra : BitVec 6) (imm : BitVec 32) (s : State) (k : Nat) : Nat :=
  ((s.core k).readS ra.toNat + sext 32 imm.toNat).toNat

def effLd (rd ra : BitVec 6) (imm : BitVec 32) (s : State) (k : Nat) : SlotEff :=
  let a := localAddr ra imm s k
  { reads := [(0, ra.toNat)], fault := if inStore a 8 8 then none else rangeFault a, dests := [(0, rd.toNat)],
    items := [(2, .readS rd.toNat a)], banks := [(2, 2, bankOf a)] }

def effSt (rd ra : BitVec 6) (imm : BitVec 32) (s : State) (k : Nat) : SlotEff :=
  let a := localAddr ra imm s k
  { reads := [(0, ra.toNat), (0, rd.toNat)], fault := if inStore a 8 8 then none else rangeFault a,
    items := [(3, .write a ((toLE 8 ((s.core k).readS rd.toNat).toNat).map (fun b => (b, true))))],
    banks := [(3, 3, bankOf a)] }

/-- A conditional branch: redirect when the comparison holds (R89, R131). -/
def effBranch (cond : Word → Word → Bool) (ra rb : BitVec 6) (tgt : BitVec 15) (s : State) (k : Nat) : SlotEff :=
  let c := s.core k
  { reads := [(0, ra.toNat), (0, rb.toNat)], branch := true,
    target := if cond (c.readS ra.toNat) (c.readS rb.toNat) then some tgt.toNat else none }

def effJ (tgt : BitVec 15) : SlotEff := { branch := true, target := some tgt.toNat }

/-- JAL and JALR write PC + 3, the first bundle after the delay bundles (R133). -/
def effJal (rd : BitVec 6) (tgt : BitVec 15) (s : State) (k : Nat) : SlotEff :=
  { sResult 1 rd.toNat [] (BitVec.ofNat 64 ((s.core k).pc + 3)) with branch := true, target := some tgt.toNat }

def effJr (ra : BitVec 6) (s : State) (k : Nat) : SlotEff :=
  { reads := [(0, ra.toNat)], branch := true, target := some (((s.core k).readS ra.toNat).toNat % 2 ^ 15) }

def effJalr (rd ra : BitVec 6) (s : State) (k : Nat) : SlotEff :=
  { sResult 1 rd.toNat [ra.toNat] (BitVec.ofNat 64 ((s.core k).pc + 3)) with
    branch := true, target := some (((s.core k).readS ra.toNat).toNat % 2 ^ 15) }

/-- HALT ends issue (R148). -/
def effHalt : SlotEff := { halt := true }

/-- The two-register and immediate operations by their place from 0x08 (R131). -/
def aluOf (i : Nat) : Option (Word → Word → Word) :=
  match i with
  | 0x08 => some (· + ·) | 0x09 => some (· - ·) | 0x0A => some (· &&& ·) | 0x0B => some (· ||| ·)
  | 0x0C => some (· ^^^ ·) | 0x0D => some aluSll | 0x0E => some aluSrl | 0x0F => some aluSra
  | 0x10 => some aluSlt | 0x11 => some aluSltu | 0x12 => some aluSeq | 0x13 => some aluMin
  | 0x14 => some aluMax | 0x15 => some aluMinu | 0x16 => some aluMaxu
  | _ => none

/-- A branch condition by opcode. -/
def condOf (op : Nat) : Option (Word → Word → Bool) :=
  match op with
  | 0x40 => some (· == ·) | 0x41 => some (· != ·) | 0x42 => some BitVec.slt | 0x43 => some (fun a b => !a.slt b)
  | 0x44 => some BitVec.ult | 0x45 => some (fun a b => !a.ult b)
  | _ => none

/-- The S slot decoded (R125, R130, R131). -/
def effS (w : Word) (s : State) (k : Nat) : SlotEff :=
  let op := fld 63 56 w
  let rd : BitVec 6 := BitVec.ofNat 6 (fld 55 50 w)
  let ra : BitVec 6 := BitVec.ofNat 6 (fld 49 44 w)
  let rb : BitVec 6 := BitVec.ofNat 6 (fld 43 38 w)
  let imm : BitVec 32 := BitVec.ofNat 32 (fld 31 0 w)
  let tgt : BitVec 15 := BitVec.ofNat 15 (fld 14 0 w)
  let cr : BitVec 12 := BitVec.ofNat 12 (fld 11 0 w)
  let sr := fld 37 0 w == 0
  let si := fld 43 32 w == 0
  let sc := fld 43 12 w == 0
  let sb := fld 37 15 w == 0
  if w = 0 then .nop
  else if op = 0x01 then .guard (fld 55 0 w == 0) effHalt
  else if op < 0x18 then
    match aluOf op with
    | some f => .guard sr (sBinary f 1 rd ra rb s k)
    | none => .bad
  else if op < 0x27 then
    match aluOf (op - 0x10) with
    | some f => .guard si (sImm f rd ra imm s k)
    | none => .bad
  else if op < 0x40 then
    match op with
    | 0x27 => .guard si (effSethi rd ra imm s k)
    | 0x28 => .guard sr (sBinary (· * ·) 3 rd ra rb s k)
    | 0x29 => .guard sr (sBinary aluMulh 3 rd ra rb s k)
    | 0x2A => .guard sr (sBinary aluMulhu 3 rd ra rb s k)
    | 0x30 => .guard (sc && fld 49 44 w == 0) (effCrr rd cr s k)
    | 0x31 => .guard (sc && fld 55 50 w == 0) (effCrw ra cr s k)
    | 0x38 => .guard si (effLd rd ra imm s k)
    | 0x39 => .guard si (effSt rd ra imm s k)
    | _ => .bad
  else
    match condOf op with
    | some f => .guard (sb && fld 43 38 w == 0) (effBranch f rd ra tgt s k)
    | none =>
      match op with
      | 0x46 => .guard (sb && fld 55 38 w == 0) (effJ tgt)
      | 0x47 => .guard (sb && fld 55 44 w == 0) (effJal rb tgt s k)
      | 0x48 => .guard (sb && fld 49 38 w == 0 && fld 14 0 w == 0) (effJr rd s k)
      | 0x49 => .guard (sb && fld 49 44 w == 0 && fld 14 0 w == 0) (effJalr rb rd s k)
      | _ => .bad

end Sys2Proof.Machine
end

