-- ==== Sys2Proof/Machine/Flags.lean ====
section
/-! DEFINITION. Lane-wise computation with its FP_FLAGS bits and stochastic draws: a masked-off lane is not computed, takes
no draw and sets no flag (R65, R84); saturating integer lanes (R60); the cross-lane tree (R139). -/

namespace Sys2Proof.Machine

/-- Lanes computed, the flags they set, the generator after them. -/
structure VOut where
  lanes : List Nat
  flags : FpFlags
  gen : BitVec 32
  deriving DecidableEq, Repr

/-- Compute the listed lanes in order; a masked-off lane gives 0 and is never written. -/
def vGo (mask : BitVec 128) (f : Nat → BitVec 32 → Conv) : List Nat → BitVec 32 → VOut
  | [], g => ⟨[], 0, g⟩
  | i :: t, g =>
    if mask.getLsbD i then
      let c := f i g
      let r := vGo mask f t c.gen
      ⟨c.bits :: r.lanes, c.flags ||| r.flags, r.gen⟩
    else
      let r := vGo mask f t g
      ⟨0 :: r.lanes, r.flags, r.gen⟩

/-- All 128 lanes under a mask. -/
def vRun (mask : BitVec 128) (g : BitVec 32) (f : Nat → BitVec 32 → Conv) : VOut := vGo mask f (List.range 128) g

/-- A lane function without flags or draws. -/
def plain (f : Nat → Nat) (i : Nat) (g : BitVec 32) : Conv := ⟨f i, 0, g⟩

/-- Saturate an integer to `w` bits (R60). -/
def satTo (w : Nat) (v : Int) : Nat × FpFlags :=
  let lim : Int := (2 ^ (w - 1) : Nat)
  if v < -lim then (2 ^ (w - 1), fIntSat)
  else if lim - 1 < v then (2 ^ (w - 1) - 1, fIntSat)
  else ((v % (2 ^ w : Nat)).toNat, 0)

/-- An operation on `w`-bit elements applied to every element of two 32-bit lanes. -/
def elemwise (w : Nat) (f : Nat → Nat → Nat × FpFlags) (a b : Nat) : Nat × FpFlags :=
  let rs := (List.range (32 / w)).map (fun j => f (elemAt w a j) (elemAt w b j))
  (packElems w (rs.map (·.1)), (rs.map (·.2)).foldl (· ||| ·) 0)

/-- Integer element operations of the V slot at width `w` (R137). -/
def vAddE (w a b : Nat) : Nat × FpFlags := satTo w (signedOf w a + signedOf w b)
def vSubE (w a b : Nat) : Nat × FpFlags := satTo w (signedOf w a - signedOf w b)
def vAndE (_w a b : Nat) : Nat × FpFlags := (a &&& b, 0)
def vOrE (_w a b : Nat) : Nat × FpFlags := (a ||| b, 0)
def vXorE (_w a b : Nat) : Nat × FpFlags := (a ^^^ b, 0)
def vSllE (w a b : Nat) : Nat × FpFlags := (a * 2 ^ (b % w) % 2 ^ w, 0)
def vSrlE (w a b : Nat) : Nat × FpFlags := (a / 2 ^ (b % w), 0)
def vSraE (w a b : Nat) : Nat × FpFlags := (((signedOf w a / 2 ^ (b % w)) % (2 ^ w : Nat)).toNat, 0)
def vMinE (w a b : Nat) : Nat × FpFlags := (if signedOf w a ≤ signedOf w b then a else b, 0)
def vMaxE (w a b : Nat) : Nat × FpFlags := (if signedOf w a ≤ signedOf w b then b else a, 0)

/-- One step of the cross-lane tree: lane i becomes f (lane i) (lane i + k), in ascending lane order (R139). -/
def treeStep (f : Nat → Nat → BitVec 32 → Conv) (l : List Nat) (k : Nat) : List Nat → BitVec 32 → VOut
  | [], g => ⟨[], 0, g⟩
  | i :: t, g =>
    let c := f (l.getD i 0) (l.getD (i + k) 0) g
    let r := treeStep f l k t c.gen
    ⟨c.bits :: r.lanes, c.flags ||| r.flags, r.gen⟩

/-- The tree k = 64, 32, ..., 1. -/
def tree (f : Nat → Nat → BitVec 32 → Conv) (l : List Nat) (g : BitVec 32) : VOut :=
  [64, 32, 16, 8, 4, 2, 1].foldl (fun acc k =>
    let r := treeStep f acc.lanes k (List.range k) acc.gen
    ⟨r.lanes, acc.flags ||| r.flags, r.gen⟩) ⟨l, 0, g⟩

end Sys2Proof.Machine
end

