-- ==== Sys2Proof/Machine/Vector.lean ====
section
/-! DEFINITION. The V slot (R136-R139, R159): the effect of each vector instruction, read at issue. -/

namespace Sys2Proof.Machine

/-- A vector result of latency `lat`: the computed lanes under the mask, their flags, and the V generator after. -/
def vResult (lat vd : Nat) (reads : List (Nat × Nat)) (mask : BitVec 128) (o : VOut) : SlotEff :=
  { reads := reads, dests := [(1, vd)], items := [(lat - 1, .v vd (ofLanes o.lanes) mask), (lat - 1, .flags o.flags)],
    genV := some o.gen }

/-- A lane operation on VA and VB under PR. -/
def vLanes (lat : Nat) (vd va vb : BitVec 6) (pr : BitVec 4) (f : Nat → Nat → BitVec 32 → Conv) (s : State) (k : Nat) :
    SlotEff :=
  let c := s.core k
  let a := c.readV va.toNat
  let b := c.readV vb.toNat
  let m := c.readP pr.toNat
  vResult lat vd.toNat [(1, va.toNat), (1, vb.toNat), (2, pr.toNat)] m
    (vRun m (s.genV k) (fun i g => f (lane a i) (lane b i) g))

/-- An integer operation: ET 0 INT32 lanes, 1 INT8 lanes, 2 and 3 reserved (R136). -/
def vInt (e : Nat → Nat → Nat → Nat × FpFlags) (vd va vb : BitVec 6) (pr : BitVec 4) (et : BitVec 2) (s : State)
    (k : Nat) : SlotEff :=
  if 1 < et.toNat then .bad
  else
    let w := if et = 0 then 32 else 8
    vLanes 2 vd va vb pr (fun a b g => let r := elemwise w (e w) a b; ⟨r.1, r.2, g⟩) s k

/-- An FP32 operation with one rounding; RND chooses RNE or SR (R128, R137). -/
def vFp (f : Bool → BitVec 32 → Nat → Nat → Conv) (vd va vb : BitVec 6) (pr : BitVec 4) (rnd : Bool) (s : State)
    (k : Nat) : SlotEff :=
  vLanes 4 vd va vb pr (fun a b g => let r := f rnd g a b; ⟨r.bits, r.flags, r.gen⟩) s k

def effVfma (vd va vb vc : BitVec 6) (pr : BitVec 4) (rnd : Bool) (s : State) (k : Nat) : SlotEff :=
  let c := s.core k
  let x := c.readV vc.toNat
  let a := c.readV va.toNat
  let b := c.readV vb.toNat
  let m := c.readP pr.toNat
  vResult 4 vd.toNat [(1, va.toNat), (1, vb.toNat), (1, vc.toNat), (2, pr.toNat)] m
    (vRun m (s.genV k) (fun i g => fma32 rnd g (lane a i) (lane b i) (lane x i)))

/-- VFMIN and VFMAX (R139). -/
def vMinMax (wantMax : Bool) (vd va vb : BitVec 6) (pr : BitVec 4) (s : State) (k : Nat) : SlotEff :=
  vLanes 4 vd va vb pr (fun a b g => let r := minmax32 wantMax a b; ⟨r.1, r.2, g⟩) s k

/-- VSEL: a bit of predicate VC chooses VA or VB (R137). -/
def effVsel (vd va vb : BitVec 6) (vc pr : BitVec 4) (s : State) (k : Nat) : SlotEff :=
  let c := s.core k
  let a := c.readV va.toNat
  let b := c.readV vb.toNat
  let q := c.readP vc.toNat
  let m := c.readP pr.toNat
  vResult 2 vd.toNat [(1, va.toNat), (1, vb.toNat), (2, vc.toNat), (2, pr.toNat)] m
    (vRun m (s.genV k) (plain (fun i => if q.getLsbD i then lane a i else lane b i)))

def effVmov (vd va : BitVec 6) (pr : BitVec 4) (s : State) (k : Nat) : SlotEff :=
  let c := s.core k
  let a := c.readV va.toNat
  let m := c.readP pr.toNat
  vResult 2 vd.toNat [(1, va.toNat), (2, pr.toNat)] m (vRun m (s.genV k) (plain (lane a)))

/-- VBCAST: VA names a scalar register (R137). -/
def effVbcast (vd sa : BitVec 6) (pr : BitVec 4) (s : State) (k : Nat) : SlotEff :=
  let c := s.core k
  let x := (c.readS sa.toNat).toNat % 2 ^ 32
  let m := c.readP pr.toNat
  vResult 2 vd.toNat [(0, sa.toNat), (2, pr.toNat)] m (vRun m (s.genV k) (plain (fun _ => x)))

/-- A predicate whose bit i is `f i`. -/
def predOf (f : Nat → Bool) : BitVec 128 :=
  BitVec.ofNat 128 (packElems 1 ((List.range 128).map (fun i => (f i).toNat)))

/-- A compare of VA and VB into PD; every lane is compared (R137). -/
def vCompare (f : Nat → Nat → Bool) (pd : BitVec 4) (va vb : BitVec 6) (s : State) (k : Nat) : SlotEff :=
  let c := s.core k
  let a := c.readV va.toNat
  let b := c.readV vb.toNat
  { reads := [(1, va.toNat), (1, vb.toNat)], dests := [(2, pd.toNat)],
    items := [(1, .p pd.toNat (predOf (fun i => f (lane a i) (lane b i))))] }

def cmpEq (a b : Nat) : Bool := a == b
def cmpLt (a b : Nat) : Bool := decide (signedOf 32 a < signedOf 32 b)
def cmpLe (a b : Nat) : Bool := decide (signedOf 32 a ≤ signedOf 32 b)
def fcmpEq (a b : Nat) : Bool := (dec32 a).cmp (dec32 b) == some .eq
def fcmpLt (a b : Nat) : Bool := (dec32 a).cmp (dec32 b) == some .lt
def fcmpLe (a b : Nat) : Bool := fcmpLt a b || fcmpEq a b

/-- Predicate logic (R137). -/
def pLogic (f : BitVec 128 → BitVec 128 → BitVec 128) (pd pa pb : BitVec 4) (s : State) (k : Nat) : SlotEff :=
  let c := s.core k
  { reads := [(2, pa.toNat), (2, pb.toNat)], dests := [(2, pd.toNat)],
    items := [(1, .p pd.toNat (f (c.readP pa.toNat) (c.readP pb.toNat)))] }

def effPnot (pd pa : BitVec 4) (s : State) (k : Nat) : SlotEff :=
  { reads := [(2, pa.toNat)], dests := [(2, pd.toNat)], items := [(1, .p pd.toNat (~~~ (s.core k).readP pa.toNat))] }

/-- Part size in bytes and number of parts of a narrow format (table "Parts of a register used by VCVT"). -/
def NumFmt.part : NumFmt → Nat × Nat
  | .bf16 => (256, 2) | .fp16 => (256, 2) | .int32 => (512, 1) | .fp32 => (512, 1) | _ => (128, 4)

/-- The lanes a part covers. -/
def partLanes (size p : Nat) : BitVec 128 := predOf (fun i => decide (size / 4 * p ≤ i ∧ i < size / 4 * (p + 1)))

/-- Widening: element i of the part, with its block's scale (R138). -/
def widenElem (f : NumFmt) (a b : Vec) (p i : Nat) : FV :=
  let str := a.toNat / 2 ^ (8 * f.part.1 * p)
  let v := f.elemValue (elemAt f.width str i)
  if f.isBlock then
    (f.scaleOf (elemAt (8 * f.recBytes) (b.toNat / 2 ^ (8 * f.part.1 * p)) (i / 32))).apply i v
  else v

/-- VCVT (R138). -/
def effVcvt (vd va vb vc : BitVec 6) (pr : BitVec 4) (fd fs : BitVec 5) (rnd ovf : Bool) (part : BitVec 2) (s : State)
    (k : Nat) : SlotEff :=
  let c := s.core k
  let a := c.readV va.toNat
  let p := part.toNat
  let m := c.readP pr.toNat
  match s.format fd, s.format fs with
  | some d, some f =>
    if (d = .fp32) = (f = .fp32) then .bad
    else if d = .fp32 then
      if f.part.2 ≤ p ∨ vc ≠ 0 ∨ (f.isBlock = false ∧ vb ≠ 0) then .bad
      else
        let b := c.readV vb.toNat
        vResult 6 vd.toNat ([(1, va.toNat), (2, pr.toNat)] ++ (if f.isBlock then [(1, vb.toNat)] else [])) m
          (vRun m (s.genV k) (fun i g => FloatFmt.fp32.encode rnd ovf g (widenElem f a b p i)))
    else if d = .int32 then
      if p ≠ 0 ∨ vb ≠ 0 ∨ vc ≠ 0 then .bad
      else vResult 6 vd.toNat [(1, va.toNat), (2, pr.toNat)] m
        (vRun m (s.genV k) (fun i g => d.encodeElem rnd ovf g (dec32 (lane a i))))
    else if d.part.2 ≤ p ∨ vb ≠ 0 ∨ pr ≠ 0 ∨ (d.isBlock = false ∧ vc ≠ 0) ∨ (d.isBlock ∧ vc = vd) then .bad
    else
      let o := encodeRuns d rnd ovf (s.genV k)
        ((List.range 4).map (fun j => (List.range 32).map (fun i => dec32 (lane a (32 * j + i)))))
      let place := fun (l : List Byte) => BitVec.ofNat 4096 (leNat l * 2 ^ (8 * d.part.1 * p))
      let ls := partLanes d.part.1 p
      { reads := [(1, va.toNat)], dests := (1, vd.toNat) :: (if d.isBlock then [(1, vc.toNat)] else []),
        items := [(5, .v vd.toNat (place o.elems) ls), (5, .flags o.flags)]
          ++ (if d.isBlock then [(5, .v vc.toNat (place o.scales) ls)] else []),
        genV := some o.gen }
  | _, _ => .bad

/-- The exponent unit (R159): RNE always, no draw. -/
def vExp (f : Nat → Conv) (vd va : BitVec 6) (pr : BitVec 4) (s : State) (k : Nat) : SlotEff :=
  let c := s.core k
  let a := c.readV va.toNat
  let m := c.readP pr.toNat
  vResult 8 vd.toNat [(1, va.toNat), (2, pr.toNat)] m
    (vRun m (s.genV k) (fun i g => let r := f (lane a i); ⟨r.bits, r.flags, g⟩))

/-- Cross-lane reductions: every lane of VA enters, PR governs only the lanes written (R139). -/
def vReduce (f : Nat → Nat → BitVec 32 → Conv) (vd va : BitVec 6) (pr : BitVec 4) (s : State) (k : Nat) : SlotEff :=
  let c := s.core k
  let m := c.readP pr.toNat
  let t := tree f (lanesOf (c.readV va.toNat)) (s.genV k)
  let x := t.lanes.getD 0 0
  vResult 6 vd.toNat [(1, va.toNat), (2, pr.toNat)] m ⟨List.replicate 128 x, t.flags, t.gen⟩

def effVredsum (vd va : BitVec 6) (pr : BitVec 4) (rnd : Bool) (s : State) (k : Nat) : SlotEff :=
  vReduce (fun a b g => add32 rnd g a b) vd va pr s k

def effVredmax (vd va : BitVec 6) (pr : BitVec 4) (s : State) (k : Nat) : SlotEff :=
  vReduce (fun a b g => let r := minmax32 true a b; ⟨r.1, r.2, g⟩) vd va pr s k

def effVperm (vd va vb : BitVec 6) (pr : BitVec 4) (s : State) (k : Nat) : SlotEff :=
  let c := s.core k
  let a := c.readV va.toNat
  let b := c.readV vb.toNat
  let m := c.readP pr.toNat
  vResult 6 vd.toNat [(1, va.toNat), (1, vb.toNat), (2, pr.toNat)] m
    (vRun m (s.genV k) (plain (fun i => lane a (lane b i % 128))))

/-- VTRD: half a row of a tile as raw patterns (R137). -/
def effVtrd (vd ra : BitVec 6) (ts : BitVec 5) (half : Bool) (row : BitVec 8) (s : State) (k : Nat) : SlotEff :=
  let c := s.core k
  let t := c.readT ts.toNat
  let r := ((c.readS ra.toNat).toNat + row.toNat) % 256
  let j0 := if half then 128 else 0
  { reads := [(0, ra.toNat)], tile := some (ts.toNat, tileKey ts.toNat r half.toNat, 1), dests := [(1, vd.toNat)],
    items := [(3, .v vd.toNat (ofLanes ((List.range 128).map (fun j => (t.at r (j0 + j)).toNat))) (BitVec.allOnes 128))] }

/-- The local offset of VLD and VST (R137). -/
def vAddr (ra : BitVec 6) (imm : BitVec 18) (s : State) (k : Nat) : Nat :=
  ((s.core k).readS ra.toNat + sext 18 imm.toNat * 256).toNat

def effVld (vd ra : BitVec 6) (pr : BitVec 4) (imm : BitVec 18) (s : State) (k : Nat) : SlotEff :=
  let a := vAddr ra imm s k
  { reads := [(0, ra.toNat), (2, pr.toNat)], fault := if inStore a 512 256 then none else rangeFault a,
    dests := [(1, vd.toNat)], items := [(2, .readV vd.toNat a ((s.core k).readP pr.toNat))],
    banks := [(2, 2, banks2 a)] }

def effVst (vd ra : BitVec 6) (pr : BitVec 4) (imm : BitVec 18) (s : State) (k : Nat) : SlotEff :=
  let c := s.core k
  let a := vAddr ra imm s k
  let m := c.readP pr.toNat
  let bytes := toLE 512 (c.readV vd.toNat).toNat
  { reads := [(0, ra.toNat), (1, vd.toNat), (2, pr.toNat)],
    fault := if inStore a 512 256 then none else rangeFault a,
    items := [(3, .write a ((List.zip (List.range 512) bytes).map (fun x => (x.2, m.getLsbD (x.1 / 4)))))],
    banks := [(3, 3, banks2 a)] }

/-- Integer lane operations by opcode. -/
def vIntOf (op : Nat) : Option (Nat → Nat → Nat → Nat × FpFlags) :=
  match op with
  | 0x08 => some vAddE | 0x09 => some vSubE | 0x0A => some vAndE | 0x0B => some vOrE | 0x0C => some vXorE
  | 0x0D => some vSllE | 0x0E => some vSrlE | 0x0F => some vSraE | 0x10 => some vMinE | 0x11 => some vMaxE
  | _ => none

/-- Compares by opcode. -/
def vCmpOf (op : Nat) : Option (Nat → Nat → Bool) :=
  match op with
  | 0x28 => some cmpEq | 0x29 => some cmpLt | 0x2A => some cmpLe
  | 0x2B => some fcmpEq | 0x2C => some fcmpLt | 0x2D => some fcmpLe
  | _ => none

/-- The V slot decoded (R125, R136, R137): a VR field its row does not name must be zero. -/
def effV (w : Word) (s : State) (k : Nat) : SlotEff :=
  let op := fld 63 56 w
  let vd : BitVec 6 := BitVec.ofNat 6 (fld 55 50 w)
  let va : BitVec 6 := BitVec.ofNat 6 (fld 49 44 w)
  let vb : BitVec 6 := BitVec.ofNat 6 (fld 43 38 w)
  let vc : BitVec 6 := BitVec.ofNat 6 (fld 37 32 w)
  let pr : BitVec 4 := BitVec.ofNat 4 (fld 31 28 w)
  let fd : BitVec 5 := BitVec.ofNat 5 (fld 27 23 w)
  let fs : BitVec 5 := BitVec.ofNat 5 (fld 22 18 w)
  let rnd := fld 17 17 w == 1
  let ovf := fld 16 16 w == 1
  let part : BitVec 2 := BitVec.ofNat 2 (fld 15 14 w)
  let et : BitVec 2 := BitVec.ofNat 2 (fld 13 12 w)
  let pd : BitVec 4 := BitVec.ofNat 4 (fld 53 50 w)
  let pa : BitVec 4 := BitVec.ofNat 4 (fld 47 44 w)
  let pb : BitVec 4 := BitVec.ofNat 4 (fld 41 38 w)
  let low := fld 11 0 w == 0
  let noEt := et == 0 && low
  let noFmt := fld 27 18 w == 0 && fld 16 14 w == 0
  let noRnd := !rnd
  let three := noFmt && noEt
  if w = 0 then .nop
  else match vIntOf op with
  | some e => .guard (vc == 0 && noFmt && noRnd && low) (vInt e vd va vb pr et s k)
  | none =>
    match vCmpOf op with
    | some f => .guard (fld 55 54 w == 0 && vc == 0 && pr == 0 && three && noRnd) (vCompare f pd va vb s k)
    | none =>
      match op with
      | 0x12 => .guard (fld 37 36 w == 0 && three && noRnd) (effVsel vd va vb (BitVec.ofNat 4 (fld 35 32 w)) pr s k)
      | 0x13 => .guard (vb == 0 && vc == 0 && three && noRnd) (effVmov vd va pr s k)
      | 0x14 => .guard (vb == 0 && vc == 0 && three && noRnd) (effVbcast vd va pr s k)
      | 0x20 => .guard (vc == 0 && three) (vFp add32 vd va vb pr rnd s k)
      | 0x21 => .guard (vc == 0 && three) (vFp sub32 vd va vb pr rnd s k)
      | 0x22 => .guard (vc == 0 && three) (vFp mul32 vd va vb pr rnd s k)
      | 0x23 => .guard three (effVfma vd va vb vc pr rnd s k)
      | 0x24 => .guard (vc == 0 && three && noRnd) (vMinMax false vd va vb pr s k)
      | 0x25 => .guard (vc == 0 && three && noRnd) (vMinMax true vd va vb pr s k)
      | 0x30 => .guard (fld 55 54 w == 0 && fld 49 48 w == 0 && fld 43 42 w == 0 && vc == 0 && pr == 0 && three && noRnd)
          (pLogic (· &&& ·) pd pa pb s k)
      | 0x31 => .guard (fld 55 54 w == 0 && fld 49 48 w == 0 && fld 43 42 w == 0 && vc == 0 && pr == 0 && three && noRnd)
          (pLogic (· ||| ·) pd pa pb s k)
      | 0x32 => .guard (fld 55 54 w == 0 && fld 49 48 w == 0 && fld 43 42 w == 0 && vc == 0 && pr == 0 && three && noRnd)
          (pLogic (· ^^^ ·) pd pa pb s k)
      | 0x33 => .guard (fld 55 54 w == 0 && fld 49 48 w == 0 && vb == 0 && vc == 0 && pr == 0 && three && noRnd)
          (effPnot pd pa s k)
      | 0x38 => .guard noEt (effVcvt vd va vb vc pr fd fs rnd ovf part s k)
      | 0x40 => .guard (vb == 0 && vc == 0 && three && noRnd) (vExp exp2_32 vd va pr s k)
      | 0x41 => .guard (vb == 0 && vc == 0 && three && noRnd) (vExp rcp32 vd va pr s k)
      | 0x42 => .guard (vb == 0 && vc == 0 && three && noRnd) (vExp rsqrt32 vd va pr s k)
      | 0x48 => .guard (vb == 0 && vc == 0 && three) (effVredsum vd va pr rnd s k)
      | 0x49 => .guard (vb == 0 && vc == 0 && three && noRnd) (effVredmax vd va pr s k)
      | 0x4A => .guard (vc == 0 && three && noRnd) (effVperm vd va vb pr s k)
      | 0x50 => .guard (fld 37 8 w == 0)
          (effVtrd vd va (BitVec.ofNat 5 (fld 43 39 w)) (fld 38 38 w == 1) (BitVec.ofNat 8 (fld 7 0 w)) s k)
      | 0x58 => .guard (fld 43 32 w == 0 && fld 27 18 w == 0) (effVld vd va pr (BitVec.ofNat 18 (fld 17 0 w)) s k)
      | 0x59 => .guard (fld 43 32 w == 0 && fld 27 18 w == 0) (effVst vd va pr (BitVec.ofNat 18 (fld 17 0 w)) s k)
      | _ => .bad

end Sys2Proof.Machine
end

