-- ==== Sys2Proof/Machine/Issue.lean ====
section
/-! DEFINITION. Issue (R86-R103, R115-R118, R186-R198): the checks of a bundle, its wait, its issue, the drains, and the
forced bank freeze. -/

namespace Sys2Proof.Machine

/-! ### A bundle and its checks -/

/-- The four slot words of a bundle, in the order S, V, M, X (R122), with the effect of each as read now. -/
structure Bundle where
  words : List Word
  effs : List SlotEff
  deriving DecidableEq, Repr

/-- The effect of slot `i`. -/
def Bundle.eff (b : Bundle) (i : Nat) : SlotEff := b.effs.getD i .nop

/-- A bundle from its words. -/
def State.decodeBundle (s : State) (k : Nat) (w : List Word) : Bundle :=
  ⟨w, [effS (w.getD 0 0) s k, effV (w.getD 1 0) s k, effM (w.getD 2 0) s k, effX (w.getD 3 0) s k]⟩

/-- The rule of the table "Issue rules" that slot `i` breaks (R90). Of two slots that name one destination register the later
is taken to break rule 5 (DESIGN CHOICE, log entry 26). -/
def State.issueRule (s : State) (k : Nat) (b : Bundle) (i : Nat) : Option Nat :=
  let c := s.core k
  let e := b.eff i
  if e.branch ∧ c.redirect.isSome then some 1
  else if e.engine.isSome ∧ c.cyc < c.engine.freeAt then some 2
  else if e.podLoad ∧ 64 ≤ c.loadsOut then some 3
  else if (match e.channel with | some ch => (c.copy ch).status == 1 | none => false) then some 4
  else if e.dests.any (fun d => (b.effs.take i).any (fun x => x.dests.contains d)) then some 5
  else none

/-- A bank cycle that slot `i` shares with an earlier footprint (R102): bank and the earlier claim's issue cycle. Where
several clash at once, the oldest claim and its lowest bank are named (DESIGN CHOICE, log entry 41). -/
def State.bankClash (s : State) (k : Nat) (b : Bundle) (i : Nat) : Option (Nat × Nat) :=
  let c := s.core k
  let now := (s.word .CYCLE_ISSUE k).toNat
  let mine := ((b.effs.take i).map (fun e => e.banks)).flatten.map (fun x => (⟨c.cyc + x.1, c.cyc + x.2.1, x.2.2, now⟩ : Claim))
  (c.claims ++ mine).findSome? (fun y =>
    (b.eff i).banks.findSome? (fun x =>
      let overlap := decide (c.cyc + x.1 ≤ y.last ∧ y.first ≤ c.cyc + x.2.1)
      match overlap, (List.range 16).find? (fun n => (x.2.2 &&& y.banks).getLsbD n) with
      | true, some n => some (n, y.issued)
      | _, _ => none))

/-- The checks that come before a wait: illegal encodings and issue rules (R187). -/
def State.earlyFault (s : State) (k : Nat) (b : Bundle) (i : Nat) : Option FaultRec :=
  let pc := (s.core k).pc
  if (b.eff i).illegal then some ⟨1, i, (b.words.getD i 0).toNat % 2 ^ 32, pc⟩
  else (s.issueRule k b i).map (fun r => ⟨2, i, r, pc⟩)

/-- The one synchronous fault of slot `i`, in the order of R116 (parity after the encoding, issue rules before the bank
check: log entry 26). -/
def State.slotFault (s : State) (k : Nat) (b : Bundle) (i : Nat) : Option FaultRec :=
  let c := s.core k
  let e := b.eff i
  if e.illegal then s.earlyFault k b i
  else match e.reads.find? (fun r => c.parityOf r.1 r.2 != 0 && !(r.2 == 0 && (r.1 == 0 || r.1 == 2))) with
    | some r => some ⟨9, i, parityDetail r.1 r.2, c.pc⟩
    | none =>
      match e.fault with
      | some f => some ⟨f.1, i, f.2, c.pc⟩
      | none =>
        match s.earlyFault k b i with
        | some f => some f
        | none => (s.bankClash k b i).map (fun x => ⟨3, i, x.1 + x.2 % 65536 * 65536, c.pc⟩)

/-- PC in range (rule 6): a fault of no slot. -/
def State.rangeRule (s : State) (k : Nat) (b : Bundle) : List FaultRec :=
  let c := s.core k
  if c.pc = 32767 ∧ !(b.eff 0).halt ∧ (match c.redirect with | some r => r.1 != c.cyc + 1 | none => true) = true then
    [⟨2, 4, 6, c.pc⟩] else []

/-! ### Waits -/

/-- Is the wait of a bundle satisfied (R186)? A bundle without one always is. -/
def State.satisfied (s : State) (k : Nat) (b : Bundle) : Bool :=
  match (b.eff 3).wait with
  | some (n, thr, _) => thr.toNat ≤ ((s.core k).cairn n).count.toNat
  | none => true

/-- The consume of a satisfied wait (R186, R201). -/
def State.consume (s : State) (k : Nat) (b : Bundle) : State :=
  match (b.eff 3).wait with
  | some (n, thr, true) =>
    if thr = 0 then s
    else s.modCore k (fun c => (c.setCairn n { c.cairn n with count := (c.cairn n).count - thr, kind := 3 }).tickSeq)
  | _ => s

/-- A freeze on a wait: FROZEN_WAIT with its first freeze cycle (R98, R186, R195). -/
def State.freeze (s : State) (k : Nat) (b : Bundle) : State :=
  match (b.eff 3).wait with
  | some (n, thr, cons) =>
    let s := if (s.core k).st = .frozenWait then s
      else (s.put WAIT_STATE_REFUSED k 0).modCore k (fun c => { c with st := .frozenWait, waitCount := 0 })
    let s := ((s.put WAIT_STATE_ACTIVE k 1).put WAIT_STATE_CONS k cons.toNat).put WAIT_STATE_CAIRN k n
    let s := s.put WAIT_STATE_THRESHOLD k thr.toNat
    (s.modCore k (fun c => { c with held := some (BitVec.ofNat 256 (packElems 64 (b.words.map BitVec.toNat))) })).freezeCycle k
  | none => s

/-- The held bundle's words. -/
def heldWords (w : BitVec 256) : List Word := (List.range 4).map (fun i => BitVec.ofNat 64 (elemAt 64 w.toNat i))

/-! ### Issue -/

/-- The batch mark of R427. -/
def State.batchMark (s : State) (k : Nat) (b : Bundle) : State :=
  match (b.eff 3).wait with
  | some (n, _, _) =>
    if s.flag REPLAY_CTRL_EN k ∧ s.get REPLAY_CTRL_BATCH_CAIRN k = n then
      let s := s.put REPLAY_CTRL_MARKS k (s.get REPLAY_CTRL_MARKS k + 1)
      let s := (((s.put BATCH_MARK_NEXT k (s.get POD_SEQ_NEXT k)).put BATCH_MARK_FLAGS k (s.word .FP_FLAGS k).toNat).put
        BATCH_MARK_VALID k 1).put BATCH_MARK_PC k (s.core k).pc
      let s := s.setWord .BATCH_MARK_SR k (s.word .SR_STATE k)
      s.modCore k (fun c =>
        let l := (c.cairns.filter (fun x => x.2.count != 0)).map (fun x => (x.1, Cairn.mk x.2.count false 0))
        { c with shadow := l })
    else s
  | none => s

/-- Slot `i` enters its pipelines (R87, R102), the engine (R90) and the generators (R66). -/
def State.startSlot (s : State) (k : Nat) (b : Bundle) (i : Nat) : State :=
  let e := b.eff i
  let n := (s.word .CYCLE_ISSUE k).toNat
  let s := s.modCore k (fun c => { c with
    pipe := c.pipe ++ e.items.map (fun x => Item.mk (c.cyc + x.1) c.cyc c.pc i x.2),
    claims := c.claims ++ e.banks.map (fun x => Claim.mk (c.cyc + x.1) (c.cyc + x.2.1) x.2.2 n),
    engine := match e.engine with
      | some (busy, t) => ⟨c.cyc + busy, if t < 32 then some (t, c.cyc, busy) else none⟩
      | none => c.engine,
    redirect := match e.target with | some t => some (c.cyc + 3, t) | none => c.redirect })
  let s := match e.genV with | some g => s.put SR_STATE_STATE_V k g.toNat | none => s
  match e.genM with | some g => s.put SR_STATE_STATE_M k g.toNat | none => s

/-- A CRW lands at the end of its bundle (R66, R134); a flag set that landed in its issue cycle wins (R20). -/
def State.landCrw (s : State) (k : Nat) (x : Option (Nat × Word)) : State :=
  match x with
  | some (1, v) => s.setWord .FP_FLAGS k ((s.word .FP_FLAGS k &&& ~~~(v &&& 0xFF)) ||| (s.core k).landed.zeroExtend 64)
  | some (2, v) => s.seed SR_SEED_V_SEED SR_STATE_STATE_V k v
  | some (3, v) => s.seed SR_SEED_M_SEED SR_STATE_STATE_M k v
  | _ => s

/-- Beats whose bank a footprint claims this cycle count a refusal; one that reaches 32 forces the next cycle (R103). -/
def State.countRefusals (s : State) (k : Nat) : State :=
  s.modCore k (fun c =>
    let m := c.claimedNow
    { c with
      beats := c.beats.map (fun x => if m.getLsbD x.bank then { x with refused := x.refused + 1 } else x),
      force := c.force || c.beats.any (fun x => m.getLsbD x.bank && decide (32 ≤ x.refused + 1)) })

/-- The pipelines move through one cycle: refusals count and what is due lands (R87, R103). -/
def State.movePipes (s : State) (k : Nat) : State × List FaultRec := (s.countRefusals k).endCycle k

/-- The cycle ends; PC goes on, to a redirect's target even where an operation that lands in this cycle faults (R86, R89,
R115, R148). -/
def State.advance (s : State) (k : Nat) (halt : Bool) : State × List FaultRec :=
  let before := (s.core k).redirect
  let r := (s.setWord .CYCLE_ISSUE k (s.word .CYCLE_ISSUE k + 1)).movePipes k
  (r.1.modCore k (fun c =>
    if halt then { c with drain := .halt, redirect := none }
    else match before with
      | some (due, t) => if due = c.cyc then { c with pc := t, redirect := none } else { c with pc := (c.pc + 1) % 32768 }
      | none => { c with pc := (c.pc + 1) % 32768 }), r.2)

/-- Slots that meet an accumulator parity error at their step (R108, R116). -/
def Core.badTiles (c : Core) (b : Bundle) : List Nat :=
  (List.range 4).filter (fun i => match (b.eff i).tile with | some (_, a, n) => c.parityIn a n | none => false)

/-- What such a slot still does: it holds its banks and its engine, and writes nothing. -/
def SlotEff.dropped (e : SlotEff) : SlotEff := { e with items := [], genM := none }

/-- The bundle issues as a whole. -/
def State.issueNow (s : State) (k : Nat) (b : Bundle) : State :=
  let pc := (s.core k).pc
  let bad := (s.core k).badTiles b
  let faults := bad.map (fun i => FaultRec.mk 9 i (parityDetail 3 (match (b.eff i).tile with | some x => x.1 | none => 0)) pc)
  let b := { b with effs := (List.range 4).map (fun i => if bad.contains i then (b.eff i).dropped else b.eff i) }
  let s := s.modCore k (fun c => { c with st := .running })
  let s := s.batchMark k b
  let s := (List.range 4).foldl (fun s i => s.startSlot k b i) s
  let p := s.portIssue k pc (b.eff 3).x
  let s := p.1.landCrw k (b.eff 0).crw
  let r := s.advance k ((b.eff 0).halt && (faults ++ p.2).isEmpty)
  r.1.takeFaults k (faults ++ p.2 ++ r.2)

/-- A cycle in which a synchronous fault keeps the bundle from issuing: the pipelines move, and its faults rank with those
that land in it (R115, R116). -/
def State.faultCycle (s : State) (k : Nat) (l : List FaultRec) : State :=
  let r := s.movePipes k
  r.1.takeFaults k (l ++ r.2)

/-- Faults of the bundle at issue, slots in order and the range rule last (R116). -/
def State.bundleFaults (s : State) (k : Nat) (b : Bundle) : List FaultRec :=
  (List.range 4).filterMap (s.slotFault k b) ++ s.rangeRule k b

/-- The bundle at PC in one cycle: it faults, freezes on its wait, or issues (R86, R115, R186, R187). -/
def State.issueBundle (s : State) (k : Nat) (b : Bundle) : State :=
  if s.satisfied k b then
    match s.bundleFaults k b with
    | [] =>
      let s := s.consume k b
      (if (s.core k).st = .frozenWait then s.endWait k else s).issueNow k b
    | l => s.faultCycle k l
  else
    match (List.range 4).filterMap (s.earlyFault k b) ++ s.rangeRule k b with
    | [] => s.freeze k b
    | l => s.faultCycle k l

/-- Every bank that `claimed` leaves free serves the beat that has waited longest for it (R103). -/
def State.serveFree (s : State) (k : Nat) (claimed : BitVec 16) : State :=
  (List.range 16).foldl (fun s b => if claimed.getLsbD b then s else s.serveBeat k b) s

/-- The forced freeze cycle of R103: the pipelines hold still and every bank serves one beat. It is counted while the core
shows RUNNING (R99). -/
def State.forcedCycle (s : State) (k : Nat) : State :=
  let s := if (s.core k).st = .running ∨ (s.core k).st = .frozenBank then s.setWord .CYCLE_FROZEN k (s.word .CYCLE_FROZEN k + 1)
    else s
  (s.serveFree k 0).modCore k (fun c => { c with force := false })

/-- A core that issues: RUNNING or in its forced cycle, and draining toward nothing. -/
def Core.issuing (c : Core) : Bool := (c.st == .running || c.st == .frozenBank) && c.drain == .none

/-- The forced cycle of a core that issues shows FROZEN_BANK (R98, R114). -/
def State.freezeBank (s : State) (k : Nat) : State := (s.forcedCycle k).modCore k (fun c => { c with st := .frozenBank })

/-- One cycle of a running core with the bundle that `mk` reads from the state. -/
def State.runBundle (s : State) (k : Nat) (mk : State → Bundle) : State :=
  if s.clocked k && (s.core k).issuing then
    let s := if (s.core k).force then s.forcedCycle k else s
    let s := s.modCore k (fun c => { c with st := .running })
    s.issueBundle k (mk s)
  else s

/-- The other words of the bundle of a slot command, with its own put in place. -/
def bundleWords (slot : Nat) (o : Others) (w : Word) : List Word := [o.a, o.b, o.c].take slot ++ [w] ++ [o.a, o.b, o.c].drop slot

/-- A slot command: the bundle at PC is the one it gives (log entry 4). -/
def State.slotCommand (s : State) (c : CoreRef) (slot : Nat) (o : Others) (w : Word) (e : State → Nat → SlotEff) : State :=
  let k := coreNum c
  s.runBundle k (fun s =>
    let ws := bundleWords slot o w
    let b := s.decodeBundle k ws
    { b with effs := b.effs.take slot ++ [e s k] ++ b.effs.drop (slot + 1) })

/-! ### Fetch -/

/-- An instruction-memory slot through its code (R109). -/
def Core.imemState (c : Core) (i : Nat) : Ecc := SMap.get c.imemEcc i .good

/-- One cycle of a running core from its instruction memory (R109). -/
def State.fetchCycle (s : State) (k : Nat) : State :=
  if !(s.clocked k && (s.core k).issuing) then s
  else
    let c := s.core k
    let ix := (List.range 4).map (fun i => c.pc * 4 + i)
    let bad := (List.range 4).filter (fun i => c.imemState (c.pc * 4 + i) == .bad)
    let ones := ix.filter (fun i => c.imemState i == .one)
    let s := s.modCore k (fun c => { c with
      st := .running, imemEcc := ones.foldl (fun m i => SMap.set m i .good .good) c.imemEcc })
    let s := if ones.isEmpty then s else s.bump IMEM_ECC_CORRECTED k ones.length
    match bad with
    | i :: _ =>
      ((s.bump IMEM_ECC_UNCORRECTED k bad.length).put IMEM_ECC_LAST_BUNDLE k c.pc).faultCycle k [⟨8, i, i, c.pc⟩]
    | [] => s.issueBundle k (s.decodeBundle k (ix.map (fun i => SMap.get c.imem i 0)))

/-! ### Drains -/

/-- A drain's cycles: the pipelines move until nothing is in flight. While the core still shows RUNNING, toward STOPPED or
HALTED, they count as issue cycles (R99). -/
def State.drainCycles (s : State) (k : Nat) : Nat → State
  | 0 => s
  | n + 1 =>
    if (s.core k).quiet then s
    else if (s.core k).force then (s.forcedCycle k).drainCycles k n
    else
      let s := if (s.core k).st = .running then s.setWord .CYCLE_ISSUE k (s.word .CYCLE_ISSUE k + 1) else s
      let r := s.movePipes k
      (r.1.takeFaults k r.2).drainCycles k n

/-- The longest drain (R115), with its forced cycles. -/
def drainFuel : Nat := 600

/-- THRESHOLD shows the threshold as last evaluated (R195). -/
def State.noteThreshold (s : State) (k : Nat) (b : Bundle) : State :=
  match (b.eff 3).wait with
  | some (_, thr, _) => s.put WAIT_STATE_THRESHOLD k thr.toNat
  | none => s

/-- The held wait in one more freeze cycle, or its bundle issues, its sources read in the issue cycle with the core RUNNING
(R114, R186, R187); a gated core does not evaluate, and its wake watcher looks (R193). -/
def State.waitCycle (s : State) (k : Nat) : State :=
  let c := s.core k
  match c.st, c.held with
  | .frozenWait, some w =>
    let b := (s.modCore k (fun c => { c with st := .running })).decodeBundle k (heldWords w)
    if !s.clocked k then s
    else if c.l1 then (s.freezeCycle k).watch k
    else
      let s := s.noteThreshold k b
      if s.satisfied k b then s.issueBundle k b else s.freezeCycle k
  | _, _ => s

end Sys2Proof.Machine
end

