-- ==== Sys2Proof/Machine/Wake.lean ====
section
/-! DEFINITION. Waking: operations held for a position, a module, a shed or stopped region, or a substitution are served in the order
they came (R375, R425, R441, R449, R450). -/

namespace Sys2Proof.Machine

/-- Serve operations in order. -/
def State.serveAll (s : State) (l : List HomeOp) : State := l.foldl (fun s o => s.homeArrive o) s

/-- A position reached L2: what it held is served (R449). -/
def State.releaseWake (s : State) (key : Nat) : State :=
  { s with wakeHeld := SMap.set s.wakeHeld key [] [] }.serveAll (SMap.get s.wakeHeld key [])

/-- A substitution has ended: held accesses are released in arrival order (R425, R430). -/
def State.releaseHeld (s : State) (die : Nat) : State :=
  let l := SMap.get s.held die []
  ({ s with held := SMap.set s.held die [] [] }.put FENCE_STATUS_HELD die 0).serveAll l

/-- Planes 8-31 leave service for L5, or come back (R448). -/
def State.restPlanes (s : State) (rest : Bool) : State :=
  (List.range 24).foldl (fun s i =>
    let p := 8 + i
    let st := s.get PLANE_STATUS_STATE p
    if rest ∧ st = 2 then s.put PLANE_STATUS_STATE p 4
    else if !rest ∧ st = 4 then s.put PLANE_STATUS_STATE p 2 else s) s

/-- A policy request waits for the restore (R458). -/
def State.holdRequest (s : State) (r : PowerReq) : State := { s with power := { s.power with requests := s.power.requests ++ [r] } }

/-- The module leaves L5 for L0 (R450), after the restore where it sheds (R458). -/
def State.wakeModule (s : State) : State :=
  if s.power.shed then s.holdRequest (.wake false)
  else if s.get MODULE_PWR_RUNG 0 = 5 then ((s.put MODULE_PWR_RUNG 0 0).restPlanes false).releaseWake 36 else s

end Sys2Proof.Machine
end

