-- ==== Sys2Proof/Machine/AttnCmds.lean ====
section
/-! DEFINITION. Commands of near-memory attention: a segment at its holder (R169), its partial (R168), the fold in the
requesting landing (R171, R172), and the completion (R173). -/

namespace Sys2Proof.Machine

/-- A segment request at its holder stack: refused by check 9 of R165, or queued; a full queue leaves it waiting (R169). The
segment at work, the queue's head, counts among the 64 (DESIGN CHOICE, log entry 44). -/
def State.attnArrive (s : State) (r : Req) : State :=
  let site := podSite r.address
  if podDevice r.address ≠ s.device ∨ site < 4 ∨ 11 < site then s
  else
    let m := site - 4
    let op : HomeOp := ⟨.attnSegment, false, r⟩
    let g := Segment.read (Mem.setBytes [] 0 r.data) 64
    let q := SMap.get s.attnQueue m []
    if 64 ≤ q.length then s
    else
      let s := s.arrived (.request op)
      if !s.sitePresent site then s.respond op .refused 3 []
      else if s.capacity m < podOffset g.pte + 8 * g.entries then s.respond op .refused 5 []
      else if !s.holderOk { g with site := site } (AttnReq.read (Mem.setBytes [] 0 r.data) 0) r.outing.toNat then s.respond op .refused 6 []
      else { s with attnQueue := SMap.set s.attnQueue m (q ++ [r]) [] }.respond op .done 0 []

/-- The oldest segment of a stack's queue is finished (R168, R169). -/
def State.attnFinishSegment (s : State) (m : Nat) : State :=
  match SMap.get s.attnQueue m [] with
  | [] => s
  | r :: rest =>
    let s := { s with attnQueue := SMap.set s.attnQueue m rest [] }
    let p := s.attnPartial m r
    p.2.send (.partialRecord r.stream.toNat (r.aux.toNat % 16) p.1)

/-- A partial record at its merge context (R171, R172): folded at once, or, with ORDERED and before its turn, spilled. -/
def State.attnFold (s : State) (k n : Nat) (p : PartialMsg) : State :=
  match SMap.get (s.core k).merges n none with
  | none => s
  | some x =>
    let i := p.segment.toNat
    if !x.waiting.contains i ∨ x.spilled.contains i then s
    else if x.mode % 2 = 1 ∧ x.waiting.head? ≠ some i then
      (s.writeBytes k (x.spill + i * slotBytes x.rows x.dim) (PartialMsg.bytes p)).setMerge k n (some { x with spilled := x.spilled ++ [i] })
    else
      let r := s.foldSpilled k x.count (x.fold p)
      r.2.setMerge k n (some r.1)

/-! ### Meanings -/

/-- ATTN_SEGMENT (R169). -/
def execAttnSegment (r : Req) (s : State) : Host.Outcome State Fault Refusal := .next (s.attnArrive r)

/-- SEGMENT_PARTIAL_COMPLETE (R168). -/
def execSegmentPartialComplete (stack : Fin 8) (s : State) : Host.Outcome State Fault Refusal :=
  .next (s.attnFinishSegment stack.val)

/-- PARTIAL_RECORD (R171). -/
def execPartialRecord (c : CoreRef) (ctx : Fin 16) (p : PartialMsg) (s : State) : Host.Outcome State Fault Refusal :=
  .next ((s.arrived (.partialRecord (s.stream (coreNum c)) ctx.val p)).attnFold (coreNum c) ctx.val p)

/-- Every segment is folded, spilled or missing. -/
def MergeCtx.complete (x : MergeCtx) : Bool := decide (x.waiting.length ≤ x.missing + x.spilled.length) && !x.lost

/-- With a segment missing, the spilled partials that waited for it take their turns without it (R174). -/
def State.attnLast (s : State) (k : Nat) (x : MergeCtx) : MergeCtx × State :=
  if x.missing = 0 then (x, s)
  else s.foldSpilled k x.count { x with waiting := x.waiting.filter (x.spilled.contains ·) }

/-- ATTN_COMPLETION (R173): every segment sent is folded or will never come. -/
def execAttnCompletion (c : CoreRef) (ctx : Fin 16) (s : State) : Host.Outcome State Fault Refusal :=
  let k := coreNum c
  .next (match SMap.get (s.core k).merges ctx.val none with
    | some x => if x.complete then let r := s.attnLast k x; r.2.attnFinish k ctx.val r.1 else s
    | none => s)

end Sys2Proof.Machine
end

