-- ==== Sys2Proof/Machine/Crypto.lean ====
section
/-! DEFINITION. SHA-384 and ECDSA on brainpoolP384r1 (R461, R471, R475). The spec names both and prints neither: the
algorithms are those of FIPS 180-4 and FIPS 186-5, the curve's numbers those of RFC 5639 (PRESUMED, log entry 14). -/

namespace Sys2Proof.Machine

/-! ### SHA-384 -/

/-- The primes up to 409: the first eighty. -/
def shaPrimes : List Nat := (List.range 410).filter (fun n => decide (1 < n) && (List.range n).all (fun d => decide (d < 2) || n % d != 0))

/-- The largest number with `r ^ e ≤ n` that agrees with `r` above its low `k` bits. -/
def rootBits (e n : Nat) : Nat → Nat → Nat
  | 0, r => r
  | k + 1, r => rootBits e n k (if (r + 2 ^ k) ^ e ≤ n then r + 2 ^ k else r)

/-- The first 64 bits behind the point of the `e`-th root of a small prime, which is where SHA-384 has its numbers from. -/
def rootFraction (e p : Nat) : BitVec 64 := BitVec.ofNat 64 (rootBits e (p * 2 ^ (64 * e)) 68 0)

/-- The eighty round constants: cube roots. -/
def shaRounds : List (BitVec 64) := shaPrimes.map (rootFraction 3)

/-- The initial hash value: square roots of the ninth to the sixteenth prime. -/
def shaStart : List (BitVec 64) := ((shaPrimes.drop 8).take 8).map (rootFraction 2)

/-- Bytes as one big-endian number. -/
def beNat (l : List Byte) : Nat := l.foldl (fun n b => n * 256 + b.toNat) 0

/-- A padded message's words of 64 bits. -/
def beWords : Nat → List Byte → List (BitVec 64)
  | 0, _ => []
  | n + 1, l => BitVec.ofNat 64 (beNat (l.take 8)) :: beWords n (l.drop 8)

/-- The message, 0x80, zeros, and its length in bits as 16 bytes: a whole number of 128-byte blocks. -/
def shaPad (l : List Byte) : List Byte :=
  l ++ [0x80] ++ List.replicate ((239 - l.length % 128) % 128) 0 ++ toBE 16 (8 * l.length)

/-- A word turned right by three amounts, the three summed without carry. -/
def turns (x : BitVec 64) (i j k : Nat) : BitVec 64 := x.rotateRight i ^^^ x.rotateRight j ^^^ x.rotateRight k

/-- A word turned right by two amounts and shifted by a third, summed without carry. -/
def turnsShift (x : BitVec 64) (i j k : Nat) : BitVec 64 := x.rotateRight i ^^^ x.rotateRight j ^^^ (x >>> k)

/-- Extends the last 16 words of the message schedule, newest first, by `n` words. -/
def shaExtend : Nat → List (BitVec 64) → List (BitVec 64)
  | 0, w => w
  | n + 1, w => shaExtend n ((w.getD 15 0 + turnsShift (w.getD 14 0) 1 8 7 + w.getD 6 0 + turnsShift (w.getD 1 0) 19 61 6) :: w)

/-- One round on the eight working words, `kw` the round constant and schedule word summed: the words move one place on, the first
place takes both mixes, the fifth only that of the second four. -/
def shaRound (h : List (BitVec 64)) (kw : BitVec 64) : List (BitVec 64) :=
  let v (i : Nat) : BitVec 64 := h.getD i 0
  let chosen := (v 5 &&& v 4) ||| (v 6 &&& ~~~v 4)
  let majority := (v 0 &&& (v 1 ||| v 2)) ||| (v 1 &&& v 2)
  let low := v 7 + turns (v 4) 14 18 41 + chosen + kw
  (low + turns (v 0) 28 34 39 + majority) :: (h.take 3 ++ (v 3 + low) :: (h.drop 4).take 3)

/-- One block of 128 bytes. -/
def shaBlock (h : List (BitVec 64)) (block : List Byte) : List (BitVec 64) :=
  let w := (shaExtend 64 (beWords 16 block).reverse).reverse
  List.zipWith (· + ·) h ((List.zipWith (· + ·) shaRounds w).foldl shaRound h)

/-- `n` blocks in order. -/
def shaBlocks : Nat → List (BitVec 64) → List Byte → List (BitVec 64)
  | 0, h, _ => h
  | n + 1, h, l => shaBlocks n (shaBlock h (l.take 128)) (l.drop 128)

/-- SHA-384 of some bytes, as a big-endian number. -/
def sha384 (l : List Byte) : BitVec 384 :=
  let m := shaPad l
  let h := shaBlocks (m.length / 128) shaStart m
  BitVec.ofNat 384 (beNat ((h.take 6).map (fun w => toBE 8 w.toNat)).flatten)

/-! ### The curve -/

def curveP : Nat :=
  0x8CB91E82A3386D280F5D6F7E50E641DF152F7109ED5456B412B1DA197FB71123ACD3A729901D1A71874700133107EC53
def curveA : Nat :=
  0x7BC382C63D8C150C3C72080ACE05AFA0C2BEA28E4FB22787139165EFBA91F90F8AA5814A503AD4EB04A8C7DD22CE2826
def curveB : Nat :=
  0x04A8C7DD22CE28268B39B55416F0447C2FB77DE107DCD2A62E880EA53EEB62D57CB4390295DBC9943AB78696FA504C11
/-- The base point. -/
def curveG : Nat × Nat :=
  (0x1D1C64F068CF45FFA2A63A81B7C13F6B8847A3E77EF14FE3DB7FCAFE0CBD10E8E826E03436D646AAEF87B2E247D4AF1E,
   0x8ABE1D7520F9C2A45CB1EB8E95CFD55262B70B29FEEC5864E19C054FF99129280E4646217791811142820341263C5315)
/-- The order of the base point. -/
def curveN : Nat :=
  0x8CB91E82A3386D280F5D6F7E50E641DF152F7109ED5456B31F166E6CAC0425A7CF3AB6AF6B7FC3103B883202E9046565

/-- `b ^ e` modulo `m`, on the low `k` bits of `e`. -/
def powMod (m : Nat) : Nat → Nat → Nat → Nat
  | 0, _, _ => 1
  | k + 1, b, e => (if e % 2 = 1 then b else 1) * powMod m k (b * b % m) (e / 2) % m

/-- The inverse modulo a prime. -/
def invMod (m x : Nat) : Nat := powMod m 384 (x % m) (m - 2)

/-- A point of the curve in Jacobian coordinates: (X / Z², Y / Z³), at infinity where Z is 0. -/
structure Point where
  x : Nat
  y : Nat
  z : Nat
  deriving DecidableEq, Repr

/-- The point at infinity. -/
def Point.zero : Point := ⟨1, 1, 0⟩

/-- A difference modulo the field's prime. -/
def subP (a b : Nat) : Nat := (a + curveP - b % curveP) % curveP

/-- Twice a point. -/
def Point.double (p : Point) : Point :=
  let yy := p.y * p.y % curveP
  let s := 4 * p.x * yy % curveP
  let m := (3 * p.x * p.x + curveA * (p.z * p.z % curveP) * (p.z * p.z % curveP)) % curveP
  let x := subP (m * m) (2 * s)
  ⟨x, subP (m * subP s x) (8 * yy * yy), 2 * p.y * p.z % curveP⟩

/-- Point addition. -/
def Point.add (p q : Point) : Point :=
  if p.z = 0 then q
  else if q.z = 0 then p
  else
    let pp := p.z * p.z % curveP
    let qq := q.z * q.z % curveP
    let u := p.x * qq % curveP
    let s := p.y * (qq * q.z % curveP) % curveP
    let h := subP (q.x * pp) u
    let r := subP (q.y * (pp * p.z % curveP)) s
    if h = 0 then (if r = 0 then p.double else .zero)
    else
      let hh := h * h % curveP
      let v := u * hh % curveP
      let x := subP (r * r) (h * hh + 2 * v)
      ⟨x, subP (r * subP v x) (s * (h * hh % curveP)), h * p.z * q.z % curveP⟩

/-- `e` times a point, on the low `k` bits of `e`. -/
def Point.times : Nat → Nat → Point → Point
  | 0, _, _ => .zero
  | k + 1, e, p =>
    let r := Point.times k (e / 2) p.double
    if e % 2 = 1 then p.add r else r

/-- A point's coordinates, none at infinity. -/
def Point.affine (p : Point) : Option (Nat × Nat) :=
  if p.z = 0 then none
  else
    let i := invMod curveP p.z
    let ii := i * i % curveP
    some (p.x * ii % curveP, p.y * (ii * i % curveP) % curveP)

/-- The point with two coordinates. -/
def Point.at (p : Nat × Nat) : Point := ⟨p.1, p.2, 1⟩

/-- The point lies on the curve. -/
def onCurve (p : Nat × Nat) : Bool :=
  decide (p.1 < curveP) && decide (p.2 < curveP)
    && (p.2 * p.2) % curveP == (p.1 * p.1 * p.1 + curveA * p.1 + curveB) % curveP

/-- An ECDSA signature (r, s) of a digest verifies with a public key. -/
def verifies (key : Nat × Nat) (digest r s : Nat) : Bool :=
  if r = 0 ∨ curveN ≤ r ∨ s = 0 ∨ curveN ≤ s ∨ !onCurve key then false
  else
    let w := invMod curveN s
    match ((Point.times 384 (digest * w % curveN) (.at curveG)).add (Point.times 384 (r * w % curveN) (.at key))).affine with
    | none => false
    | some p => p.1 % curveN == r

/-- A signature of a digest with private key `d` and per-message secret `k`. -/
def signature (d digest k : Nat) : Nat × Nat :=
  match (Point.times 384 k (.at curveG)).affine with
  | none => (0, 0)
  | some p => (p.1 % curveN, invMod curveN k * (digest + p.1 % curveN * d) % curveN)

/-- The private key that R475 derives from a digest. -/
def privateKey (v : BitVec 384) : Nat := v.toNat % (curveN - 1) + 1

/-- A public key as 97 bytes: 0x04, X, Y (R471). -/
def keyBytes (p : Nat × Nat) : List Byte := [0x04] ++ toBE 48 p.1 ++ toBE 48 p.2

/-- The public key of a private key. -/
def publicKey (d : Nat) : Nat × Nat := (Point.times 384 d (.at curveG)).affine.getD (0, 0)

end Sys2Proof.Machine
end

