-- ==== Sys2Proof/Machine/CairnCmds.lean ====
section
/-! DEFINITION. Commands on held waits and on the Cairn memory: the wait's end (R186), gating (R192-R195), the A1 watchdog
(R198), the dump (R199-R201). -/

namespace Sys2Proof.Machine

/-! ### Operations -/

/-- The wake the watcher asked for (R193): the clock of a gated core runs again, and its wait is evaluated; one not satisfied
freezes again from zero. -/
def State.wakeL1 (s : State) (k : Nat) : State :=
  if (s.core k).l1 ∧ (s.core k).wakeAsked then (s.ungate k).waitCycle k else s

/-- An L1 entry request and the controller's answer (R192); the watcher then compares the count it finds (R193). -/
def State.requestL1 (s : State) (k : Nat) (grant : Bool) : State :=
  let c := s.core k
  if c.st = .frozenWait ∧ !c.l1 ∧ s.gateOn k ∧ s.get CAIRN_CTRL_GATE_AFTER k ≤ c.waitCount then
    if grant ∧ !s.power.shed then
      ((((s.put WAIT_STATE_GATED k 1).put WAIT_STATE_REFUSED k 0).bump CAIRN_STATS_GATE_ENTRIES k 1).modCore k
        (fun c => { c with l1 := true, wakeAsked := false })).watch k
    else (s.put WAIT_STATE_REFUSED k 1).modCore k (fun c => { c with waitCount := 0 })
  else s

/-- A CAIRN_CTRL write (R195): setting A1_WDOG wakes a gated core. -/
def State.writeCairnCtrl (s : State) (k : Nat) (v : Word) : State := (s.writeReg .CAIRN_CTRL k v).wakeForWdog k

/-- The watchdog ends a wait that reached its limit (R198): its bundle issues, its sources read with the core RUNNING (R114). -/
def State.fireWatchdog (s : State) (k : Nat) : State :=
  let c := s.core k
  match c.st, c.held with
  | .frozenWait, some w =>
    if s.clocked k ∧ s.flag CAIRN_CTRL_A1_WDOG k ∧ s.get CAIRN_CTRL_WDOG_LIMIT k * 1024 ≤ s.get WAIT_AGE_CURRENT k then
      let b := (s.modCore k (fun c => { c with st := .running })).decodeBundle k (heldWords w)
      match s.bundleFaults k b with
      | [] =>
        let s := ((s.endWait k).issueNow k b).addCairn k 4095 1 6
        (s.bump CAIRN_STATS_WDOG_FIRES k 1).raise 0x03 2 0 (coreDie k) (corePos k) (s.get CORE_OUTING_OUTING k)
          (BitVec.ofNat 64 (s.get WAIT_STATE_CAIRN k)) (BitVec.ofNat 64 (s.get WAIT_STATE_THRESHOLD k)) (BitVec.ofNat 64 c.pc)
      | l => s.faultCycle k l
    else s
  | _, _ => s

/-- First byte of steward memory and the byte after its last (R491). -/
def stewardBase : Nat := 0x80000000
def stewardEnd : Nat := 0x84000000

/-- Destination of a dump. -/
def State.dumpAddr (s : State) (k : Nat) : Nat := s.get CAIRN_DUMP_ADDR_ADDR k * 64

/-- A GO write to CAIRN_DUMP_CTRL (R199, R200). -/
def State.dumpGo (s : State) (k : Nat) : State :=
  let a := s.dumpAddr k
  if s.flag CAIRN_DUMP_CTRL_BUSY k ∨ a < stewardBase ∨ stewardEnd < a + 32832 then s.regEventAt 3 .CAIRN_DUMP_CTRL k 1
  else (s.put CAIRN_DUMP_CTRL_BUSY k 1).modCore k (fun c => { c with dump := some ⟨a, [], []⟩ })

/-- The 60 bytes of a dump header before its CRC (table "Cairn dump header"): words of the registers as they were when record
0 was read, and the records in order. -/
def State.dumpHeader (s : State) (k : Nat) (head records : List Word) : List Byte :=
  let w (i : Nat) : List Byte := toLE 8 (head.getD i 0).toNat
  let seq (i : Nat) : List Byte := toLE 2 (bits 63 48 (records.getD i 0).toNat)
  toLE 4 0x444E5243 ++ toLE 2 1 ++ toLE 1 (s.logical k) ++ toLE 1 (corePos k) ++ w 0 ++ w 1 ++ w 2 ++ w 3
    ++ seq 0 ++ seq 4095 ++ toLE 4 (crc32c (records.flatMap (fun r => toLE 8 r.toNat))).toNat ++ w 4 ++ toLE 4 0

/-- The dump ends (R200): the records not yet read are read, then the header is written, BUSY clears and DUMPS counts. -/
def State.dumpDone (s : State) (k : Nat) : State :=
  let s := (List.range 4096).foldl (fun s _ => s.dumpRecord k) s
  match (s.core k).dump with
  | none => s
  | some d =>
    let h := s.dumpHeader k d.head d.read.reverse
    let s := { s with stewardMem := Mem.setBytes s.stewardMem d.dest (h ++ toLE 4 (crc32c h).toNat) }
    let s := s.modCore k (fun c => { c with dump := none })
    (s.put CAIRN_DUMP_CTRL_BUSY k 0).put CAIRN_DUMP_CTRL_DUMPS k (s.get CAIRN_DUMP_CTRL_DUMPS k + 1)

/-! ### Meanings -/

/-- CWAIT_SATISFIED (R186): the held bundle issues when its wait is satisfied. -/
def execCwaitSatisfied (c : CoreRef) (s : State) : Host.Outcome State Fault Refusal :=
  let k := coreNum c
  .next (match (s.core k).held with
    | some w => if (s.core k).st = .frozenWait ∧ !(s.core k).l1 ∧ s.satisfied k (s.decodeBundle k (heldWords w)) then
        s.waitCycle k else s
    | none => s)

/-- L1_ENTRY_REQUEST (R192). -/
def execL1EntryRequest (c : CoreRef) (grant : Bool) (s : State) : Host.Outcome State Fault Refusal :=
  .next (s.requestL1 (coreNum c) grant)

/-- L1_WAKE (R193). -/
def execL1Wake (c : CoreRef) (s : State) : Host.Outcome State Fault Refusal := .next (s.wakeL1 (coreNum c))

/-- CAIRN_CTRL_WRITE (R195). -/
def execCairnCtrlWrite (c : CoreRef) (v : BitVec 64) (s : State) : Host.Outcome State Fault Refusal :=
  .next (s.writeCairnCtrl (coreNum c) v)

/-- WATCHDOG_FIRE (R198). -/
def execWatchdogFire (c : CoreRef) (s : State) : Host.Outcome State Fault Refusal := .next (s.fireWatchdog (coreNum c))

/-- CAIRN_DUMP_GO (R200). -/
def execCairnDumpGo (c : CoreRef) (s : State) : Host.Outcome State Fault Refusal := .next (s.dumpGo (coreNum c))

/-- CAIRN_DUMP_COMPLETE (R200). -/
def execCairnDumpComplete (c : CoreRef) (s : State) : Host.Outcome State Fault Refusal := .next (s.dumpDone (coreNum c))

end Sys2Proof.Machine
end

