-- ==== Sys2Proof/Machine/EventLog.lean ====
section
/-! DEFINITION. The event log (R418-R422): records, the early ring, placement, the rate limit; and the triplicated words
(R434). -/

namespace Sys2Proof.Machine

/-! ### Device faults (R7) -/

/-- The fields whose values the manual lists in full, with the test of a listed value. -/
def listedFields (r : RegName) : List (Fld × (Nat → Bool)) :=
  let upTo (n : Nat) : Nat → Bool := fun x => decide (x ≤ n)
  match r with
  | .CORE_STATUS => [(CORE_STATUS_STATE, upTo 6)]
  | .PLANE_STATUS => [(PLANE_STATUS_STATE, upTo 4)]
  | .CAL_ITEM_STATUS => [(CAL_ITEM_STATUS_RESULT, upTo 5)]
  | .TUNE_STATUS => [(TUNE_STATUS_PHASE, upTo 6)]
  | .RING_STATUS => [(RING_STATUS_STATE, upTo 5)]
  | .LASER_GROUP => [(LASER_GROUP_STATE, upTo 7)]
  | .CASOB_STATUS => [(CASOB_STATUS_STATE, upTo 4)]
  | .STACK_STATUS => [(STACK_STATUS_STATE, upTo 2)]
  | .CHAN_STATUS => [(CHAN_STATUS_STATE, upTo 4)]
  | .LAYER_TEMP => [(LAYER_TEMP_REFRESH, upTo 2)]
  | .CLK_STATUS => [(CLK_STATUS_DIV, fun x => decide (2 ≤ x))]
  | .POD_LINK_STATUS => [(POD_LINK_STATUS_WIDTH, upTo 2)]
  | .SUMMIT_STATUS => [(SUMMIT_STATUS_ROLE, upTo 5)]
  | .FENCE_STATUS => [(FENCE_STATUS_SUBST_STATE, upTo 5)]
  | .PWR_STATUS => [(PWR_STATUS_STATE, upTo 5)]
  | .CORE_PWR => [(CORE_PWR_RUNG, upTo 4)]
  | .MODULE_PWR => [(MODULE_PWR_RUNG, fun x => x == 0 || x == 5 || x == 6)]
  | .BOOT_STATUS => [(BOOT_STATUS_STAGE, upTo 3)]
  | .SEC_STATUS => [(SEC_STATUS_RESULT, upTo 3)]
  | _ => []

/-- A register shows a value that the manual says never appears. CLK_STATUS is of the compute dies alone (R384). -/
def outsideList (r : RegName) (i : Nat) (w : Word) : Bool :=
  (r != .CLK_STATUS || decide (i < 4)) && (listedFields r).any (fun x => !x.2 (bits x.1.hi x.1.lo w.toNat))

/-- A device fault: the register's address, or zero for a value that is not a register, and the value (R518). -/
def State.deviceFault (s : State) (die unit : Nat) (addr v : Word) : State := s.raise 0x01 4 2 die unit 0x3FF addr v 0

/-- A unit reports a value that it showed: one outside its register's list, or outside the list of what is no register. -/
def State.reportFault (s : State) (die unit : Nat) (addr : Nat) (v : Word) : State :=
  if addr = 0 then s.deviceFault die unit 0 v
  else match locate addr with
    | .reg r i => if outsideList r i v then s.deviceFault die unit (BitVec.ofNat 64 addr) v else s
    | _ => s

/-! ### Records -/

/-- Bytes 0x00 to 0x3B of a record (R420). -/
def State.recordHead (s : State) (seq : Nat) (e : Event) : List Byte :=
  toLE 8 seq ++ toLE 8 s.uptime ++ toLE 8 e.time ++ toLE 1 e.cls ++ toLE 1 e.code ++ toLE 1 e.sev ++ toLE 1 e.die
    ++ toLE 1 e.unit ++ toLE 1 (e.device.getD s.device) ++ toLE 2 e.outing ++ toLE 8 e.d0.toNat ++ toLE 8 e.d1.toNat ++ toLE 8 e.d2.toNat
    ++ toLE 4 0

/-- A record: its bytes and their CRC (R420). -/
def State.recordBytes (s : State) (seq : Nat) (e : Event) : List Byte :=
  let h := s.recordHead seq e
  h ++ toLE 4 (crc32c h).toNat

/-- The ring's base (R419). -/
def State.logBase (s : State) : Nat := s.get LOG_BASE_ADDR 0 * 2 ^ 22

/-- Send round the management ring. -/
def State.ring (s : State) (m : RingMsg) : State := { s with podnet := { s.podnet with sent := s.podnet.sent ++ [m] } }

/-- The Summit of a full-class pod finds a dead-target record in its log and tears the outing down (R412). -/
def State.findDead (s : State) (e : Event) : State :=
  if e.cls = 4 ∧ e.code = 3 ∧ e.outing < 256 ∧ s.flag POD_CFG_FULL_CLASS 0 ∧ s.get SUMMIT_STATUS_ROLE 0 = 1
      ∧ s.get OUTING_STATUS_STATE e.outing = 1 then
    let s := (s.put OUTING_STATUS_STATE e.outing 2).ring (.teardown s.podnet.nextCmd e.outing)
    { s with podnet := { s.podnet with nextCmd := (s.podnet.nextCmd + 1) % 2 ^ 32 } }
  else s

/-- What a record's append shows elsewhere: its class's interrupt source (R463), and page 4 of the I3C target (R485). -/
def State.noticeRecord (s : State) (e : Event) : State :=
  let s := s.interrupt e.cls
  let tag := e.cls + 256 * e.code
  { s with steward := { s.steward with
    bySev := s.steward.bySev.set e.sev (min 0xFFFFFFFF (s.steward.bySev.getD e.sev 0 + 1))
    lastFatal := if e.sev = 3 then tag else s.steward.lastFatal
    lastErrors := if e.sev = 2 then (tag :: s.steward.lastErrors).take 4 else s.steward.lastErrors } }

/-- A record is appended: to the early ring until LOG_BASE is written, then to the ring (R418, R419). -/
def State.append (s : State) (e : Event) : State :=
  let s := (s.noticeRecord e).findDead e
  let seq := (s.word .LOG_SEQ 0).toNat + 1
  let b := s.recordBytes seq e
  let placed := s.logBase ≠ 0
  let full := if placed then s.logFirst + 65536 < seq else 256 < seq
  let s := s.setWord .LOG_SEQ 0 (BitVec.ofNat 64 seq)
  let s := if full then s.bump LOG_STATUS_OVERWRITTEN 0 1 else s
  let s := if placed then { s with stewardMem := Mem.setBytes s.stewardMem (s.logBase + seq % 65536 * 64) b }
    else { s with early := Mem.setBytes s.early (seq % 256 * 64) b }
  if e.sev = 3 then { s with fatal := (s.fatal ++ [b]).drop ((s.fatal.length + 1) - 1024) } else s

/-- Key of a source unit: die and unit (R421). -/
def Event.source (e : Event) : Nat := e.die * 256 + e.unit

/-- A record reaches the log: beyond 64 of its unit in this millisecond it is only counted, unless it is FATAL (R421). -/
def State.judge (s : State) (e : Event) : State :=
  let c := SMap.get s.logCounts e.source (0, 0)
  if e.sev = 3 then s.append e
  else if c.1 < 64 then { s with logCounts := SMap.set s.logCounts e.source (c.1 + 1, c.2) (0, 0) }.append e
  else { s with logCounts := SMap.set s.logCounts e.source (c.1, c.2 + 1) (0, 0) }

/-- A record that its unit puts in the log at once: what the unit raised before goes first (R42). -/
def State.appendNow (s : State) (e : Event) : State :=
  let before := s.events.filter (fun x => x.source == e.source)
  (before.foldl (fun (t : State) x => t.judge x) { s with events := s.events.filter (fun x => x.source != e.source) }).append e

/-- A millisecond ends: one suppressed record for each unit that suppressed any (R421). -/
def State.endInterval (s : State) : State :=
  let l := s.logCounts.filter (fun x => x.2.2 != 0)
  l.foldl (fun s x =>
    (s.bump LOG_STATUS_SUPPRESSED 0 x.2.2).append
      ⟨0x0E, 1, 1, x.1 / 256, x.1 % 256, 0x3FF, s.stepCount (x.1 / 256), BitVec.ofNat 64 x.2.2, 0, 0, none⟩) { s with logCounts := [] }

/-- A LOG_BASE write (R419): placed once, and the early records copied in SEQ order. -/
def State.writeLogBase (s : State) (v : Word) : State :=
  let base := v.toNat / 2 ^ 22 * 2 ^ 22
  if s.logBase ≠ 0 then s.regEventAt 3 .LOG_BASE 0 v
  else if base < 0x80000000 ∨ 0x84000000 < base + 0x400000 then s.regEventAt 1 .LOG_BASE 0 v
  else
    let last := (s.word .LOG_SEQ 0).toNat
    let n := min last 256
    let s := s.put LOG_BASE_ADDR 0 (base / 2 ^ 22)
    let s := { s with logFirst := last - n }
    (List.range n).foldl (fun s i =>
      let seq := last - n + 1 + i
      { s with stewardMem := Mem.setBytes s.stewardMem (base + seq % 65536 * 64) (Mem.bytes s.early (seq % 256 * 64) 64) }) s

/-! ### Triplicated words (R434) -/

/-- The bits of a register that are triplicated, if any (R434, R460). -/
def triplicated (r : RegName) : Option Fld :=
  match r with
  | .FENCE_STATUS => some FENCE_STATUS_FENCED
  | .CORE_MAP => some ⟨.CORE_MAP, 63, 0, .rw, 0⟩
  | .CORE_OUTING => some ⟨.CORE_OUTING, 63, 0, .rw, 0⟩
  | .GRANULE_OWNER => some ⟨.GRANULE_OWNER, 63, 0, .rw, 0⟩
  | .SITE_MAP => some ⟨.SITE_MAP, 63, 0, .rw, 0⟩
  | .PKG_CAPS => some ⟨.PKG_CAPS, 63, 0, .rw, 0⟩
  | .SPUR_FW_CTRL => some ⟨.SPUR_FW_CTRL, 63, 0, .rw, 0⟩
  | .SPUR_OUT_WIN => some ⟨.SPUR_OUT_WIN, 63, 0, .rw, 0⟩
  | .SPUR_IN_WIN => some ⟨.SPUR_IN_WIN, 63, 0, .rw, 0⟩
  | .SPUR_CAIRN_GRANT => some ⟨.SPUR_CAIRN_GRANT, 63, 0, .rw, 0⟩
  | .POD_TOPO => some ⟨.POD_TOPO, 63, 0, .rw, 0⟩
  | .POD_CFG => some ⟨.POD_CFG, 63, 0, .rw, 0⟩
  | .POD_MEMBERS => some ⟨.POD_MEMBERS, 63, 0, .rw, 0⟩
  | .POD_DEAD => some ⟨.POD_DEAD, 63, 0, .rw, 0⟩
  | .POD_SAVING => some ⟨.POD_SAVING, 63, 0, .rw, 0⟩
  | .ROUTE => some ⟨.ROUTE, 63, 0, .rw, 0⟩
  | .ROUTE_STAGE => some ⟨.ROUTE_STAGE, 63, 0, .rw, 0⟩
  | .LINK_RES => some ⟨.LINK_RES, 63, 0, .rw, 0⟩
  | _ => none

/-- The bitwise majority of three words. -/
def majority (a b c : Word) : Word := (a &&& b) ||| (a &&& c) ||| (b &&& c)

/-- The die that holds a register (R378): gateways count as die 4. -/
def holderDie (a : Nat) : Nat :=
  let b := (a - regBase) / 0x100000000
  if b < 14 then b else 4

/-- The checker finds the three copies of a triplicated word: the majority is its value, and each copy that differs is
rewritten, counted and logged. -/
def State.checkTriplicate (s : State) (a : Nat) (x y z : Word) : State :=
  match locate a with
  | .reg r i =>
    match triplicated r with
    | none => s
    | some f =>
      let m := majority x y z
      let s := s.put f i (bits f.hi f.lo m.toNat)
      ([x, y, z].filter (fun w => bits f.hi f.lo w.toNat != bits f.hi f.lo m.toNat)).foldl (fun s _ =>
        (s.bump TMR_STATUS_CORRECTIONS (holderDie (addrOf r i)) 1).raise 0x02 6 0 (holderDie (addrOf r i)) 0xFF 0x3FF
          (BitVec.ofNat 64 (addrOf r i % 0x100000000)) 0 0) s
  | _ => s

/-! ### Meanings -/

/-- EVENT_RECORD_APPEND (R7, R418, R421): the oldest record raised by a unit reaches the log. -/
def execEventRecordAppend (die : Fin 17) (reporter : Reporter) (s : State) : Host.Outcome State Fault Refusal :=
  let unit := reporter.unit
  let s := match reporter.fault with
    | some f => s.reportFault die.val unit.toNat f.1.toNat f.2
    | none => s
  match s.events.find? (fun e => e.die == die.val && e.unit == unit.toNat) with
  | none => .next s
  | some e => .next ({ s with events := s.events.erase e }.judge e)

/-- SUPPRESSION_INTERVAL_END (R421). -/
def execSuppressionIntervalEnd (s : State) : Host.Outcome State Fault Refusal := .next s.endInterval

/-- LOG_BASE_WRITE (R419). -/
def execLogBaseWrite (v : BitVec 64) (s : State) : Host.Outcome State Fault Refusal := .next (s.writeLogBase v)

/-- TRIPLICATE_CHECK (R434). -/
def execTriplicateCheck (addr : BitVec 48) (copies : BitVec 64 × BitVec 64 × BitVec 64) (s : State) :
    Host.Outcome State Fault Refusal :=
  .next (s.checkTriplicate addr.toNat copies.1 copies.2.1 copies.2.2)

end Sys2Proof.Machine
end

