-- ==== Sys2Proof/Machine/Fence.lean ====
section
/-! DEFINITION. Fencing and substitution (R423-R430, R435). -/

namespace Sys2Proof.Machine

/-! ### Operations -/

/-- FENCED bit `p` of a die. -/
def State.markFenced (s : State) (die p : Nat) : State :=
  s.put FENCE_STATUS_FENCED die (s.get FENCE_STATUS_FENCED die ||| 2 ^ p)

/-- A fence of position `p` (R424): issue stops, a held wait ends without consume, nothing drains; then its record, of kind
1 FENCE, 2 SUBST, 3 the die's hardware (R421). -/
def State.fencePos (s : State) (die p kind : Nat) : State :=
  let k := 9 * die + p
  let s := if (s.core k).st = .frozenWait then s.endWait k else s
  let s := s.modCore k (fun c => { c with
    st := .fenced, drain := .none, redirect := none, held := none, force := false, pipe := [], claims := [] })
  let s := (s.markFenced die p).exitRung k
  s.raise 0x02 3 (if kind = 2 then 1 else 2) die p (s.get CORE_OUTING_OUTING k) (s.word .FENCE_STATUS die)
    (s.word .CORE_MAP die) (BitVec.ofNat 64 kind)

/-- A substitution ends FAILED at a step of R430: the record, and dead responses to what was held (R435). -/
def State.substFail (s : State) (die step : Nat) : State :=
  let p := s.get FENCE_STATUS_SUBST_FROM die
  let s := s.put FENCE_STATUS_SUBST_STATE die 5
  let s := s.raise 0x02 5 2 die p (s.get CORE_OUTING_OUTING (9 * die + p)) (s.word .FENCE_STATUS die)
    (s.word .CORE_MAP die) (BitVec.ofNat 64 step)
  s.releaseHeld die

/-- A substitution of `p` begins (R430 step 1). -/
def State.substStart (s : State) (die p : Nat) : State :=
  let spare := s.get CORE_MAP_SPARE die
  let ok := s.flag BATCH_MARK_VALID (9 * die + p) && decide (spare ≤ 8) && !s.isFenced (9 * die + spare)
  let s := (s.put FENCE_STATUS_SUBST_FROM die p).put FENCE_STATUS_SUBST_STATE die (if ok then 1 else 5)
  let s := s.fencePos die p 2
  if ok then s else s.substFail die 1

/-- A CORE_FENCE write (R430, R435, R436). A reserved TARGET keeps the old one (R19). -/
def State.writeCoreFence (s : State) (die : Nat) (v : Word) : State :=
  let t := bits 7 4 v.toNat
  let fence := bits 0 0 v.toNat = 1
  let subst := bits 1 1 v.toNat = 1
  let p := if 8 < t then s.get CORE_FENCE_TARGET die else t
  let st := s.get FENCE_STATUS_SUBST_STATE die
  let s' := s.writeReg .CORE_FENCE die v
  if ¬ fence ∧ ¬ subst then s'
  else if (1 ≤ st ∧ st ≤ 3) ∨ s.isFenced (9 * die + p) ∨ s.get CORE_MAP_SPARE die = p then
    (if 8 < t then s.regEventAt 1 .CORE_FENCE die v else s).regEventAt 3 .CORE_FENCE die v
  else if subst then s'.substStart die p
  else s'.fencePos die p 1

/-- A position's power or clock region fails (R423, R435). -/
def State.regionFail (s : State) (die p : Nat) : State :=
  let st := s.get FENCE_STATUS_SUBST_STATE die
  let from_ := s.get FENCE_STATUS_SUBST_FROM die
  if s.isFenced (9 * die + p) then
    if from_ = p ∧ (st = 1 ∨ st = 2) then s.substFail die (st + 1) else s
  else
    let s := s.fencePos die p 3
    if s.get CORE_MAP_SPARE die = p ∧ 1 ≤ st ∧ st ≤ 3 then s.substFail die (st + 1) else s

/-- The fenced port's UNACKED reached 0 (R430 step 2). -/
def State.substDrained (s : State) (die : Nat) : State :=
  if s.get FENCE_STATUS_SUBST_STATE die = 1 ∧ s.unacked (9 * die + s.get FENCE_STATUS_SUBST_FROM die) = 0 then
    s.put FENCE_STATUS_SUBST_STATE die 2
  else s

/-- Counts of a memory read through its code: one-bit words corrected, uncorrectable ones counted. -/
def State.countCodes (s : State) (k : Nat) (corrected uncorrected : Fld) (marks : SMap Ecc) : State :=
  (s.bump corrected k (marks.filter (fun x => x.2 == .one)).length).bump uncorrected k
    (marks.filter (fun x => x.2 == .bad)).length

/-- Store and instruction memory are copied to the spare through their codes (R430 step 3): READY. -/
def State.substCopied (s : State) (die : Nat) : State :=
  if s.get FENCE_STATUS_SUBST_STATE die = 2 then
    let k := 9 * die + s.get FENCE_STATUS_SUBST_FROM die
    let t := 9 * die + s.get CORE_MAP_SPARE die
    let c := s.core k
    let s := s.countCodes k STORE_ECC_CORRECTED STORE_ECC_UNCORRECTED c.storeEcc
    let s := s.countCodes k IMEM_ECC_CORRECTED IMEM_ECC_UNCORRECTED c.imemEcc
    let bad (m : SMap Ecc) : SMap Ecc := m.filter (fun x => x.2 == .bad)
    let s := s.modCore k (fun x => { x with storeEcc := bad c.storeEcc, imemEcc := bad c.imemEcc })
    let s := s.modCore t (fun x => { x with
      store := c.store, storeEcc := bad c.storeEcc, imem := c.imem, imemEcc := bad c.imemEcc })
    s.put FENCE_STATUS_SUBST_STATE die 3
  else s

/-- A steward add (R41, R181). In READY, one to the spare that finds a count already nonzero ends the substitution FAILED
(R430 step 3). -/
def State.stewardAdd (s : State) (k n : Nat) (amount : BitVec 32) : State :=
  let die := coreDie k
  let clash := s.get FENCE_STATUS_SUBST_STATE die == 3 && s.get CORE_MAP_SPARE die == corePos k
    && ((s.core k).cairn n).count != 0
  let s := s.outsideAdd k n amount 5
  if clash then s.substFail die 3 else s

/-! ### Meanings -/

/-- FENCE_WRITE (R424, R436): a CORE_FENCE write with FENCE alone. -/
def execFenceWrite (die : Fin 4) (target : BitVec 4) (s : State) : Host.Outcome State Fault Refusal :=
  .next (s.writeCoreFence die.val (BitVec.ofNat 64 (target.toNat * 16 + 1)))

/-- SUBST_WRITE (R430, R436): a CORE_FENCE write with SUBST; FENCE beside it changes nothing. -/
def execSubstWrite (die : Fin 4) (target : BitVec 4) (fence : Bool) (s : State) : Host.Outcome State Fault Refusal :=
  .next (s.writeCoreFence die.val (BitVec.ofNat 64 (target.toNat * 16 + 2 + (if fence then 1 else 0))))

/-- REGION_POWER_FAIL (R423). -/
def execRegionPowerFail (c : CoreRef) (s : State) : Host.Outcome State Fault Refusal :=
  .next (s.regionFail c.die.val c.pos.val)

/-- SUBST_DRAIN_COMPLETE (R430). -/
def execSubstDrainComplete (die : Fin 4) (s : State) : Host.Outcome State Fault Refusal := .next (s.substDrained die.val)

/-- SUBST_COPY_COMPLETE (R430). -/
def execSubstCopyComplete (die : Fin 4) (s : State) : Host.Outcome State Fault Refusal := .next (s.substCopied die.val)

end Sys2Proof.Machine
end

