-- ==== Sys2Proof/Machine/CoreControl.lean ====
section
/-! DEFINITION. Commands on a core from outside its program: CORE_CTRL (R112, R113), the ends of drains (R113, R115, R148),
copy-class beats (R103), the scrubber (R107), CORE_MAP (R120), seeds (R66), steward accesses to the position's memories
(R110, R496), and program loading (R149, R150). -/

namespace Sys2Proof.Machine

/-! ### Operations -/

/-- START on a STOPPED or HALTED core; in any other state a register-state event (R112). A core in L2-L4 first returns to L0,
and a module in L5 wakes (R449, R450). -/
def State.startCore (s : State) (k : Nat) (v : Word) : State :=
  let c := s.core k
  if c.st = .stopped ∨ c.st = .halted then
    let s := (s.wakeModule).put CORE_PWR_RUNG k 0
    s.modCore k (fun c => { c with
      pc := s.get CORE_CTRL_START_PC k, st := .running, drain := .none, redirect := none, force := false })
  else s.regEventAt 3 .CORE_CTRL k v

/-- CLR_FAULT from FAULTED (R112). -/
def State.clearFault (s : State) (k : Nat) : State :=
  if (s.core k).st = .faulted then (s.setWord .CORE_FAULT k 0).modCore k (fun c => { c with st := .stopped }) else s

/-- STOP on a core that issues or is frozen: a held wait ends without issue and the drain begins (R113, R188). A core that
still drains after a HALT then ends STOPPED (DESIGN CHOICE, log entry 40). -/
def State.stopCore (s : State) (k : Nat) : State :=
  let c := s.core k
  if c.st = .running ∨ c.st = .frozenWait ∨ c.st = .frozenBank then
    let s := if c.st = .frozenWait then s.endWait k else s
    s.modCore k (fun c => { c with st := .running, drain := .stop, redirect := none })
  else s.exitRung k

/-- A CORE_CTRL write, each field judged against the state before it (R112, R113). -/
def State.writeCoreCtrl (s : State) (k : Nat) (v : Word) : State :=
  let w := v.toNat
  let before := (s.core k).st
  let s := s.put CORE_CTRL_START_PC k (bits 46 32 w)
  if bits 2 2 w = 1 ∧ before = .faulted then
    let s := s.clearFault k
    if bits 1 1 w = 0 ∧ bits 0 0 w = 1 then s.regEventAt 3 .CORE_CTRL k v else s
  else if bits 1 1 w = 1 then s.stopCore k
  else if bits 0 0 w = 1 then s.startCore k v
  else s

/-- The word of a CORE_CTRL write. -/
def coreCtrlWord (pc : BitVec 15) (clr stop start : Bool) : Word :=
  BitVec.ofNat 64 (pc.toNat * 2 ^ 32 + (if clr then 4 else 0) + (if stop then 2 else 0) + (if start then 1 else 0))

/-- A drain toward `d` ends in state `st` (R113, R148). -/
def State.finishDrain (s : State) (k : Nat) (d : Drain) (st : CoreSt) : State :=
  if (s.core k).st = .running ∧ (s.core k).drain = d then
    let s := s.drainCycles k drainFuel
    if (s.core k).st = .running then s.modCore k (fun c => { c with st := st, drain := .none }) else s
  else s

/-- A CORE_MAP write (R120). Any write accepted in READY moves the substitution to DONE and releases what was held (R430). -/
def State.writeCoreMap (s : State) (die : Nat) (v : Word) : State :=
  let old := s.word .CORE_MAP die
  let new := v &&& 0xFFFFFFFFF#64
  let nib (w : Word) (i : Nat) : Nat := bits (4 * i + 3) (4 * i) w.toNat
  let changed := (List.range 8).filter (fun i => nib old i != nib new i)
  let st := s.get FENCE_STATUS_SUBST_STATE die
  if new = old then s
  else match changed with
    | [i] =>
      let spare := nib old 8
      if nib new i = spare ∧ spare ≤ 8 ∧ nib new 8 = 0xF ∧ nib old i ≤ 8 ∧ s.isFenced (9 * die + nib old i)
          ∧ (s.core (9 * die + spare)).st = .stopped ∧ st ≠ 1 ∧ st ≠ 2 then
        let s := s.setWord .CORE_MAP die new
        if st = 3 then
          let s := s.put FENCE_STATUS_SUBST_STATE die 4
          let s := s.raise 0x02 4 1 die (nib old i) (s.get CORE_OUTING_OUTING (9 * die + nib old i)) (s.word .FENCE_STATUS die) new 0
          s.releaseHeld die
        else s
      else s.regEventAt 1 .CORE_MAP die v
    | _ => s.regEventAt 1 .CORE_MAP die v

/-- Instruction memory slot `i` of bundle `n` (R110). -/
def State.writeImem (s : State) (k n i : Nat) (v : Word) : State :=
  s.modCore k (fun c => { c with
    imem := SMap.set c.imem (n * 4 + i) v 0, imemEcc := SMap.set c.imemEcc (n * 4 + i) .good .good })


/-- Marks found on a beat by the scrubber: a second error in a word makes it uncorrectable. -/
def State.upset (s : State) (k w : Nat) (double : Bool) : State :=
  s.modCore k (fun c => c.setEcc w (if double ∨ c.ecc w ≠ .good then .bad else .one))

/-- The first check of the table "Program-load refusal reasons" that an image fails (R150). LEVEL_HIGH compares with the
package level (R328), or with 2 before start-up gives one (log entry 35). -/
def State.loadReason (s : State) (k : Nat) (image : List Byte) (answers : Bool) : Option Nat :=
  let m : Mem := Mem.setBytes [] 0 (image.take 64)
  let flags := Mem.readLE m 7 1
  let count := Mem.readLE m 8 4
  let at_ := Mem.readLE m 0xC 2
  let entry := Mem.readLE m 0xE 2
  let st := (s.core k).st
  if Mem.readLE m 0 4 ≠ 0x4853544F then some 1
  else if (crc32c (Mem.bytes m 0 60)).toNat ≠ Mem.readLE m 0x3C 4 then some 2
  else if Mem.readLE m 4 2 ≠ 1 then some 3
  else if 4 ≤ flags ∨ (Mem.bytes m 0x1C 32).any (· != 0) then some 4
  else if Mem.readLE m 6 1 = 0 ∨ 4 < Mem.readLE m 6 1 then some 5
  else if (if s.get PKG_CAPS_LEVEL 0 = 0 then 2 else s.get PKG_CAPS_LEVEL 0) < Mem.readLE m 6 1 then some 6
  else if count = 0 ∨ 32768 < count ∨ 32768 < at_ + count ∨ image.length ≠ 64 + 32 * count then some 7
  else if entry < at_ ∨ at_ + count ≤ entry then some 8
  else if (crc32c (image.drop 64)).toNat ≠ Mem.readLE m 0x18 4 then some 9
  else if flags / 2 % 2 = 1 ∧ ¬ (answers ∧ (st = .stopped ∨ st = .halted)) then some 10
  else none

/-- The loader (R150). -/
def State.loadProgram (s : State) (k : Nat) (image : List Byte) (answers : Bool) : State :=
  match s.loadReason k image answers with
  | some r => s.raise 0x02 2 0 (coreDie k) (corePos k) 0x3FF (BitVec.ofNat 64 r) (BitVec.ofNat 64 image.length) 0
  | none =>
    let m : Mem := Mem.setBytes [] 0 (image.take 64)
    let flags := Mem.readLE m 7 1
    let body := image.drop 64
    let s := (List.range (Mem.readLE m 8 4 * 4)).foldl (fun s i =>
      s.writeImem k (Mem.readLE m 0xC 2 + i / 4) (i % 4) (BitVec.ofNat 64 (leNat ((body.drop (8 * i)).take 8)))) s
    let s := if flags / 2 % 2 = 1 then
        (s.seed SR_SEED_V_SEED SR_STATE_STATE_V k (BitVec.ofNat 64 (Mem.readLE m 0x10 4))).seed SR_SEED_M_SEED
          SR_STATE_STATE_M k (BitVec.ofNat 64 (Mem.readLE m 0x14 4))
      else s
    ((s.put CAIRN_CTRL_A1_WDOG k (flags % 2)).wakeForWdog k).put CORE_CTRL_START_PC k (Mem.readLE m 0xE 2)

/-! ### Meanings -/

/-- POD_RESULT_RETURN (R97): the returned value, then the completion add; a FENCED position discards both (R424). -/
def execPodResultReturn (c : CoreRef) (seq : BitVec 32) (s : State) : Host.Outcome State Fault Refusal :=
  let k := coreNum c
  match (s.core k).unacked.find? (fun o => o.seq == some seq.toNat && o.back.isSome) with
  | none => .next s
  | some o =>
    let data := o.back.getD []
    let s := s.modCore k (fun x => { x with unacked := x.unacked.filter (fun y => y.id != o.id) })
    if s.isFenced k then .next s
    else
      let s := s.modCore k (fun x =>
        if o.kind = .pldv then x.setV o.rd (BitVec.ofNat 4096 (leNat data)) (BitVec.allOnes 128)
        else x.setS o.rd (BitVec.ofNat 64 (leNat data)))
      .next (s.ownAdd k o.cairn 1 seq.toNat)

/-- COPY_CLASS_BEAT (R103). -/
def execCopyClassBeat (c : CoreRef) (bank : Fin 16) (s : State) : Host.Outcome State Fault Refusal :=
  let k := coreNum c
  .next (if !s.clocked k || (s.core k).claimedNow.getLsbD bank.val then s else s.serveBeat k bank.val)

/-- FROZEN_BANK (R98, R103). -/
def execFrozenBank (c : CoreRef) (s : State) : Host.Outcome State Fault Refusal :=
  let k := coreNum c
  .next (if s.clocked k ∧ (s.core k).issuing ∧ (s.core k).force then s.freezeBank k else s)

/-- CORE_STORE_SCRUB (R107): one beat, when its bank is free; `upsets` are the errors found on its words. -/
def execCoreStoreScrub (c : CoreRef) (upsets : List (Fin 32 × Bool)) (s : State) : Host.Outcome State Fault Refusal :=
  let k := coreNum c
  let beat := s.get STORE_SCRUB_NEXT_BEAT k
  if !(s.core k).bankFree (beat % 16) then .next s
  else
    let s := upsets.foldl (fun s u => s.upset k (beat * 32 + u.1.val) u.2) s
    let s := s.readStore k (beat * 256) 256
    .next (if beat = 262143 then (s.put STORE_SCRUB_NEXT_BEAT k 0).put STORE_SCRUB_PASSES k (s.get STORE_SCRUB_PASSES k + 1)
      else s.put STORE_SCRUB_NEXT_BEAT k (beat + 1))

/-- START (R112): a CORE_CTRL write with START = 1 and STOP = 0. -/
def execStart (c : CoreRef) (startPc : BitVec 15) (clr : Bool) (s : State) : Host.Outcome State Fault Refusal :=
  .next (s.writeCoreCtrl (coreNum c) (coreCtrlWord startPc clr false true))

/-- STOP (R113): a CORE_CTRL write with STOP = 1. -/
def execStop (c : CoreRef) (startPc : BitVec 15) (start clr : Bool) (s : State) : Host.Outcome State Fault Refusal :=
  .next (s.writeCoreCtrl (coreNum c) (coreCtrlWord startPc clr true start))

/-- CLR_FAULT (R112): a CORE_CTRL write with CLR_FAULT alone. -/
def execClrFault (c : CoreRef) (startPc : BitVec 15) (s : State) : Host.Outcome State Fault Refusal :=
  .next (s.writeCoreCtrl (coreNum c) (coreCtrlWord startPc true false false))

/-- STOP_DRAIN_COMPLETE (R113). -/
def execStopDrainComplete (c : CoreRef) (s : State) : Host.Outcome State Fault Refusal :=
  .next (s.finishDrain (coreNum c) .stop .stopped)

/-- HALT_DRAIN_COMPLETE (R148). -/
def execHaltDrainComplete (c : CoreRef) (s : State) : Host.Outcome State Fault Refusal :=
  .next (s.finishDrain (coreNum c) .halt .halted)

/-- FAULT_DRAIN_COMPLETE (R115): QUIET rises; the core may have been moved to STOPPED meanwhile. -/
def execFaultDrainComplete (c : CoreRef) (s : State) : Host.Outcome State Fault Refusal :=
  let k := coreNum c
  .next (if (s.core k).st = .faulted ∨ (s.core k).st = .stopped then s.drainCycles k drainFuel else s)

/-- CORE_MAP_WRITE (R120). -/
def execCoreMapWrite (die : Fin 4) (v : BitVec 64) (s : State) : Host.Outcome State Fault Refusal :=
  .next (s.writeCoreMap die.val v)

/-- SR_SEED_V_WRITE (R66). -/
def execSrSeedVWrite (c : CoreRef) (v : BitVec 64) (s : State) : Host.Outcome State Fault Refusal :=
  .next (s.seed SR_SEED_V_SEED SR_STATE_STATE_V (coreNum c) v)

/-- SR_SEED_M_WRITE (R66). -/
def execSrSeedMWrite (c : CoreRef) (v : BitVec 64) (s : State) : Host.Outcome State Fault Refusal :=
  .next (s.seed SR_SEED_M_SEED SR_STATE_STATE_M (coreNum c) v)

/-- STEWARD_IMEM_WRITE (R110). -/
def execStewardImemWrite (c : CoreRef) (bundle : BitVec 15) (slot : Fin 4) (v : BitVec 64) (s : State) :
    Host.Outcome State Fault Refusal :=
  .next (s.writeImem (coreNum c) bundle.toNat slot.val v)

/-- STEWARD_STORE_ACCESS (R496). -/
def execStewardStoreAccess (c : CoreRef) (offset : BitVec 26) (size : AccessSize) (write : Option (BitVec 64))
    (s : State) : Host.Outcome State Fault Refusal :=
  .next (s.storeAccess (coreNum c) offset.toNat (accessBytes size) write)

/-- STEWARD_CAIRN_ADD (R41, R181): the low 32 bits. -/
def execStewardCairnAdd (c : CoreRef) (cn : BitVec 12) (v : BitVec 64) (s : State) : Host.Outcome State Fault Refusal :=
  .next (s.stewardAdd (coreNum c) cn.toNat (BitVec.ofNat 32 v.toNat))

/-- PROGRAM_LOAD (R150). -/
def execProgramLoad (c : CoreRef) (image : List Byte) (answers : Bool) (s : State) : Host.Outcome State Fault Refusal :=
  .next (s.loadProgram (coreNum c) image answers)

end Sys2Proof.Machine
end

