-- ==== Sys2Proof/Machine/Clocks.lean ====
section
/-! DEFINITION. Clocks (R363-R384): stretch tokens and Cols, the operating point and its root steps, region stops, margin
warnings, and the reference. -/

namespace Sys2Proof.Machine

/-! ### Regions and Cols -/

/-- The region of a die that every other one shares a Col with: uncore, common, interface, interconnect (log entry 30). -/
def hubRegion (die : Nat) : Nat := if die < 4 then 9 else if die = 4 then 16 else if die < 13 then 0 else 1

/-- Index of a region in REGION_STATUS. -/
def regionIx (r : RegionRef) : Nat := r.die.val * 32 + r.region.val

/-- A region beside its status. -/
def State.region (s : State) (ix : Nat) : ClkRegion := SMap.get s.clk.regions ix ClkRegion.reset

/-- Change a region. -/
def State.modRegion (s : State) (ix : Nat) (f : ClkRegion → ClkRegion) : State :=
  { s with clk := { s.clk with regions := SMap.set s.clk.regions ix (f (s.region ix)) ClkRegion.reset } }

/-- Tokens issued on a die. -/
def State.issuedTokens (s : State) (die : Nat) : Nat := SMap.get s.clk.issued die 0

/-- Stopped. -/
def State.stopped (s : State) (ix : Nat) : Bool := s.flag REGION_STATUS_STOPPED ix

/-- A region with no clock: stopped, in shed hold, or a core gated in L1 (R370). -/
def State.noClock (s : State) (ix : Nat) : Bool :=
  s.stopped ix || decide (ix / 32 < 4)
    && (s.power.shed || decide (ix % 32 < 9) && (s.core (9 * (ix / 32) + ix % 32)).l1)

/-- One Col's occupancy, shown at its writer and its reader (R368). -/
def State.showCol (s : State) (writer reader : Nat) : State :=
  let o : Nat := (4 + ((s.region reader).applied : Int) - ((s.region writer).applied : Int)).toNat
  [writer, reader].foldl (fun s ix =>
    let s := s.put REGION_STATUS_COL_MIN ix (min o (s.get REGION_STATUS_COL_MIN ix))
    s.put REGION_STATUS_COL_MAX ix (max (min o 15) (s.get REGION_STATUS_COL_MAX ix))) s

/-- The Cols of a region, both ways. -/
def State.showCols (s : State) (ix : Nat) : State :=
  let die := ix / 32
  let hub := die * 32 + hubRegion die
  let others := if ix = hub then ((List.range (regionCount die)).map (fun r => die * 32 + r)).filter (fun x => x != hub)
    else [hub]
  others.foldl (fun s x => if s.noClock x then s else (s.showCol ix x).showCol x ix) s

/-- A region applies, or counts as applied, every token issued so far (R370). -/
def State.catchUp (s : State) (ix : Nat) : State :=
  let n := s.issuedTokens (ix / 32) - (s.region ix).applied
  (s.bump REGION_STATUS_STRETCHES ix n).modRegion ix (fun r => { r with applied := r.applied + n })

/-- A region applies one token. -/
def State.applyToken (s : State) (ix : Nat) : State :=
  if (s.region ix).applied < s.issuedTokens (ix / 32) ∧ !s.noClock ix then
    ((s.bump REGION_STATUS_STRETCHES ix 1).modRegion ix (fun r => { r with applied := r.applied + 1 })).showCols ix
  else s

/-- A new token: its region applies it at once, a region without a clock counts it as applied. -/
def State.newToken (s : State) (ix : Nat) : State :=
  let die := ix / 32
  let s := { s with clk := { s.clk with
    issued := SMap.set s.clk.issued die (s.issuedTokens die + 1) 0
    issuedAt := SMap.set s.clk.issuedAt die (s.ticks + 1) 0 } }
  let s := (List.range (regionCount die)).foldl (fun s r =>
    if s.noClock (die * 32 + r) then s.catchUp (die * 32 + r) else s) s
  (s.catchUp ix).showCols ix

/-- A droop detection (R370). -/
def State.droop (s : State) (ix : Nat) : State :=
  let die := ix / 32
  let last := SMap.get s.clk.issuedAt die 0
  if !regionExists ix || s.noClock ix then s
  else if last = 0 ∨ 24 ≤ s.ticks + 1 - last then s.newToken ix
  else if (s.region ix).applied < s.issuedTokens die then s.applyToken ix
  else (s.bump REGION_STATUS_HELD ix 1).modRegion ix (fun r => { r with held := true })

/-- A held detection once 24 cycles have passed: a new token, unless another region has issued one meanwhile, which it joins. -/
def State.retryDroop (s : State) (ix : Nat) (fires : Bool) : State :=
  if (s.region ix).held then
    let s := s.modRegion ix (fun r => { r with held := false })
    if !fires || s.noClock ix then s
    else if (s.region ix).applied < s.issuedTokens (ix / 32) then s.applyToken ix
    else s.newToken ix
  else s

/-- A clock record: class 0x0A. -/
def State.clockEvent (s : State) (code sev die unit : Nat) : State := s.raise 0x0A code sev die unit 0x3FF 0 0 0

/-- A Col reached 1 or 7 (R368). -/
def State.colAlarm (s : State) (w r : Nat) (o : Nat) : State :=
  let die := w / 32
  let hub := die * 32 + hubRegion die
  if die = r / 32 ∧ regionExists w ∧ regionExists r ∧ w ≠ r ∧ (w = hub ∨ r = hub) ∧ (o = 1 ∨ o = 7) then
    let s := [w, r].foldl (fun s ix =>
      let s := s.put REGION_STATUS_COL_MIN ix (min o (s.get REGION_STATUS_COL_MIN ix))
      let s := s.put REGION_STATUS_COL_MAX ix (max o (s.get REGION_STATUS_COL_MAX ix))
      (s.bump REGION_STATUS_RECENTRES ix 1).modRegion ix (fun x => { x with recentre := true })) s
    s.clockEvent 1 1 die (w % 32)
  else s

/-- A region stops (R375): its Cols hold, and it counts tokens as applied. -/
def State.stopRegion (s : State) (kind ix : Nat) : State :=
  ((s.catchUp ix).put REGION_STATUS_STOPPED ix 1).modRegion ix (fun r => { r with stop := kind, held := false })

/-- A stopped region runs again, its Cols at 4. -/
def State.startRegion (s : State) (ix : Nat) : State :=
  ((s.catchUp ix).put REGION_STATUS_STOPPED ix 0).modRegion ix (fun r => { r with stop := 0, recentre := false })

/-- The regions of the four compute dies. -/
def kcRegions : List Nat := (List.range 40).map (fun i => i / 10 * 32 + i % 10)

/-! ### Step counts -/

/-- The Ridge compares a die's count with its own, and aligns it (R371). -/
def State.checkCount (s : State) (die count : Nat) : State :=
  let own := s.stepCount 4
  let aligned := SMap.get s.clk.offset 4 0
  let off (o : Int) (s : State) : State := { s with clk := { s.clk with offset := SMap.set s.clk.offset die o 0 } }
  if ((count : Int) - own).natAbs ≤ 1 then off ((count : Int) - s.baseCount) s
  else (off aligned s).clockEvent 2 0 die 0xFF

/-! ### The operating point -/

/-- Root in units of 25 MHz, and DIV, of an operating point (R365, R384). -/
def pointOf (code : Nat) : Nat × Nat :=
  match code with
  | 0 => (0x60, 3)
  | 1 => (0x78, 3)
  | 2 => (0x60, 2)
  | 3 => (0x70, 2)
  | 4 => (0x80, 2)
  | _ => (0x8C, 2)

/-- The root and DIV of the compute dies. -/
def State.clockNow (s : State) : Nat × Nat := (s.get CLK_STATUS_ROOT 0, s.get CLK_STATUS_DIV 0)

/-- Is the first rate below the second? -/
def slower (a b : Nat × Nat) : Bool := decide (a.1 * b.2 < b.1 * a.2)

/-- Every compute die's reference is LOCKED. -/
def State.refLocked (s : State) : Bool := (List.range 4).all (fun d => s.get REF_STATUS_STATE d == 0)

/-- The effective power limit: PWR_LIMIT, or a lesser nonzero BMC_CAP (R486). -/
def State.powerLimit (s : State) : Nat :=
  let p := s.get PWR_CTRL_PWR_LIMIT 0
  if s.steward.cap = 0 then p else min p s.steward.cap

/-- An 8-bit temperature. -/
def temp8 (n : Nat) : Int := (BitVec.ofNat 8 n).toInt

/-- Sensor locations of the compute dies, as SENSOR_STATUS numbers them (R454, R455). -/
def kcSensors : List Nat := (List.range 40).map (fun i => i / 10 * 64 + i % 10)

/-- Working temperature of a location. -/
def State.working (s : State) (ix : Nat) : Int := temp8 (s.get SENSOR_STATUS_WORKING ix)

/-- Operating point 5 is allowed by the limits (R453). -/
def State.boostOk (s : State) : Bool :=
  s.flag PWR_CTRL_BOOST_EN 0 && !s.flag PWR_STATUS_UNDERVOLT 0
    && decide (5000 ≤ s.get PWR_STATUS_VIN 0 ∧ s.get PWR_STATUS_VIN 0 ≤ 6000)
    && decide (s.power.avg + 300 ≤ s.powerLimit)
    && kcSensors.all (fun x => decide (s.working x ≤ temp8 (s.get THERM_CTRL_BOOST_MAX 0)))

/-- The point the controller heads for. Where point 5 is not allowed, a rate above point 4 steps down to it (R380, R453), and any other
holds its raise and stays where it is (R379). -/
def State.goal (s : State) : Nat × Nat :=
  let t := s.get CLK_POINT_TARGET 0
  if t = 5 ∧ !(s.refLocked && s.boostOk) then (if slower (pointOf 4) s.clockNow then pointOf 4 else s.clockNow) else pointOf t

/-- A margin warning stands on a compute die (R377). -/
def State.marginHolds (s : State) : Bool := kcRegions.any (fun ix => s.flag REGION_STATUS_WARN ix)

/-- The limits hold every raising step (R437, R452, R456), and so does shedding (R43, R458). -/
def State.limitHolds (s : State) : Bool :=
  s.power.shed || s.flag PWR_STATUS_LIMITING 0 || s.flag PWR_STATUS_TRIPPED 0 || s.flag PWR_STATUS_UNDERVOLT 0
    || s.flag THERM_STATUS_THROTTLING 0 || s.flag THERM_STATUS_STRETCHING 0

/-- The move to the goal would raise the rate and is held. -/
def State.raiseHeld (s : State) : Bool := slower s.clockNow s.goal && (s.marginHolds || s.limitHolds)

/-- CLK_STATUS of the four dies shows where they stand (R384). -/
def State.showClock (s : State) : State :=
  let raise := slower s.clockNow s.goal
  let five := s.get CLK_POINT_TARGET 0 == 5
  let held := s.raiseHeld
  let moving := kcRegions.any (fun ix => s.stopped ix) || s.clk.floorStop || (s.clockNow != s.goal && !held)
  let code := match (List.range 6).find? (fun c => pointOf c == s.clockNow) with
    | some c => if moving then 7 else c
    | none => 7
  (List.range 4).foldl (fun s' d =>
    ((((s'.put CLK_STATUS_POINT d code).put CLK_STATUS_MOVING d (if moving then 1 else 0)).put CLK_STATUS_HELD_MARGIN d
      (if raise && s.marginHolds then 1 else 0)).put CLK_STATUS_HELD_REF d (if five && !s.refLocked then 1 else 0)).put
      CLK_STATUS_HELD_LIMIT d (if (raise && s.limitHolds) || (five && !s.boostOk) then 1 else 0)) s

/-- One root step of the four dies. -/
def State.setRoot (s : State) (root : Nat) : State :=
  ((List.range 4).foldl (fun s d => (s.put CLK_STATUS_ROOT d root).put CLK_STATUS_STEPS d (s.get CLK_STATUS_STEPS d + 1))
    s).showClock

/-- A released root step towards the goal (R372-R374): a change of DIV is made at 2.4 GHz, where it waits for its stop. -/
def State.rootStep (s : State) : State :=
  let n := s.clockNow
  let g := s.goal
  if n = g ∨ s.raiseHeld ∨ s.clk.floorStop ∨ kcRegions.any (fun ix => s.stopped ix) then s.showClock
  else if n.2 = g.2 then s.setRoot (if n.1 < g.1 then n.1 + 1 else n.1 - 1)
  else if 0x60 < n.1 then s.setRoot (n.1 - 1)
  else s.showClock

/-- One lowering step, whatever the target (R374): at 2.4 GHz and DIV 2 it is the region stop that sets DIV 3. -/
def State.lowerStep (s : State) : State :=
  let n := s.clockNow
  if 0x60 < n.1 then s.setRoot (n.1 - 1)
  else if n.2 = 2 then { s with clk := { s.clk with floorStop := true } }.showClock
  else s.showClock

/-- A divider change is due and nothing holds it (R373, R374, R379). -/
def State.dividerDue (s : State) : Bool :=
  let n := s.clockNow
  n.1 == 0x60 && (s.clk.floorStop && n.2 == 2 || (n.2 != s.goal.2 && !s.raiseHeld))
    && !kcRegions.any (fun ix => s.stopped ix)

/-- The region stop of a divider change, on all four compute dies at one count (R373). -/
def State.dividerStop (s : State) : State :=
  if s.dividerDue then
    let div := if s.clk.floorStop then 3 else s.goal.2
    let s := { s with clk := { s.clk with floorStop := false } }
    let s := (List.range 4).foldl (fun s d => s.put CLK_STATUS_DIV d div) s
    (kcRegions.foldl (fun s ix => s.stopRegion 1 ix) s).showClock
  else s

/-- A CLK_POINT write (R379). -/
def State.writeClkPoint (s : State) (v : Word) : State := (s.writeReg .CLK_POINT 0 v).showClock

/-! ### Margin warnings -/

/-- The warning of a die whose root does not move raises its supply by 10 mV, up to 30 mV (R456). -/
def State.raiseSupply (s : State) (die : Nat) : State :=
  { s with power := { s.power with supply := SMap.set s.power.supply die (min 30 (SMap.get s.power.supply die 0 + 10)) 0 } }

/-- A margin warning (R376, R377). -/
def State.warnMargin (s : State) (ix margin : Nat) : State :=
  if regionExists ix ∧ !s.flag REGION_STATUS_WARN ix then
    let s := ((s.put REGION_STATUS_WARN ix 1).put REGION_STATUS_MARGIN ix margin).bump REGION_STATUS_MARGIN_WARNS ix 1
    let s := s.clockEvent 3 0 (ix / 32) (ix % 32)
    if ix / 32 < 4 then s.showClock else s.raiseSupply (ix / 32)
  else s

/-- A margin warning lasts (R377). -/
def State.marginLasts (s : State) (ix : Nat) : State :=
  if regionExists ix ∧ s.flag REGION_STATUS_WARN ix then
    if ix / 32 < 4 then s.lowerStep else s.raiseSupply (ix / 32)
  else s

/-! ### The reference -/

/-- A die's reference is lost (R380, R382). -/
def State.loseReference (s : State) (die : Nat) : State :=
  let st := s.get REF_STATUS_STATE die
  if st = 0 then (((s.put REF_STATUS_STATE die 1).bump REF_STATUS_LOSSES die 1).clockEvent 4 1 die 0xFF).showClock
  else if st = 3 then
    ((((s.put REF_STATUS_STATE die 2).bump REF_STATUS_LOSSES die 1).clockEvent 4 1 die 0xFF).clockEvent 5 1 die 0xFF).showClock
  else s

/-! ### Meanings -/

/-- DROOP_DETECT (R369, R370). -/
def execDroopDetect (r : RegionRef) (s : State) : Host.Outcome State Fault Refusal := .next (s.droop (regionIx r))

/-- STRETCH_TOKEN_APPLY (R370). -/
def execStretchTokenApply (r : RegionRef) (s : State) : Host.Outcome State Fault Refusal :=
  .next (if regionExists (regionIx r) then s.applyToken (regionIx r) else s)

/-- HELD_DETECTION_RETRY (R370). -/
def execHeldDetectionRetry (r : RegionRef) (fires : Bool) (s : State) : Host.Outcome State Fault Refusal :=
  .next (s.retryDroop (regionIx r) fires)

/-- COL_ALARM (R368). -/
def execColAlarm (writer reader : RegionRef) (occupancy : Fin 9) (s : State) : Host.Outcome State Fault Refusal :=
  .next (s.colAlarm (regionIx writer) (regionIx reader) occupancy.val)

/-- STEP_COUNT_CHECK (R371). -/
def execStepCountCheck (die : Fin 14) (count : BitVec 64) (s : State) : Host.Outcome State Fault Refusal :=
  .next (if die.val = 4 then s else s.checkCount die.val count.toNat)

/-- ROOT_STEP (R372). -/
def execRootStep (s : State) : Host.Outcome State Fault Refusal := .next s.rootStep

/-- REGION_STOP (R375): of one region for a recentre, or of all compute regions for a divider change. -/
def execRegionStop (r : Option RegionRef) (s : State) : Host.Outcome State Fault Refusal :=
  .next (match r with
    | none => s.dividerStop
    | some r => if (s.region (regionIx r)).recentre ∧ !s.stopped (regionIx r) then s.stopRegion 2 (regionIx r) else s)

/-- REGION_RESTART (R375): what waited for the region is served. -/
def execRegionRestart (r : Option RegionRef) (s : State) : Host.Outcome State Fault Refusal :=
  .next (match r with
    | none => ((kcRegions.foldl (fun s ix => if (s.region ix).stop = 1 then s.startRegion ix else s) s).showClock).releaseWake 38
    | some r => if (s.region (regionIx r)).stop = 2 then ((s.startRegion (regionIx r)).showClock).releaseWake 38 else s)

/-- CLK_POINT_WRITE (R379). -/
def execClkPointWrite (v : BitVec 64) (s : State) : Host.Outcome State Fault Refusal := .next (s.writeClkPoint v)

/-- MARGIN_WARNING (R376). -/
def execMarginWarning (r : RegionRef) (margin : BitVec 8) (s : State) : Host.Outcome State Fault Refusal :=
  .next (s.warnMargin (regionIx r) margin.toNat)

/-- MARGIN_WARNING_CLEAR (R376). -/
def execMarginWarningClear (r : RegionRef) (margin : BitVec 8) (s : State) : Host.Outcome State Fault Refusal :=
  let ix := regionIx r
  .next (if regionExists ix ∧ s.flag REGION_STATUS_WARN ix then
    ((s.put REGION_STATUS_WARN ix 0).put REGION_STATUS_MARGIN ix margin.toNat).showClock else s)

/-- MARGIN_LOWER_STEP (R377). -/
def execMarginLowerStep (r : RegionRef) (s : State) : Host.Outcome State Fault Refusal := .next (s.marginLasts (regionIx r))

/-- REFERENCE_LOSS (R380). -/
def execReferenceLoss (die : Fin 14) (s : State) : Host.Outcome State Fault Refusal := .next (s.loseReference die.val)

/-- REFERENCE_FALLBACK (R381). -/
def execReferenceFallback (die : Fin 14) (s : State) : Host.Outcome State Fault Refusal :=
  .next (if s.get REF_STATUS_STATE die.val = 1 then
    ((s.put REF_STATUS_STATE die.val 2).clockEvent 5 1 die.val 0xFF).showClock else s)

/-- REFERENCE_RELOCK (R382). -/
def execReferenceRelock (die : Fin 14) (s : State) : Host.Outcome State Fault Refusal :=
  .next (if s.get REF_STATUS_STATE die.val = 1 ∨ s.get REF_STATUS_STATE die.val = 2 then
    (s.put REF_STATUS_STATE die.val 3).showClock else s)

/-- REFERENCE_RELOCK_COMPLETE (R382). -/
def execReferenceRelockComplete (die : Fin 14) (s : State) : Host.Outcome State Fault Refusal :=
  .next (if s.get REF_STATUS_STATE die.val = 3 then
    ((s.put REF_STATUS_STATE die.val 0).clockEvent 6 0 die.val 0xFF).showClock else s)

end Sys2Proof.Machine
end

