-- ==== Sys2Proof/Machine/Flit.lean ====
section
/-! DEFINITION. Flits (R312-R317) and their checks; sites' pools and credits (R271). -/

namespace Sys2Proof.Machine

/-- Bytes of a flit. -/
def flitBytes (f : Flit) : List Byte := toLE 128 f.toNat

/-- A field of the header (R313). -/
def Flit.field (f : Flit) (hi lo : Nat) : Nat := bits hi lo f.toNat

def flitKind (f : Flit) : Nat := Flit.field f 63 62
def flitVc (f : Flit) : Nat := Flit.field f 61 60
def flitSites (f : Flit) : Nat := Flit.field f 59 44
def flitTag (f : Flit) : Nat := Flit.field f 43 32
def flitFirst (f : Flit) : Bool := f.getLsbD 31
def flitLast (f : Flit) : Bool := f.getLsbD 30
def flitLseq (f : Flit) : Nat := Flit.field f 29 20
def flitAck (f : Flit) : Nat := Flit.field f 19 10
def flitCvc (f : Flit) : Nat := Flit.field f 9 8
def flitCcnt (f : Flit) : Nat := Flit.field f 7 4

/-- `n` payload bytes from payload byte `o`, as a number. -/
def flitPayload (f : Flit) (o n : Nat) : Nat := f.toNat / 2 ^ (64 + 8 * o) % 2 ^ (8 * n)

/-- A flit with its CRC (R312). -/
def sealFlit (body : Nat) : Flit :=
  let b := body % 2 ^ 960
  BitVec.ofNat 1024 (b + (crc64 (toLE 120 b)).toNat * 2 ^ 960)

/-- The CRC is good, and no reserved bit or KIND is used (R312, R313). -/
def flitGood (f : Flit) : Bool :=
  crc64 (toLE 120 f.toNat) == BitVec.ofNat 64 (f.toNat / 2 ^ 960) && Flit.field f 3 0 == 0 && flitKind f != 3

/-- A flit sent anew on the Saddle: link fields zero and a fresh CRC (R312, R313). -/
def onSaddle (f : Flit) : Flit := sealFlit (f.toNat / 2 ^ 30 * 2 ^ 30)

/-- The identity flit of launch ring `k` of a plane (R284, R314). -/
def identityFlit (plane k : Nat) : Flit := sealFlit ((plane * 16 + k) * 2 ^ 64)

/-- Class of a CTRL, MGMT, RESP or REQ flit: its share of a pool (R271). -/
def poolSize (c : Nat) : Nat := if c < 2 then 16 else 224

/-- A Casob port's receive buffer for a channel (R318). -/
def bufferSize (c : Nat) : Nat := if c < 2 then 16 else 192

/-! ### Planes and pairs -/

/-- STATE of a plane: 0 DARK, 1 TUNING, 2 SERVICE, 3 DOUBLED, 4 WITHDRAWN. -/
def State.planeState (s : State) (p : Nat) : Nat := s.get PLANE_STATUS_STATE p

/-- The plane carries data: it is in service or doubled. -/
def State.planeUp (s : State) (p : Nat) : Bool := s.planeState p == 2 || s.planeState p == 3

/-- The pair from site `a` to site `b`. -/
def State.pair (s : State) (a b : Nat) : SadPair := SMap.get s.ridge.pairs (a * 16 + b) SadPair.reset

/-- Change a pair. -/
def State.modPair (s : State) (a b : Nat) (f : SadPair → SadPair) : State :=
  { s with ridge := { s.ridge with pairs := SMap.set s.ridge.pairs (a * 16 + b) (f (s.pair a b)) SadPair.reset } }

/-- Source site of a landing ring (R37, R258). -/
def sourceOf (site k : Nat) : Nat := (site + 16 - k) % 16

/-- Index of a ring in RING_STATUS. -/
def ringIx (site plane : Nat) (landing : Bool) (k : Nat) : Nat :=
  ((site * 40 + plane) * 2 + (if landing then 1 else 0)) * 16 + k

/-- OCCUPANCY: flits held in all pools of a landing. -/
def State.showOccupancy (s : State) (site : Nat) : State :=
  s.put LAND_STATUS_OCCUPANCY site (((List.range 16).map (fun a => (s.pair a site).pool.length)).sum)

/-- A launch holds a credit for a class of a pair: what it has sent and not had back leaves room in the pool (R264, R271). -/
def State.credit (s : State) (a b c : Nat) : Bool :=
  decide (((s.pair a b).sent.filter (fun y => flitVc y.flit == c)).length < poolSize c) && s.sitePresent b

/-- Destination sites of a flit from site `a`: never its own, λ0 carries no data (R37). -/
def flitDests (a : Nat) (f : Flit) : List Nat := (List.range 16).filter (fun b => b != a && (flitSites f).testBit b)

/-! ### Casob port ends -/

/-- Index of a port in CASOB_STATUS. -/
def portIx (p : PortRef) : Nat := p.site.val * 32 + p.port.val

/-- Casob ports of a site's die (table "Saddle sites"). -/
def State.portCount (s : State) (site : Nat) : Nat :=
  if !s.sitePresent site then 0
  else if site < 4 then 24 else if site < 12 then 10 else if site = 12 then 2 else if site = 13 then 8 else 0

/-- The port exists. -/
def State.portExists (s : State) (ix : Nat) : Bool := decide (ix % 32 < s.portCount (ix / 32))

/-- STATE of port `ix`. -/
def State.portState (s : State) (ix : Nat) : Nat := s.get CASOB_STATUS_STATE ix

/-- The port carries flits: ACTIVE or REMAPPING. -/
def State.portUp (s : State) (ix : Nat) : Bool := s.portExists ix && (s.portState ix == 2 || s.portState ix == 3)

/-- One end of port `ix`: 0 the die's, 1 the Ridge's. -/
def State.portEnd (s : State) (ix e : Nat) : PortEnd := SMap.get s.ridge.ends (ix * 2 + e) PortEnd.reset

/-- Change a port end. -/
def State.modEnd (s : State) (ix e : Nat) (f : PortEnd → PortEnd) : State :=
  { s with ridge := { s.ridge with ends := SMap.set s.ridge.ends (ix * 2 + e) (f (s.portEnd ix e)) PortEnd.reset } }

/-- A port beside its status. -/
def State.portX (s : State) (ix : Nat) : PortX := SMap.get s.ridge.portXs ix PortX.reset

/-- Change a port. -/
def State.modPort (s : State) (ix : Nat) (f : PortX → PortX) : State :=
  { s with ridge := { s.ridge with portXs := SMap.set s.ridge.portXs ix (f (s.portX ix)) PortX.reset } }

/-- One of four numbers changed. -/
def bumpAt (l : List Nat) (i : Nat) (f : Nat → Nat) : List Nat := l.set i (f (l.getD i 0))

/-- A received flit leaves its buffer: its channel's FREED advances and a credit is owed (R318, R319). One received before flit sync
counts no more. -/
def PortEnd.free (x : PortEnd) (f : Flit) : PortEnd :=
  if x.old.contains f then { x with old := x.old.erase f }
  else { x with buffer := x.buffer.erase f, freed := bumpAt x.freed (flitVc f) (fun n => (n + 1) % 2 ^ 32),
                owed := bumpAt x.owed (flitVc f) (· + 1) }

/-- The lowest channel that is owed a credit (DESIGN CHOICE, log entry 66). -/
def PortEnd.owedVc (x : PortEnd) : Nat := ((List.range 4).find? (fun v => decide (0 < x.owed.getD v 0))).getD 0

/-- A flit as an end sends it on its hop: LSEQ, ACK, CVC and CCNT as they stand, and a new CRC (R312, R313). -/
def PortEnd.stamp (x : PortEnd) (f lseq : Nat) : Flit :=
  sealFlit (setBits 29 4 f
    (lseq * 2 ^ 16 + (x.expect + 1023) % 1024 * 2 ^ 6 + x.owedVc * 2 ^ 4 + min 15 (x.owed.getD x.owedVc 0)))

/-- The credits a flit returns are owed no more (R319). -/
def PortEnd.returned (x : PortEnd) (f : Flit) : PortEnd := { x with owed := bumpAt x.owed (flitCvc f) (fun n => n - flitCcnt f) }

/-- An end has sent a DATA flit: its LSEQ, the replay buffer and the credit (R318, R320). -/
def PortEnd.record (x : PortEnd) (f : Flit) : PortEnd :=
  { x.returned f with next := (x.next + 1) % 1024, unacked := x.unacked ++ [(x.next, f)],
                      used := bumpAt x.used (flitVc f) (fun n => (n + 1) % 2 ^ 32) }

/-- An end sends a DATA flit. -/
def PortEnd.push (x : PortEnd) (f : Flit) : PortEnd := x.record (x.stamp f.toNat x.next)

/-- An end puts an IDLE or LINK flit on its lanes; the flit is not sequenced (R314). -/
def PortEnd.put (x : PortEnd) (body : Nat) : PortEnd :=
  let f := x.stamp body 0
  { x.returned f with wire := x.wire ++ [f] }

/-- An IDLE flit, with the four FREED counts (R314, R319). -/
def PortEnd.putIdle (x : PortEnd) : PortEnd := x.put (((List.range 4).map (fun v => x.freed.getD v 0 * 2 ^ (64 + 32 * v))).sum)

/-- A LINK flit: 1 NAK with the expected LSEQ, 2 SYNC, 3 REMAP with its mask, 4 RETRAIN (R314). -/
def PortEnd.putLink (x : PortEnd) (cmd arg : Nat) : PortEnd :=
  x.put (2 * 2 ^ 62 + cmd * 2 ^ 64 + (if cmd = 1 then arg * 2 ^ 80 else arg * 2 ^ 96))

/-- An end may send a DATA flit of channel `v` (R318, R320). -/
def PortEnd.maySend (x : PortEnd) (v : Nat) : Bool :=
  decide (x.unacked.length < 256) && decide ((x.used.getD v 0 + 2 ^ 32 - x.back.getD v 0) % 2 ^ 32 < bufferSize v)

/-- Planes that carry a stripe position now: one in service, or two that double it (R260, R265). -/
def State.carriers (s : State) (pos : Nat) : List Nat :=
  (List.range 40).filter (fun p => s.planeUp p && s.get PLANE_STATUS_POSITION p == pos)

/-- The planes among them that a pair does not skip (R288). -/
def SadPair.planes (x : SadPair) (l : List Nat) : List Nat := l.filter (fun p => !x.skip.contains p)

/-- A flit reaches its site's launch and waits for its position; one that names no other site goes nowhere (R37). -/
def State.toLaunch (s : State) (a : Nat) (w : Waiting) : State :=
  if (flitDests a w.flit).isEmpty then
    match w.port with
    | some ix => s.modEnd ix 1 (·.free w.flit)
    | none => s
  else { s with ridge := { s.ridge with launch := SMap.set s.ridge.launch a (SMap.get s.ridge.launch a [] ++ [w]) [] } }

/-! ### Messages in flits (R315, R316) -/

/-- Payload bytes of a flit. -/
def payloadBytes (f : Flit) : List Byte := ((flitBytes f).drop 8).take 112

/-- Split bytes into payloads of 112. -/
def payloads : Nat → List Byte → List (List Byte)
  | 0, _ => []
  | n + 1, l => if l.length ≤ 112 then [l] else l.take 112 :: payloads n (l.drop 112)

/-- The flits of a message to a set of sites, their link fields zero. -/
def messageFlits (vc sites tag : Nat) (b : List Byte) : List Flit :=
  let l := payloads (b.length + 1) b
  (List.range l.length).map (fun i =>
    sealFlit (2 ^ 62 + vc * 2 ^ 60 + sites * 2 ^ 44 + tag * 2 ^ 32 + (if i = 0 then 2 ^ 31 else 0)
      + (if i + 1 = l.length then 2 ^ 30 else 0) + leNat (l.getD i []) * 2 ^ 64))

/-- The message a flit belongs to, at site `b` from site `a`. -/
def msgKey (a b : Nat) (f : Flit) : MsgKey := ⟨b, a, flitVc f, flitTag f⟩

/-- A whole message: one of REQ or CTRL with a reserved code is answered REFUSED with TARGET_CLASS (R316); any other waits for its
own command. -/
def State.wholeMessage (s : State) (k : MsgKey) (b : List Byte) : State :=
  let opc := leNat (b.take 1)
  if (k.vc = 0 ∨ k.vc = 3) ∧ (opc = 0 ∨ 11 < opc) then
    s.send (.response ⟨BitVec.ofNat 12 (leNat ((b.drop 4).take 2)), BitVec.ofNat 32 (leNat ((b.drop 8).take 4)), .refused, 3, false, []⟩)
  else { s with ridge := { s.ridge with inbox := s.ridge.inbox ++ [⟨k, b⟩] } }

/-- A flit joins its message at a die, a router, the firewall or a unit of site `b`; the last completes it (R315). -/
def State.takeIn (s : State) (a b : Nat) (f : Flit) : State :=
  let k := msgKey a b f
  let part := (match s.ridge.parts.find? (fun x => x.1 == k) with
    | some x => if flitFirst f then [] else x.2
    | none => []) ++ [f]
  let rest := s.ridge.parts.filter (fun x => x.1 != k)
  if flitLast f then
    { s with ridge := { s.ridge with parts := rest } }.wholeMessage k (part.map payloadBytes).flatten
  else { s with ridge := { s.ridge with parts := rest ++ [(k, part)] } }

/-- A flit with its SITES field replaced. -/
def withSites (f : Flit) (sites : Nat) : Flit := sealFlit (setBits 59 44 f.toNat sites)

end Sys2Proof.Machine
end

