-- ==== Sys2Proof/Machine/Casob.lean ====
section
/-! DEFINITION. Casob ports: credits (R318, R319), replay (R320), training (R322-R324), remapping (R325), partial resets
(R326), and admission (R328-R330). -/

namespace Sys2Proof.Machine

/-! ### Reception -/

/-- The later of two 32-bit totals (R319). -/
def later (a b : Nat) : Nat := if (b + 2 ^ 32 - a) % 2 ^ 32 < 2 ^ 31 then b else a

/-- An accepted flit's ACK frees the replay buffer up to it, and its CCNT returns credits (R319, R320). -/
def PortEnd.absorb (x : PortEnd) (f : Flit) : PortEnd :=
  let acked := x.unacked.any (fun u => u.1 == flitAck f)
  let rest := ((x.unacked.dropWhile (fun u => u.1 != flitAck f)).drop 1)
  { x with
    unacked := if acked then rest else x.unacked,
    again := if acked then (0, 0) else x.again,
    back := bumpAt x.back (flitCvc f) (fun n => (n + flitCcnt f) % 2 ^ 32) }

/-- A damaged flit, or one ahead of its turn: discarded, and NAK names the expected LSEQ, at most one at a time (R320). -/
def State.nakFor (s : State) (ix e : Nat) : State :=
  s.modEnd ix e (fun x => if x.nak then x else { x with nak := true }.putLink 1 x.expect)

/-- A DATA flit accepted in order. A die's end, and the firewall at site 13, take it into its message at once; the Ridge's end passes
it to the launch (R312, R315). -/
def State.casobAccept (s : State) (ix e : Nat) (f : Flit) : State :=
  let site := ix / 32
  let s := s.modEnd ix e (fun x =>
    let x := x.absorb f
    { x with expect := (x.expect + 1) % 1024, nak := false, buffer := x.buffer ++ [f] })
  if e = 1 ∧ site ≠ 13 then s.toLaunch site ⟨f, false, some ix⟩
  else
    let from_ := if e = 1 then 13 else ((List.range 16).find? (fun a => (flitSites f).testBit a)).getD site
    (s.modEnd ix e (·.free f)).takeIn from_ site f

/-- A DATA flit at end `e` of port `ix` (R320). One that the other end has no record of was sent just now; without a credit, or with
256 flits unacknowledged, nothing can have been sent (R318). -/
def State.casobData (s : State) (ix e : Nat) (f : Flit) : State :=
  let y := s.portEnd ix (1 - e)
  let new := flitLseq f == y.next
  if !s.portUp ix then s
  else if !flitGood f then s.nakFor ix e
  else if flitKind f ≠ 1 ∨ (new ∧ !y.maySend (flitVc f)) then s
  else
    let s := if new then s.modEnd ix (1 - e) (·.record f) else s
    let ahead := (flitLseq f + 1024 - (s.portEnd ix e).expect) % 1024
    if ahead = 0 then s.casobAccept ix e f
    else if ahead < 512 then s.nakFor ix e
    else s

/-- An IDLE or LINK flit reaches the end it was sent to. -/
def State.offWire (s : State) (ix e : Nat) (f : Flit) : State := s.modEnd ix (1 - e) (fun x => { x with wire := x.wire.erase f })

/-- An IDLE flit (R319). -/
def State.casobIdle (s : State) (ix e : Nat) (f : Flit) : State :=
  if !s.portUp ix then s
  else if !flitGood f then s.nakFor ix e
  else if flitKind f ≠ 0 then s
  else (s.offWire ix e f).modEnd ix e (fun x =>
    let x := x.absorb f
    { x with back := (List.range 4).map (fun v => later (x.back.getD v 0) (flitPayload f (4 * v) 4)) })

/-! ### Training -/

/-- A stored calibration set lets a port start warm (R322). -/
def State.hasSet (s : State) (ix : Nat) : Bool := !(SMap.get s.ridge.items (2 * 4096 + ix) CalItem.reset).sets.isEmpty

/-- A port begins training: both ends stop what they were at, and adapt from the stored set where there is one (R322). -/
def State.trainStart (s : State) (ix st : Nat) : State :=
  let quiet (x : PortEnd) : PortEnd := { x with nak := false, command := none, again := (0, 0), wire := [] }
  (((s.put CASOB_STATUS_STATE ix st).modEnd ix 0 quiet).modEnd ix 1 quiet).modPort ix (fun x => { x with warm := s.hasSet ix })

/-- End `e` commands a retraining, and repeats RETRAIN until the other end answers in kind (R314, R322). -/
def State.commandRetrain (s : State) (ix e : Nat) : State :=
  (s.trainStart ix 1).modEnd ix e (fun x => { x with command := some (4, 0) }.putLink 4 0)

/-- An end after flit sync: LSEQ from 0, full credits, FREED from 0; unacknowledged flits are sent again (log entry 27), and SYNC is
repeated until it is answered (R314, R322). -/
def PortEnd.sync (x : PortEnd) : PortEnd :=
  let l := x.unacked.map (·.2)
  (l.foldl (fun (y : PortEnd) f => y.push f)
    { PortEnd.reset with old := x.old ++ x.buffer, command := some (2, 0) }).putLink 2 0

/-- Lanes of one direction that its receiver, which failed those of `bad`, can use (R324, R329). -/
def State.usableLanes (s : State) (bad : Nat) : List Nat :=
  (List.range (if s.featureOff 6 then 16 else 17)).filter (fun i => !bad.testBit i)

/-- Width code of an end that failed the lanes of a mask: 3 for 16, 2 for 8, 1 for 4, 0 none (R324). -/
def State.widthOf (s : State) (bad : Nat) : Nat :=
  let n := (s.usableLanes bad).length
  if 16 ≤ n then 3 else if 8 ≤ n then 2 else if 4 ≤ n then 1 else 0

/-- The physical lanes of logical lanes 0 up in the direction that end `e` receives: the usable ones in ascending order, as many as
the port is wide (R324). -/
def State.laneMap (s : State) (ix e : Nat) : List Nat :=
  let w := s.get CASOB_STATUS_WIDTH ix
  let bad := s.get (if e = 1 then CASOB_STATUS_BAD_RIDGE else CASOB_STATUS_BAD_DIE) ix
  (s.usableLanes bad).take (if w = 0 then 0 else 2 ^ (w + 1))

/-- The two ends' widths. -/
def State.widths (s : State) (ix : Nat) : Nat × Nat :=
  (s.widthOf (s.get CASOB_STATUS_BAD_DIE ix), s.widthOf (s.get CASOB_STATUS_BAD_RIDGE ix))

/-- A Casob record: class 0x08, die 4, SRC_UNIT the port. -/
def State.casobEvent (s : State) (code sev ix : Nat) (d0 d1 : Nat) : State :=
  s.raise 0x08 code sev (siteDie (ix / 32)) (ix % 32) 0x3FF (BitVec.ofNat 64 d0) (BitVec.ofNat 64 d1) 0

/-- The port goes DOWN. -/
def State.portDown (s : State) (ix : Nat) : State := (s.put CASOB_STATUS_STATE ix 0).put CASOB_STATUS_WIDTH ix 0

/-- A training block's field (R323): `n` bytes at `o`. -/
def blockField (b : BitVec 160) (o n : Nat) : Nat := b.toNat / 2 ^ (8 * o) % 2 ^ (8 * n)

/-- A training block that passes its CRC and bears MARK. -/
def blockGood (b : BitVec 160) : Bool :=
  (crc32c (toLE 16 b.toNat)).toNat == blockField b 16 4 && blockField b 0 2 == 0xCA5B

/-- A die advertised `lvl` and `features` on a port (R328): admitted by its first port, refused below A2; a later port must
agree. None: the port stays DOWN. -/
def State.admitPort (s : State) (ix lvl features : Nat) : Option State :=
  let site := ix / 32
  match SMap.get s.ridge.firstCaps site none with
  | some c => if c = (lvl, features) then some s else none
  | none =>
    let s := { s with ridge := { s.ridge with firstCaps := SMap.set s.ridge.firstCaps site (some (lvl, features)) none } }
    let s := (s.put DIE_CAPS_LEVEL site lvl).put DIE_CAPS_FEATURES site features
    if lvl < 2 then some s else some (s.put DIE_CAPS_ADMITTED site 1)

/-- A die whose LEVEL is below A2 (R328): its site is marked absent. -/
def State.refuseDie (s : State) (ix : Nat) : State :=
  let site := ix / 32
  let s := s.put SITE_MAP_PRESENT 0 (s.get SITE_MAP_PRESENT 0 &&& (0xFFFF ^^^ 2 ^ site))
  s.raise 0x08 5 2 (siteDie site) 0xFF 0x3FF 0 0 0

/-- A readmitted die must keep the package's level and features (R328). -/
def State.readmitOk (s : State) (site lvl features : Nat) : Bool :=
  !s.ridge.readmit.contains site ||
    (decide (s.get PKG_CAPS_LEVEL 0 ≤ lvl) && (s.get PKG_CAPS_FEATURES 0 &&& features) == s.get PKG_CAPS_FEATURES 0)

/-- The ends fix width and mapping (R324, R326, R327): STATE ACTIVE, or DOWN with no width. `part`: an end's block bears PARTIAL. -/
def State.fixWidth (s : State) (ix dieBad ridgeBad : Nat) (part : Bool) : State :=
  let cal := s.portState ix = 4
  let after := (s.portX ix).part || part
  let s := (s.put CASOB_STATUS_BAD_DIE ix dieBad).put CASOB_STATUS_BAD_RIDGE ix ridgeBad
  let w := s.widths ix
  let s := s.put CASOB_STATUS_WIDTH ix (min w.1 w.2)
  if min w.1 w.2 = 0 then s.put CASOB_STATUS_STATE ix 0
  else
    let s := ((s.put CASOB_STATUS_STATE ix 2).modEnd ix 0 (·.sync)).modEnd ix 1 (·.sync)
    if w.1 ≠ w.2 ∧ (after ∨ cal) then
      let s := s.casobEvent 4 1 ix dieBad ridgeBad
      let s := s.put CASOB_STATUS_DISAGREE ix (min 3 (s.get CASOB_STATUS_DISAGREE ix + 1))
      if cal then
        let n := (s.portX ix).runs + 1
        if 3 ≤ n then (s.modPort ix (fun x => { x with runs := n, gaveUp := true })).put CASOB_STATUS_RETRAIN_PENDING ix 0
        else (s.modPort ix (fun x => { x with runs := n })).put CASOB_STATUS_RETRAIN_PENDING ix (if (s.portX ix).gaveUp then 0 else 1)
      else (s.modPort ix (fun x => { x with part := false })).put CASOB_STATUS_RETRAIN_PENDING ix
        (if (s.portX ix).gaveUp then 0 else 1)
    else
      let s := s.modPort ix (fun x => { x with part := false, runs := 0 })
      if cal then (s.put CASOB_STATUS_RETRAIN_PENDING ix 0).put CASOB_STATUS_DISAGREE ix 0 else s

/-- Training ends with the two ends' blocks (R322-R324, R328). -/
def State.trainDone (s : State) (ix : Nat) (die ridge : BitVec 160) : State :=
  let site := ix / 32
  let lvl := blockField die 0xC 1
  let features := blockField die 8 4
  if !s.portExists ix ∨ (s.portState ix ≠ 1 ∧ s.portState ix ≠ 4) ∨ (s.portX ix).held ∨ !blockGood die ∨ !blockGood ridge then s
  else if blockField die 2 2 ≠ ix then (s.portDown ix).casobEvent 2 1 ix 0 0
  else if !s.readmitOk site lvl features then (s.portDown ix).modPort ix (fun x => { x with held := true })
  else
    match s.admitPort ix lvl features with
    | none => (s.portDown ix).casobEvent 2 1 ix 0 0
    | some s =>
      if lvl < 2 then (s.portDown ix).refuseDie ix
      else s.fixWidth ix (blockField die 4 4 % 2 ^ 17) (blockField ridge 4 4 % 2 ^ 17)
        (blockField die 0xD 1 % 2 == 1 || blockField ridge 0xD 1 % 2 == 1)

/-- Width recomputed in service (R325): one that fell is recorded and made due. -/
def State.rewidth (s : State) (ix : Nat) : State :=
  let old := s.get CASOB_STATUS_WIDTH ix
  let w := min (s.widths ix).1 (s.widths ix).2
  let s := (s.put CASOB_STATUS_WIDTH ix w).put CASOB_STATUS_STATE ix (if w = 0 then 0 else 2)
  if w < old then
    (s.casobEvent 3 1 ix 0 0).put CASOB_STATUS_RETRAIN_PENDING ix (if (s.portX ix).gaveUp then 0 else 1)
  else s

/-! ### LINK commands -/

/-- A LINK flit carrying `cmd` arrives good at end `e`: its ACK and credits are taken, then `f` runs (R314, R319). -/
def State.linkFlit (s : State) (ix e cmd : Nat) (f : Flit) (act : State → State) : State :=
  if !s.portExists ix then s
  else if !flitGood f then (if s.portUp ix then s.nakFor ix e else s)
  else if flitKind f ≠ 2 ∨ flitPayload f 0 1 ≠ cmd then s
  else act ((s.offWire ix e f).modEnd ix e (·.absorb f))

/-- The flits from an LSEQ on, sent again with ACK, CVC and CCNT as they stand (R320). -/
def PortEnd.replay (x : PortEnd) (n : Nat) : PortEnd :=
  (x.unacked.dropWhile (fun u => u.1 != n)).foldl (fun (y : PortEnd) u =>
    let f := y.stamp u.2.toNat u.1
    { y.returned f with unacked := y.unacked ++ [(u.1, f)] }) { x with unacked := [] }

/-- NAK (R320): the sender resends from the named LSEQ; eight replays of one LSEQ in a row retrain. -/
def State.casobNak (s : State) (ix e n : Nat) : State :=
  let x := s.portEnd ix e
  if !s.portUp ix ∨ !(x.unacked.any (fun u => u.1 == n) || n == x.next) then s
  else
    let c := if x.again.1 = n then x.again.2 + 1 else 1
    let s := (s.bump CASOB_STATUS_REPLAYS ix 1).modEnd ix e (fun x => { x.replay n with again := (n, c) })
    if 8 ≤ c then s.commandRetrain ix e else s

/-- SYNC answers a repeated SYNC (R314, R322). -/
def State.casobSync (s : State) (ix e : Nat) : State :=
  s.modEnd ix e (fun x => { x with command := if x.command.map (·.1) = some 2 then none else x.command })

/-- RETRAIN (R314, R322): an answer ends the command; a command is answered in kind and both ends retrain. -/
def State.casobRetrain (s : State) (ix e : Nat) : State :=
  if (s.portEnd ix e).command.map (·.1) = some 4 then s.modEnd ix e (fun x => { x with command := none })
  else if s.portUp ix then (s.trainStart ix 1).modEnd ix e (·.putLink 4 0)
  else s

/-- REMAP with the other end's failed lanes (R325): an answer ends the remapping; a request is answered in kind. -/
def State.casobRemap (s : State) (ix e mask : Nat) : State :=
  if !s.portUp ix then s
  else
    let s := s.put (if e = 1 then CASOB_STATUS_BAD_DIE else CASOB_STATUS_BAD_RIDGE) ix mask
    if (s.portEnd ix e).command.map (·.1) = some 3 then (s.modEnd ix e (fun x => { x with command := none })).rewidth ix
    else
      (s.put CASOB_STATUS_STATE ix 3).modEnd ix e
        (·.putLink 3 (s.get (if e = 1 then CASOB_STATUS_BAD_RIDGE else CASOB_STATUS_BAD_DIE) ix))

/-- A lane fails in service (R325). -/
def State.laneFail (s : State) (ix e lane : Nat) : State :=
  if !s.portUp ix then s
  else
    let f := if e = 1 then CASOB_STATUS_BAD_RIDGE else CASOB_STATUS_BAD_DIE
    let m := s.get f ix ||| 2 ^ lane
    ((s.put f ix m).put CASOB_STATUS_STATE ix 3).modEnd ix e (fun x =>
      { x with command := some (3, m) }.putLink 3 m)

/-- A CASOB_SEL write (R19, R330): a reserved SITE keeps SITE, and a PORT that the site's die does not have keeps PORT; RETRAIN acts on
the named port. -/
def State.writeCasobSel (s : State) (v : Word) : State :=
  let site := bits 8 5 v.toNat
  let port := bits 4 0 v.toNat
  let s := if site < 14 then s.put CASOB_SEL_SITE 0 site else s
  let ok := decide (port < s.portCount (s.get CASOB_SEL_SITE 0))
  let s := if ok then s.put CASOB_SEL_PORT 0 port else s
  let s := if site < 14 ∧ ok then s else s.regEventAt 1 .CASOB_SEL 0 v
  if bits 15 15 v.toNat = 0 then s
  else
    let ix := s.get CASOB_SEL_SITE 0 * 32 + s.get CASOB_SEL_PORT 0
    if s.portState ix = 1 ∨ s.portState ix = 4 then s.regEventAt 3 .CASOB_SEL 0 v
    else if (s.portX ix).held then s
    else s.commandRetrain ix 1

/-- A die leaves a reset of its own side (R326, R328). -/
def State.partialReset (s : State) (site : Nat) : State :=
  let s := (List.range (s.portCount site)).foldl (fun s p =>
    let ix := site * 32 + p
    let s := ((s.put CASOB_STATUS_BAD_DIE ix 0).put CASOB_STATUS_BAD_RIDGE ix 0).put CASOB_STATUS_WIDTH ix 0
    let s := ((s.modEnd ix 0 (fun _ => PortEnd.reset)).modEnd ix 1 (fun x => { x with command := none, nak := false, wire := [] })).modPort ix
      (fun x => { x with part := true, warm := s.hasSet ix })
    s.put CASOB_STATUS_STATE ix (if (s.portX ix).held then 0 else 1)) s
  let s := s.put DIE_CAPS_ADMITTED site 0
  { s with ridge := { s.ridge with
    firstCaps := SMap.set s.ridge.firstCaps site none none,
    readmit := if s.ridge.readmit.contains site then s.ridge.readmit else s.ridge.readmit ++ [site] } }

/-- PKG_CAPS at the end of start-up (R328). -/
def State.fixCaps (s : State) : State :=
  let dies := (List.range 14).filter (fun d => s.flag DIE_CAPS_ADMITTED d)
  match dies with
  | [] => s
  | d0 :: _ =>
    let lvl := dies.foldl (fun m d => min m (s.get DIE_CAPS_LEVEL d)) (s.get DIE_CAPS_LEVEL d0)
    let features := dies.foldl (fun m d => m &&& s.get DIE_CAPS_FEATURES d) 0xFFFFFFFF
    let mixed := dies.any (fun d => s.word .DIE_CAPS d != s.word .DIE_CAPS d0)
    ((s.put PKG_CAPS_LEVEL 0 lvl).put PKG_CAPS_FEATURES 0 features).put PKG_CAPS_MIXED_REV 0 (if mixed then 1 else 0)

/-! ### Meanings -/

/-- The end that receives: the Ridge's or the die's. -/
def endOf (ridge : Bool) : Nat := if ridge then 1 else 0

/-- CASOB_DATA_FLIT (R320). -/
def execCasobDataFlit (p : PortRef) (ridge : Bool) (flit : BitVec 1024) (s : State) : Host.Outcome State Fault Refusal :=
  .next (s.casobData (portIx p) (endOf ridge) flit)

/-- NAK (R320). -/
def execNak (p : PortRef) (ridge : Bool) (flit : BitVec 1024) (s : State) : Host.Outcome State Fault Refusal :=
  let ix := portIx p
  let e := endOf ridge
  .next (s.linkFlit ix e 1 flit (fun s => s.casobNak ix e (flitPayload flit 2 2 % 1024)))

/-- SYNC (R314, R322). -/
def execSync (p : PortRef) (ridge : Bool) (flit : BitVec 1024) (s : State) : Host.Outcome State Fault Refusal :=
  let ix := portIx p
  let e := endOf ridge
  .next (s.linkFlit ix e 2 flit (fun s => s.casobSync ix e))

/-- REMAP (R325). -/
def execRemap (p : PortRef) (ridge : Bool) (flit : BitVec 1024) (s : State) : Host.Outcome State Fault Refusal :=
  let ix := portIx p
  let e := endOf ridge
  .next (s.linkFlit ix e 3 flit (fun s => s.casobRemap ix e (flitPayload flit 4 4 % 2 ^ 17)))

/-- RETRAIN (R322): it ends a NAK and a REMAP (R320). -/
def execRetrain (p : PortRef) (ridge : Bool) (flit : BitVec 1024) (s : State) : Host.Outcome State Fault Refusal :=
  let ix := portIx p
  .next (s.linkFlit ix (endOf ridge) 4 flit (fun s => s.casobRetrain ix (endOf ridge)))

/-- An end repeats the commands that are not answered, a NAK first (R314, R320). -/
def PortEnd.sendCommands (x : PortEnd) : PortEnd :=
  let x := if x.nak then x.putLink 1 x.expect else x
  match x.command with
  | some c => x.putLink c.1 c.2
  | none => x

/-- LINK_COMMAND_REPEAT (R314): an unanswered command is sent again. -/
def execLinkCommandRepeat (p : PortRef) (ridge : Bool) (s : State) : Host.Outcome State Fault Refusal :=
  .next (s.modEnd (portIx p) (endOf ridge) (·.sendCommands))

/-- CASOB_IDLE_FLIT (R319). -/
def execCasobIdleFlit (p : PortRef) (ridge : Bool) (flit : BitVec 1024) (s : State) :
    Host.Outcome State Fault Refusal :=
  .next (s.casobIdle (portIx p) (endOf ridge) flit)

/-- FORCED_IDLE_FLIT (R319). -/
def execForcedIdleFlit (p : PortRef) (ridge : Bool) (s : State) : Host.Outcome State Fault Refusal :=
  .next (if s.portUp (portIx p) then s.modEnd (portIx p) (endOf ridge) (·.putIdle) else s)

/-- TRAINING_COMPLETE (R322-R324). -/
def execTrainingComplete (p : PortRef) (die ridge : BitVec 160) (s : State) : Host.Outcome State Fault Refusal :=
  .next (s.trainDone (portIx p) die ridge)

/-- TRAINING_TIMEOUT (R322). -/
def execTrainingTimeout (p : PortRef) (s : State) : Host.Outcome State Fault Refusal :=
  let ix := portIx p
  .next (if s.portExists ix ∧ (s.portState ix = 1 ∨ s.portState ix = 4) then (s.portDown ix).casobEvent 1 1 ix 0 0 else s)

/-- PORT_RETRY_TIMER (R322). -/
def execPortRetryTimer (p : PortRef) (s : State) : Host.Outcome State Fault Refusal :=
  let ix := portIx p
  .next (if s.portExists ix ∧ s.portState ix = 0 ∧ !(s.portX ix).held then s.trainStart ix 1 else s)

/-- CASOB_RETRAIN_WRITE (R330): a CASOB_SEL write. -/
def execCasobRetrainWrite (v : BitVec 64) (s : State) : Host.Outcome State Fault Refusal :=
  .next (s.writeCasobSel (v ||| 0x8000))

/-- LANE_FAIL (R325). -/
def execLaneFail (p : PortRef) (ridge : Bool) (lane : Fin 17) (s : State) : Host.Outcome State Fault Refusal :=
  .next (s.laneFail (portIx p) (endOf ridge) lane.val)

/-- PARTIAL_RESET (R326). -/
def execPartialReset (site : Fin 14) (s : State) : Host.Outcome State Fault Refusal := .next (s.partialReset site.val)

end Sys2Proof.Machine
end

