-- ==== Sys2Proof/Machine/Tuning.lean ====
section
/-! DEFINITION. Rings (R281-R288), the calibration framework (R290-R296), and the plane states they move (R262, R279). -/

namespace Sys2Proof.Machine

/-! ### Planes -/

/-- A loop test that runs on a plane ends with NO_LIGHT when the plane leaves light (R278). -/
def State.endLoops (s : State) (p : Nat) : State :=
  (List.range 16).foldl (fun s i =>
    if s.get LOOP_TEST_STATUS i = 1 ∧ s.get LOOP_TEST_PLANE i = p then s.put LOOP_TEST_STATUS i 3 else s) s

/-- A plane takes a state; outside DOUBLED it has no partner. -/
def State.setPlane (s : State) (p st : Nat) : State :=
  let s := (s.put PLANE_STATUS_STATE p st).put PLANE_STATUS_PARTNER p 0x3F
  if st = 0 then s.endLoops p else s

/-- A plane leaves a doubled position to its partner (R265, R309). -/
def State.leaveDouble (s : State) (p st : Nat) : State :=
  let q := s.get PLANE_STATUS_PARTNER p
  let s := if s.planeState p = 3 ∧ q < 40 then s.setPlane q 2 else s
  s.setPlane p st

/-! ### Calibration items -/

/-- An item. -/
def State.item (s : State) (id : Nat) : CalItem := SMap.get s.ridge.items id CalItem.reset

/-- Change an item. -/
def State.modItem (s : State) (id : Nat) (f : CalItem → CalItem) : State :=
  { s with ridge := { s.ridge with items := SMap.set s.ridge.items id (f (s.item id)) CalItem.reset } }

/-- The class's items (R290, R327, R349, R378, R390, R455). -/
def State.itemExists (s : State) (id : Nat) : Bool :=
  let i := id % 4096
  match id / 4096 with
  | 0 => decide (i < 40)
  | 1 => decide (i < 8)
  | 2 => s.portExists i
  | 3 => decide (i < 128)
  | 4 => regionExists i
  | 5 => decide (i < 32)
  | 6 => decide (i % 64 < sensorCount (i / 64))
  | _ => false

/-- Bit of BANDGAP_STATUS of a die numbered as in R378; the link engines share the Ridge's. -/
def dieBit (die : Nat) : Option Nat :=
  if die < 4 then some (die + 1) else if die = 4 ∨ die = 14 then some 0 else if die < 14 then some die else none

/-- The band-gap bit an item answers to: its die's (R291); laser modules have none. -/
def itemBit (id : Nat) : Option Nat :=
  let i := id % 4096
  match id / 4096 with
  | 0 => some 0
  | 2 => if i / 32 = 13 then some 14 else dieBit (siteDie (i / 32))
  | 3 => dieBit (5 + i / 16)
  | 4 => dieBit (i / 32)
  | 5 => some 0
  | 6 => dieBit (i / 64)
  | _ => none

/-- Run time in µs (R295, R327, R349, R378, R390, R455); no rule gives class 1 one. -/
def runTime (id : Nat) : Nat :=
  match id / 4096 with
  | 0 => 60
  | 2 => 400
  | 3 => 80
  | 4 => 20
  | 5 => 1000
  | 6 => 50
  | _ => 0

/-- LAST_TEMP as a temperature in °C. -/
def State.lastTemp (s : State) (id : Nat) : Int := (BitVec.ofNat 8 (s.get CAL_ITEM_STATUS_LAST_TEMP id)).toInt

/-- Difference of a temperature from LAST_TEMP, both in units of 0.25 °C. -/
def State.drift (s : State) (id : Nat) (temp : Int) : Nat := (temp - 4 * s.lastTemp id).natAbs

/-- An item is due by age (R293). -/
def State.agedBy (s : State) (id n : Nat) : Bool :=
  decide ((s.word .CAL_ITEM_TIME id).toNat + n * s.get CAL_CTRL_MAX_AGE_S 0 * 1000000 < s.uptime)

/-- An item is due at a temperature in units of 0.25 °C (R293); a Casob port also by RETRAIN_PENDING (R327), a stack layer by its margin monitor. -/
def State.isDue (s : State) (id : Nat) (temp : Int) : Bool :=
  let x := s.item id
  decide (s.get CAL_CTRL_TRIG 0 ≤ s.drift id temp) || decide (x.sets.length < 2)
    || x.sets.all (fun c => decide (temp + 40 < c.temp)) || x.sets.all (fun c => decide (c.temp + 40 < temp)) || s.agedBy id 1
    || (id / 4096 == 2 && s.flag CASOB_STATUS_RETRAIN_PENDING (id % 4096)) || x.forced

/-- A due item is forced (R293). -/
def State.isForced (s : State) (id : Nat) (temp : Int) : Bool :=
  (s.item id).forced || decide (s.get CAL_CTRL_FORCE 0 ≤ s.drift id temp)

/-- µs left of the open gap. -/
def State.gapLeft (s : State) : Nat :=
  match s.ridge.gap with
  | some g => g.1 + g.2 - s.uptime
  | none => 0

/-- A calibration record (R296); DATA0 gives the cause of PREEMPTED, 1 a laser warm-up, 2 a power warning. -/
def State.calEvent (s : State) (cause : Nat) : State := s.raise 0x06 5 0 4 0xFF 0x3FF (BitVec.ofNat 64 cause) 0 0

/-- A ring beside its status. -/
def State.ringX (s : State) (i : Nat) : RingX := SMap.get s.ridge.rings i RingX.reset

/-- Change a ring. -/
def State.modRing (s : State) (i : Nat) (f : RingX → RingX) : State :=
  { s with ridge := { s.ridge with rings := SMap.set s.ridge.rings i (f (s.ringX i)) RingX.reset } }

/-- A ring waits to be searched, or is being searched. -/
def State.inSearch (s : State) (i : Nat) : Bool := s.get RING_STATUS_STATE i == 1 || s.ridge.searches.contains i

/-- The rings of the same end and site that heat ring `i` and are heated by it: bus positions k - 1 and k + 1, planes p - 1 and p + 1
(R282). -/
def ringNeighbours (i : Nat) : List Nat :=
  let k := i % 16
  let p := i / 32 % 40
  [i - k + (k + 15) % 16, i - k + (k + 1) % 16] ++ (if 0 < p then [i - 32] else []) ++ (if p < 39 then [i + 32] else [])

/-- The landing ring that a ring's check is made at: itself, or the ring that drops a launch ring's line (R258, R286). -/
def checkedAt (i : Nat) : Nat :=
  if i / 16 % 2 = 1 then i else ringIx ((i / 1280 + i % 16) % 16) (i / 32 % 40) true (i % 16)

/-- The identity check at a landing begins afresh (R286). -/
def State.freshCheck (s : State) (i : Nat) : State :=
  (s.modRing i (fun x => { x with hits := 0, low := 0 })).modRing (checkedAt i) (fun x => { x with hits := 0 })

/-- A search starts, unless a neighbour is being searched: then the ring waits (R282). -/
def State.searchRing (s : State) (i : Nat) : State :=
  let s := s.freshCheck i
  if (ringNeighbours i).any (fun j => s.get RING_STATUS_STATE j == 1) then
    { s with ridge := { s.ridge with searches := if s.ridge.searches.contains i then s.ridge.searches else s.ridge.searches ++ [i] } }
  else s.put RING_STATUS_STATE i 1

/-- A search has ended: rings that waited for it are searched. -/
def State.nextSearch (s : State) : State :=
  let l := s.ridge.searches
  l.foldl (fun s i => s.searchRing i) { s with ridge := { s.ridge with searches := [] } }

/-- A pair skips a plane's position, or takes it again (R287, R288). -/
def State.skipPlane (s : State) (a b p : Nat) (skip : Bool) : State :=
  s.modPair a b (fun x => { x with
    skip := if skip then (if x.skip.contains p then x.skip else x.skip ++ [p]) else x.skip.erase p })

/-- A ring is marked FAILED (R287, R288). -/
def State.failRing (s : State) (site i : Nat) : State :=
  if s.get RING_STATUS_STATE i = 4 then s
  else
    (((s.put RING_STATUS_STATE i 4).bump TUNE_STATUS_RINGS_FAILED 0 1).raise 0x06 2 1 4 site 0x3FF 0 0 0).nextSearch

/-- A step of the table "Re-search after a mismatch" begins at landing ring `k` of site `d` on plane `p` (R287); step 5
marks both rings FAILED. -/
def State.research (s : State) (d p k step : Nat) : State :=
  let land := ringIx d p true k
  let a := sourceOf d k
  let launch := ringIx a p false k
  if 5 ≤ step then ((s.modRing land (fun x => { x with step := 0 })).failRing d land).failRing a launch
  else
    let s := s.modRing land (fun x => { x with step := step })
    (s.bump TUNE_STATUS_RESEARCHES 0 1).searchRing (if step % 2 = 1 then land else launch)

/-- Mismatches that waited for their plane are taken through R287, their pairs skipping the position (R295, R301). -/
def State.serveLate (s : State) (p : Nat) : State :=
  let l := s.ridge.late.filter (fun x => x.2.1 == p)
  l.foldl (fun s x => (s.skipPlane (sourceOf x.1 x.2.2) x.1 p true).research x.1 p x.2.2 1)
    { s with ridge := { s.ridge with late := s.ridge.late.filter (fun x => x.2.1 != p) } }

/-- A plane's run is over: it returns to its position, if its laser still feeds it (R295, R307). -/
def State.returnPlane (s : State) (p : Nat) : State :=
  let st := s.get LASER_GROUP_STATE (p / 8)
  if s.planeState p = 4 ∧ (st = 3 ∨ st = 5) then (s.setPlane p 2).serveLate p else s

/-- A run ends with a result code (R296). -/
def State.endRun (s : State) (id result cause : Nat) : State :=
  let s := { s with ridge := { s.ridge with running := s.ridge.running.erase id } }
  let s := s.modItem id (fun x => { x with overdue := false, forced := false })
  let s := ((s.bump CAL_ITEM_STATUS_RUNS id 1).put CAL_ITEM_STATUS_RESULT id result).put CAL_ITEM_STATUS_RUNNING id 0
  let s := s.setWord .CAL_ITEM_TIME id (BitVec.ofNat 64 s.uptime)
  let s := if result = 1 then s else (s.bump CAL_ITEM_STATUS_FAILS id 1).calEvent cause
  if id < 40 then s.returnPlane id else s

/-- The standby group's planes go DARK and LG4 COLD when a refresh ends (R295). -/
def State.endRefresh (s : State) (id : Nat) : State :=
  if 32 ≤ id ∧ id < 40 ∧ s.get LASER_GROUP_STATE 4 = 2 ∧ s.get LASER_GROUP_STANDS_FOR 4 = 0xF then
    ((List.range 8).foldl (fun s i => s.setPlane (32 + i) 0) s).put LASER_GROUP_STATE 4 1
  else s

/-- A handover of the plane's group is under way, so no run starts on it (R301). -/
def State.handingOver (s : State) (p : Nat) : Bool :=
  s.get LASER_GROUP_STANDS_FOR 4 == p / 8 && (s.get LASER_GROUP_STATE 4 == 2 || s.get LASER_GROUP_STATE 4 == 4)

/-- May the scheduler start this item now (R294)? -/
def State.mayRun (s : State) (id : Nat) (temp : Int) : Bool :=
  s.flag CAL_CTRL_EN 0 && s.itemExists id && !s.flag CAL_ITEM_STATUS_RUNNING id && s.isDue id temp
  && (match itemBit id with | some b => !(s.word .BANDGAP_STATUS 0).getLsbD b | none => true)
  && (if id < 32 ∨ (id < 40 ∧ s.planeState id = 2) then
        s.planeState id == 2 && !s.ridge.running.any (fun r => decide (r < 40) && s.planeState r == 4) && !s.handingOver id
      else if id < 40 then s.get LASER_GROUP_STATE 4 == 1
      else if id / 4096 = 3 then
        (List.range 4).all (fun j => s.chanState (id % 4096 / 16) (4 * (id % 16) + j) != 2)
      else true)
  && ((decide (32 ≤ id) && decide (id < 40) && s.planeState id != 2)
      || (s.ridge.running.isEmpty && decide (runTime id ≤ s.gapLeft) && s.ridge.gap.isSome)
      || (s.isForced id temp && (s.ridge.lastForced == 0 || decide (s.ridge.lastForced - 1 + 10000 ≤ s.uptime))))

/-- A refresh of a standby plane: it waits for no gap (R295). -/
def State.refreshes (s : State) (id : Nat) : Bool := decide (32 ≤ id ∧ id < 40) && s.planeState id != 2

/-- Of two due items the first goes before the second (R294): a forced one, the larger temperature difference, the older last run, the
lower ID. -/
def State.goesBefore (s : State) (a : Nat) (ta : Int) (b : Nat) (tb : Int) : Bool :=
  let time (id : Nat) : Nat := (s.word .CAL_ITEM_TIME id).toNat
  if s.isForced a ta != s.isForced b tb then s.isForced a ta
  else if s.drift a ta ≠ s.drift b tb then decide (s.drift b tb < s.drift a ta)
  else if time a ≠ time b then decide (time a < time b)
  else decide (a < b)

/-- It is the item's turn among those that may run at the temperatures last told to the scheduler (R294). -/
def State.hasTurn (s : State) (id : Nat) (temp : Int) : Bool :=
  s.refreshes id || s.ridge.items.all (fun (y : Nat × CalItem) =>
    match y.2.temp with
    | some t => y.1 == id || s.refreshes y.1 || !s.mayRun y.1 t || s.goesBefore id temp y.1 t
    | none => true)

/-- A pod link leaves the routes until a swap brings it back (R390, R396). -/
def State.outOfRoutes (s : State) (x : Nat) : State :=
  let l := SMap.get s.podnet.links x LinkX.reset
  { s with podnet := { s.podnet with links := SMap.set s.podnet.links x { l with routed := false } LinkX.reset } }

/-- A run starts after the band-gap comparison (R291, R294): references more than 0.5% apart end it with BANDGAP. -/
def State.startRun (s : State) (id : Nat) (temp : Int) (primary check : Nat) : State :=
  if !s.mayRun id temp || !s.hasTurn id temp then s
  else match itemBit id with
    | some b =>
      if primary < 200 * (max primary check - min primary check) then
        ((s.setWord .BANDGAP_STATUS 0 (s.word .BANDGAP_STATUS 0 ||| BitVec.ofNat 64 (2 ^ b))).raise 0x06 4 1
          (if b = 0 then 4 else if b < 5 then b - 1 else b) 0xFF 0x3FF 0 0 0).endRun id 3 0
      else go b
    | none => go 0
where
  go (_ : Nat) : State :=
    let forced := s.isForced id temp
    let inGap := s.ridge.running.isEmpty && decide (runTime id ≤ s.gapLeft) && s.ridge.gap.isSome
    let s := { s with ridge := { s.ridge with
      running := s.ridge.running ++ [id],
      lastForced := if forced && !inGap then s.uptime + 1 else s.ridge.lastForced } }
    let s := (s.modItem id (fun x => { x with temp := some temp })).put CAL_ITEM_STATUS_RUNNING id 1
    let s := if forced then s.bump CAL_ITEM_STATUS_FORCED id 1 else s
    if id < 40 ∧ s.planeState id = 2 then s.setPlane id 4
    else if id < 40 then
      ((List.range 8).foldl (fun s i => s.setPlane (32 + i) 1) s).put LASER_GROUP_STATE 4 2
    else if id / 4096 = 2 then
      (s.modItem id (fun x => { x with width := s.get CASOB_STATUS_WIDTH (id % 4096) })).trainStart (id % 4096) 4
    else if id / 4096 = 5 ∧ s.get POD_LINK_STATUS_STATE (id % 4096) = 2 then
      (s.put POD_LINK_STATUS_STATE (id % 4096) 1).outOfRoutes (id % 4096)
    else s

/-- A new set is stored (R292). -/
def CalItem.storeSet (x : CalItem) (c : CalSet) : CalItem :=
  let near (y : CalSet) : Nat := (y.temp - c.temp).natAbs
  let best := x.sets.foldl (fun b y => match b with
    | none => some y
    | some z => if near y < near z then some y else some z) (none : Option CalSet)
  let oldest := x.sets.foldl (fun b y => match b with
    | none => some y
    | some z => if y.stored < z.stored then some y else some z) (none : Option CalSet)
  match best with
  | some y =>
    if near y ≤ 20 then { x with sets := x.sets.erase y ++ [c] }
    else if x.sets.length < 4 then { x with sets := x.sets ++ [c] }
    else match oldest with
      | some z => { x with sets := x.sets.erase z ++ [c] }
      | none => x
  | none => { x with sets := [c] }

/-- A run completes (R295, R296): the results of an OK run are stored; none means that the subsystem reported a failure, as
does a Casob port that came back narrower or DOWN (R327). -/
def State.completeRun (s : State) (id : Nat) (temp : Int) (values : Option (List Nat)) : State :=
  if !s.ridge.running.contains id then s
  else
    let badPort := id / 4096 == 2 && (s.portState (id % 4096) != 2
      || decide (s.get CASOB_STATUS_WIDTH (id % 4096) < (s.item id).width))
      || id / 4096 == 5 && s.get POD_LINK_STATUS_STATE (id % 4096) != 2
    match values with
    | some v =>
      if badPort then s.endRun id 5 0
      else
        let s := s.modItem id (fun x => x.storeSet ⟨temp, s.uptime, v⟩)
        let s := s.put CAL_ITEM_STATUS_SETS id (s.item id).sets.length
        let s := s.put CAL_ITEM_STATUS_LAST_TEMP id (BitVec.ofInt 8 (temp / 4)).toNat
        (s.endRefresh id).endRun id 1 0
    | none => (s.endRefresh id).endRun id 5 0

/-- A plane run not checked by 54 µs is abandoned (R295). -/
def State.abandonRun (s : State) (p : Nat) : State :=
  if s.ridge.running.contains p then (s.endRefresh p).endRun p 2 0 else s

/-- Running items that a cause ends early (R296): 1 a laser warm-up, 2 a power warning. -/
def State.preempt (s : State) (which : Nat → Bool) (cause : Nat) : State :=
  (s.ridge.running.filter which).foldl (fun s id => (s.endRefresh id).endRun id 4 cause) s

/-- The value of an item at a temperature, as a fraction (R292): between the two sets that bracket it, or from the two
nearest. -/
def CalItem.value (x : CalItem) (temp : Int) (i : Nat) : Int × Nat :=
  let v (c : CalSet) : Int := (c.values.getD i 0 : Nat)
  let pick (l : List CalSet) (better : CalSet → CalSet → Bool) : Option CalSet :=
    l.foldl (fun b y => match b with | none => some y | some z => if better y z then some y else some z) none
  let line (a b : CalSet) : Int × Nat :=
    if b.temp = a.temp then (v a, 1)
    else if b.temp < a.temp then (v b * (a.temp - temp) + v a * (temp - b.temp), (a.temp - b.temp).natAbs)
    else (v a * (b.temp - temp) + v b * (temp - a.temp), (b.temp - a.temp).natAbs)
  let below := pick (x.sets.filter (fun c => decide (c.temp ≤ temp))) (fun y z => decide (z.temp < y.temp))
  let above := pick (x.sets.filter (fun c => decide (temp < c.temp))) (fun y z => decide (y.temp < z.temp))
  match below, above with
  | some a, some b => line a b
  | none, none => (0, 1)
  | some a, none =>
    match pick (x.sets.erase a) (fun y z => decide (z.temp < y.temp)) with
    | some b => line a b
    | none => (v a, 1)
  | none, some b =>
    match pick (x.sets.erase b) (fun y z => decide (y.temp < z.temp)) with
    | some a => line a b
    | none => (v b, 1)

/-! ### Rings -/

/-- Where the results of ring `i` stand in its plane's item: lock point, tuning efficiency, and the coefficients C toward
its four neighbours (R282, R290; the order is the model's, log entry 28). -/
def ringSlot (site : Nat) (landing : Bool) (k j : Nat) : Nat :=
  ((site * 2 + (if landing then 1 else 0)) * 16 + k) * 6 + j

/-- Neighbours of ring `i` (R282), with the places of their coefficients in the item. -/
def neighbours (i : Nat) : List (Nat × Nat) :=
  let p := i / 32 % 40
  (ringNeighbours i).zip ([2, 3] ++ (if 0 < p then [4] else []) ++ (if p < 39 then [5] else []))

/-- A heater changes, and each neighbour's by −C × ΔP / 256 in the same update (R282). -/
def State.setHeater (s : State) (r : RingRef) (code : Nat) (temp : Int) : State :=
  let site := r.site.val
  let i := ringIx site r.plane.val r.landing r.index.val
  let dp : Int := (code : Int) - (s.get RING_STATUS_HEATER i : Int)
  let s := s.put RING_STATUS_HEATER i code
  (neighbours i).foldl (fun s n =>
    let c := (s.item r.plane.val).value temp (ringSlot site r.landing r.index.val n.2)
    let d : Int := (-(c.1 * dp)).tdiv (256 * c.2)
    s.put RING_STATUS_HEATER n.1 (min 65535 ((s.get RING_STATUS_HEATER n.1 : Int) + d).toNat)) s

/-- The crossing nearest the design code (R281): the lower of two equally near ones (log entry 28). -/
def nearest (design : Int × Nat) (l : List Nat) : Option Nat :=
  let away (c : Nat) : Nat := ((c : Int) * design.2 - design.1).natAbs
  l.foldl (fun b c => match b with | none => some c | some x => if away c < away x then some c else some x) none

/-- A FAILED ring is searched again in a start-up (R288): the count of rings FAILED now falls. -/
def State.unfail (s : State) (i : Nat) : State :=
  if s.get RING_STATUS_STATE i = 4 then s.put TUNE_STATUS_RINGS_FAILED 0 (s.get TUNE_STATUS_RINGS_FAILED 0 - 1) else s

/-- A search ends (R281): the ring locks on its crossing and is checked. A FAILED ring stays so until the next start-up (R288); a ring 0
without a crossing is FAILED at once, for no identity reaches it (DESIGN CHOICE, log entry 28). -/
def State.ringSearched (s : State) (r : RingRef) (temp : Int) (crossings : List Nat) : State :=
  let i := ringIx r.site.val r.plane.val r.landing r.index.val
  if !s.sitePresent r.site.val ∨ s.planeState r.plane.val = 0 ∨ (s.get RING_STATUS_STATE i = 4 ∧ s.get TUNE_STATUS_PHASE 0 = 6) then s
  else if r.index.val = 0 ∧ crossings.isEmpty then (s.bump RING_STATUS_SEARCHES i 1).failRing r.site.val i
  else
    let design := (s.item r.plane.val).value temp (ringSlot r.site.val r.landing r.index.val 0)
    let s := match nearest design crossings with | some c => s.setHeater r c temp | none => s
    let s := ((s.unfail i).bump RING_STATUS_SEARCHES i 1).put RING_STATUS_STATE i 2
    ({ s with ridge := { s.ridge with searches := s.ridge.searches.erase i } }.freshCheck i).nextSearch

/-- A mismatch on a plane in a calibration run, or on a standby's plane before it enters service, waits (R295, R301). -/
def State.waitsLate (s : State) (p : Nat) : Bool :=
  s.ridge.running.contains p || (decide (32 ≤ p) && s.planeState p == 1 && s.get LASER_GROUP_STATE 4 == 2)

/-- A mismatch at landing ring `k` of site `d` on plane `p` (R286, R287). While the plane is DOUBLED its partner keeps the
position and no pair skips (R309). -/
def State.mismatch (s : State) (d p k : Nat) : State :=
  let i := ringIx d p true k
  let s := (s.bump TUNE_STATUS_MISMATCHES 0 1).raise 0x06 1 0 4 d 0x3FF (BitVec.ofNat 64 d) (BitVec.ofNat 64 p)
    (BitVec.ofNat 64 k)
  let step := (s.ringX i).step
  if s.waitsLate p then
    { s with ridge := { s.ridge with late := if s.ridge.late.contains (d, p, k) then s.ridge.late else s.ridge.late ++ [(d, p, k)] } }
  else if step ≠ 0 then s.research d p k (step + 1)
  else
    let s := if s.planeState p = 3 then s.leaveDouble p 4 else s.skipPlane (sourceOf d k) d p true
    s.research d p k 1

/-- An identity check passes at a landing ring (R286, R287). -/
def State.ringPass (s : State) (d p k : Nat) : State :=
  let i := ringIx d p true k
  let a := sourceOf d k
  let launch := ringIx a p false k
  let s := s.put RING_STATUS_STATE i 3
  let s := if s.get RING_STATUS_STATE launch = 2 then s.put RING_STATUS_STATE launch 3 else s
  (s.modRing i (fun x => { x with step := 0, hits := 0 })).skipPlane a d p false

/-- The landing ring, or the launch ring that feeds it, is being searched or waits for it: nothing is judged before it locks. -/
def State.unlocked (s : State) (d p k : Nat) : Bool := s.inSearch (ringIx d p true k) || s.inSearch (ringIx (sourceOf d k) p false k)

/-- An identity check is under way at a landing ring: it, or the launch ring that feeds it, is CHECKING. -/
def State.checking (s : State) (d p k : Nat) : Bool :=
  !s.unlocked d p k
  && (s.get RING_STATUS_STATE (ringIx d p true k) == 2 || s.get RING_STATUS_STATE (ringIx (sourceOf d k) p false k) == 2)

/-- A landing ring compares an idle flit that passed its CRC (R286). -/
def State.identity (s : State) (d p k : Nat) (f : Flit) : State :=
  let i := ringIx d p true k
  let st := s.get RING_STATUS_STATE i
  let ok := flitPayload f 0 2 == p * 16 + k
  if s.checking d p k then
    if ok then
      if 3 ≤ (s.ringX i).hits then s.ringPass d p k else s.modRing i (fun x => { x with hits := x.hits + 1 })
    else s.mismatch d p k
  else if st = 3 ∧ !s.unlocked d p k then (if ok then s else s.mismatch d p k)
  else s

/-- A tracking update (R283): 16 in a row below half the locked level lose the lock, handled as a mismatch. -/
def State.track (s : State) (r : RingRef) (heater : Nat) (temp : Int) (low : Bool) : State :=
  let i := ringIx r.site.val r.plane.val r.landing r.index.val
  if s.get RING_STATUS_STATE i ≠ 3 then s
  else
    let s := s.setHeater r heater temp
    let n := if low then (s.ringX i).low + 1 else 0
    let s := s.modRing i (fun x => { x with low := n })
    if n < 16 then s
    else
      let s := s.modRing i (fun x => { x with low := 0 })
      let d := if r.landing then r.site.val else (r.site.val + r.index.val) % 16
      s.mismatch d r.plane.val r.index.val

/-! ### Meanings -/

/-- An identity flit falls due at a launch ring of a present site (R285). A plane in TUNING, whose positions carry nothing else, sends it
at once; on one in service it goes at the pair's next position of the plane, after a replay and ahead of CTRL. -/
def State.identityDue (s : State) (a p k : Nat) : State :=
  let st := s.planeState p
  let b := (a + k) % 16
  if !s.sitePresent a ∨ k = 0 then s
  else if st = 1 then s.modRing (ringIx a p false k) (fun x => { x with sent := s.ticks * 35 / 512 + 1 })
  else if st = 2 ∨ st = 3 then s.modPair a b (fun x => { x with due := if x.due.contains p then x.due else x.due ++ [p] })
  else s

/-- IDENTITY_FLIT_DUE (R285). -/
def execIdentityFlitDue (site : Fin 16) (plane : Fin 40) (lambda : Fin 16) (s : State) :
    Host.Outcome State Fault Refusal :=
  .next (s.identityDue site.val plane.val lambda.val)

/-- IDLE_FLIT (R263, R286): one that fails its CRC is counted and judged no further. -/
def execIdleFlit (site : Fin 16) (plane : Fin 40) (lambda : Fin 16) (flit : BitVec 1024) (s : State) :
    Host.Outcome State Fault Refusal :=
  if !s.sitePresent site.val ∨ lambda.val = 0 ∨ s.planeState plane.val = 0 then .next s
  else if !flitGood flit then
    .next ((s.bump PLANE_STATUS_FLIT_ERRORS plane.val 1).bump LAND_STATUS_REPLAYS site.val 1)
  else if flitKind flit ≠ 0 then .next s
  else .next (s.identity site.val plane.val lambda.val flit)

/-- IDENTITY_TIMEOUT (R286): counts as a mismatch, or fails the check after a lock. -/
def execIdentityTimeout (site : Fin 16) (plane : Fin 40) (lambda : Fin 16) (s : State) :
    Host.Outcome State Fault Refusal :=
  let st := s.get RING_STATUS_STATE (ringIx site.val plane.val true lambda.val)
  .next (if lambda.val ≠ 0 ∧ (s.checking site.val plane.val lambda.val
      ∨ (st = 3 ∧ s.planeUp plane.val ∧ !s.unlocked site.val plane.val lambda.val)) then
    s.mismatch site.val plane.val lambda.val else s)

/-- PLANE_STATE_CHANGE (R262, R265): a released change of a plane's state, position and partner. -/
def execPlaneStateChange (plane : Fin 40) (st : Fin 5) (position : Fin 32) (partner : Fin 40) (s : State) :
    Host.Outcome State Fault Refusal :=
  let s := (s.setPlane plane.val st.val).put PLANE_STATUS_POSITION plane.val position.val
  .next (if st.val = 3 then s.put PLANE_STATUS_PARTNER plane.val partner.val else s)

/-- RING_SEARCH_COMPLETE (R281). -/
def execRingSearchComplete (r : RingRef) (temp : Int) (crossings : List (BitVec 16)) (s : State) :
    Host.Outcome State Fault Refusal :=
  .next (s.ringSearched r temp (crossings.map BitVec.toNat))

/-- RING_TRACK_UPDATE (R283). -/
def execRingTrackUpdate (r : RingRef) (heater : BitVec 16) (temp : Int) (low : Bool) (s : State) :
    Host.Outcome State Fault Refusal :=
  .next (s.track r heater.toNat temp low)

/-- CAL_RUN_START (R291, R294). -/
def execCalRunStart (id : BitVec 16) (temp : Int) (primary check : Nat) (s : State) :
    Host.Outcome State Fault Refusal :=
  .next (s.startRun id.toNat temp primary check)

/-- CAL_RUN_COMPLETE (R296). -/
def execCalRunComplete (id : BitVec 16) (temp : Int) (values : Option (List (BitVec 16))) (s : State) :
    Host.Outcome State Fault Refusal :=
  .next (s.completeRun id.toNat temp (values.map (fun l => l.map BitVec.toNat)))

/-- CAL_RUN_TIMEOUT (R295). -/
def execCalRunTimeout (plane : Fin 40) (s : State) : Host.Outcome State Fault Refusal := .next (s.abandonRun plane.val)

/-- A CAL_GAP write (R297): opens a gap from the write, or with 0 closes it. -/
def State.writeCalGap (s : State) (v : Word) : State :=
  let n := v.toNat % 2 ^ 32
  { s with ridge := { s.ridge with gap := if n = 0 then none else some (s.uptime, n) } }

/-- CAL_GAP_WRITE (R297). -/
def execCalGapWrite (v : BitVec 64) (s : State) : Host.Outcome State Fault Refusal := .next (s.writeCalGap v)

/-- CAL_GAP_EXPIRY (R294). -/
def execCalGapExpiry (s : State) : Host.Outcome State Fault Refusal :=
  .next { s with ridge := { s.ridge with gap := none } }

/-- OVERDUE (R294): logged once for an item due by age that waited MAX_AGE_S beyond its due time. -/
def execOverdue (id : BitVec 16) (s : State) : Host.Outcome State Fault Refusal :=
  let i := id.toNat
  .next (if s.itemExists i ∧ !(s.item i).overdue ∧ !s.flag CAL_ITEM_STATUS_RUNNING i ∧ s.agedBy i 2 then
    (s.modItem i (fun x => { x with overdue := true })).raise 0x06 6 0 4 0xFF 0x3FF 0 0 0 else s)

end Sys2Proof.Machine
end

