-- ==== Sys2Proof/Machine/Saddle.lean ====
section
/-! DEFINITION. Commands of the Saddle: flits at landings (R263, R265), replay (R264), credits (R271), multicast reservation
(R269), the loop test (R277, R278), and start-up (R289). -/

namespace Sys2Proof.Machine

/-! ### Flits and credits -/

/-- A pair's failed data flit is asked for again (R263). -/
def State.askReplay (s : State) (a b place : Nat) : State :=
  s.modPair a b (fun x => { x with failed := some place, asked := true, resume := none })

/-- The failed flit and every later one of the pair, up to the first that is sent again, are discarded (R263). -/
def SadPair.discards (x : SadPair) (place : Nat) : Bool :=
  match x.failed with
  | none => false
  | some f => decide (f ≤ place) && (match x.resume with
    | none => true
    | some r => decide (place < r))

/-- A flit joins the pool in stripe order (R260). -/
def inStripe (l : List (Nat × Flit)) (y : Nat × Flit) : List (Nat × Flit) :=
  l.takeWhile (fun x => decide (x.1 ≤ y.1)) ++ y :: l.dropWhile (fun x => decide (x.1 ≤ y.1))

/-- A failed flit is counted on its plane and at its landing (R263). -/
def State.countFailure (s : State) (site p : Nat) : State :=
  (s.bump PLANE_STATUS_FLIT_ERRORS p 1).bump LAND_STATUS_REPLAYS site 1

/-- A good data flit enters its pool (R271). -/
def State.landFlit (s : State) (a b place : Nat) (f : Flit) : State :=
  (s.modPair a b (fun x => { x with pool := inStripe x.pool (place, f), landed := max x.landed (place + 1) })).showOccupancy b

/-- A flit, or the failure of one, at a position that is not doubled or whose last copy this is. -/
def State.judgeFlit (s : State) (a b place : Nat) (f : Flit) : State :=
  if flitGood f then s.landFlit a b place f else if flitKind f = 0 then s else s.askReplay a b place

/-- The flit that a launch sent to a landing in a slot on a plane, if it is still held (R264). -/
def SadPair.sentOn (x : SadPair) (slot p : Nat) : Option SentFlit :=
  x.sent.find? (fun y => y.place / 32 == slot && y.planes.contains p)

/-- The half of a doubled position whose other copy a plane brings (R265). -/
def SadPair.half (x : SadPair) (slot p : Nat) : Option HalfSeen := x.seen.find? (fun y => y.slot == slot && y.plane == p)

/-- The pair uses a plane in a slot: the plane is in service and not skipped, or the flit was sent before it left service or the pair
began to skip it (R261, R262, R288). -/
def State.usesPlane (s : State) (a b p slot : Nat) : Bool :=
  let x := s.pair a b
  (s.planeUp p && !x.skip.contains p) || (x.sentOn slot p).isSome || (x.half slot p).isSome

/-- A data flit at a landing (R262, R263, R265): it keeps the place it was sent at. Of a doubled position the first good copy lands, and
only two bad ones ask for a replay. -/
def State.saddleFlit (s : State) (b p k slot : Nat) (f : Flit) : State :=
  let a := sourceOf b k
  let x := s.pair a b
  if k = 0 ∨ !s.sitePresent b ∨ !s.usesPlane a b p slot ∨ (flitGood f ∧ flitKind f ≠ 1) then s
  else
    let s := if flitGood f then s else s.countFailure b p
    let place := match x.sentOn slot p with
      | some y => y.place
      | none => 32 * slot + s.get PLANE_STATUS_POSITION p
    if x.discards place then s
    else match x.half slot p with
      | some y =>
        let s := s.modPair a b (fun z => { z with seen := z.seen.erase y })
        if y.passed then s else s.judgeFlit a b place f
      | none =>
        let others := match x.sentOn slot p with
          | some y => y.planes.erase p
          | none => if s.planeState p = 3 then [s.get PLANE_STATUS_PARTNER p] else []
        match others with
        | [] => s.judgeFlit a b place f
        | q :: _ =>
          let s := s.modPair a b (fun z => { z with seen := z.seen ++ [⟨slot, q, flitGood f⟩] })
          if flitGood f then s.landFlit a b place f else s

/-- A replay request reaches its launch, which is to send again from the failed flit (R263, R264). -/
def State.replay (s : State) (a b : Nat) : State :=
  s.modPair a b (fun x => match x.asked, x.failed with
    | true, some f =>
      let n := (x.sent.dropWhile (fun y => decide (y.place < f))).length
      { x with asked := false, resend := n, resume := if n = 0 then some f else none }
    | _, _ => x)

/-- A credit on its way back reaches the launch, which lets go of the oldest flit of its class (R264, R271). -/
def State.creditReturn (s : State) (a b c : Nat) : State :=
  s.modPair a b (fun x =>
    if x.freed.getD c 0 = 0 then x
    else
      let sent := x.sent.eraseP (fun y => flitVc y.flit == c)
      { x with freed := bumpAt x.freed c (· - 1), sent := sent, resend := min x.resend sent.length })

/-- The first waiting multicast flit of a class reserves the next position of its pairs (R269). -/
def State.reserve (s : State) (a c : Nat) : State :=
  let l := SMap.get s.ridge.launch a []
  let multi (w : Waiting) : Bool := flitVc w.flit == c && decide (1 < (flitDests a w.flit).length)
  match l.findIdx? multi with
  | none => s
  | some i =>
    { s with ridge := { s.ridge with
      launch := SMap.set s.ridge.launch a ((l.take i) ++ ((l.drop i).take 1).map (fun (w : Waiting) => { w with reserved := true })
        ++ l.drop (i + 1)) [] } }

/-! ### Loop test -/

/-- The ring pair of a plane's loop cannot work: absent site, no light, or ring 0 FAILED (R278, R288). -/
def State.noLight (s : State) (site p : Nat) : Bool :=
  !s.sitePresent site || decide (s.planeState p ≤ 1) || s.get RING_STATUS_STATE (ringIx site p true 0) == 4
    || s.get RING_STATUS_STATE (ringIx site p false 0) == 4

/-- A LOOP_TEST write (R277, R278). -/
def State.writeLoopTest (s : State) (site : Nat) (v : Word) : State :=
  let running := s.get LOOP_TEST_STATUS site = 1
  let s := s.writeReg .LOOP_TEST site v
  if bits 0 0 v.toNat = 0 then s
  else if running then s.regEventAt 3 .LOOP_TEST site v
  else
    let s := s.put LOOP_TEST_ERRORS site 0
    s.put LOOP_TEST_STATUS site (if s.noLight site (s.get LOOP_TEST_PLANE site) then 3 else 1)

/-! ### Start-up (R289) -/

/-- A laser module beside its register. -/
def State.laser (s : State) (bay : Nat) : LaserX := SMap.get s.ridge.lasers bay LaserX.reset

/-- Change a laser module. -/
def State.modLaser (s : State) (bay : Nat) (f : LaserX → LaserX) : State :=
  { s with ridge := { s.ridge with lasers := SMap.set s.ridge.lasers bay (f (s.laser bay)) LaserX.reset } }

/-- STATE of a laser group. -/
def State.laserState (s : State) (bay : Nat) : Nat := s.get LASER_GROUP_STATE bay

/-- A group that lights its planes takes a state. -/
def State.setLaser (s : State) (bay st : Nat) : State := s.put LASER_GROUP_STATE bay st

/-- Phase 1 ends: every module that is present is at its drive, and its planes are lit. -/
def State.lightAll (s : State) : State :=
  let s := (List.range 8).foldl (fun s b => if (s.laser b).present then s.setLaser b 3 else s) s
  (List.range 40).foldl (fun s p => if (s.laser (p / 8)).present then s.setPlane p 1 else s) s

/-- Phase 2 begins: a warm start sets each ring from the saved table at the present temperature, where every plane's table spans it
within 10 °C; otherwise every ring is searched (R289, R293). -/
def State.setRings (s : State) (temp : Int) : State :=
  let sets (p : Nat) : List CalSet := SMap.get s.steward.kept.table p []
  let near (l : List CalSet) : Bool :=
    l.any (fun c => decide (c.temp ≤ temp + 40)) && l.any (fun c => decide (temp ≤ c.temp + 40))
  if !(List.range 40).all (fun p => near (sets p)) then { s with ridge := { s.ridge with warmStart := false } }
  else
    let s := { s with ridge := { s.ridge with warmStart := true } }
    (List.range 40).foldl (fun s p =>
      let s := s.modItem p (fun x => { x with sets := sets p })
      let n := (sets p).foldl (fun m c => max m c.values.length) 0
      ((List.range 512).filter (fun r => decide (r * 6 < n))).foldl (fun s r =>
        let v := (s.item p).value temp (r * 6)
        s.put RING_STATUS_HEATER ((r / 32 * 40 + p) * 32 + r % 32) (min 65535 (v.1 / v.2).toNat)) s) s

/-- The saved table is written from the items of the planes named (R289, R304). -/
def State.saveTable (s : State) (l : List Nat) : State :=
  let keep (s : State) (p : Nat) : State := { s with steward := { s.steward with kept := { s.steward.kept with
    table := SMap.set s.steward.kept.table p (s.item p).sets [] } } }
  l.foldl (fun s p => if (s.item p).sets.isEmpty then s else keep s p) s

/-- Phase 5 ends: the table is saved, standbys go COLD, planes 0-31 enter service at their positions, and PKG_CAPS is fixed (R289,
R328). -/
def State.enterService (s : State) : State :=
  let s := s.saveTable (List.range 40)
  let s := [4, 7].foldl (fun s b => if (s.laser b).present then s.setLaser b 1 else s) s
  let s := (List.range 32).foldl (fun s p =>
    if (s.laser (p / 8)).present then (s.setPlane p 2).put PLANE_STATUS_POSITION p p else s) s
  ((List.range 8).foldl (fun s i => s.setPlane (32 + i) 0) s).fixCaps

/-- A plane whose loop test fails at a site: the site's pairs skip its position, and a record is logged (R289). -/
def State.loopFailed (s : State) (site p : Nat) : State :=
  let s := (List.range 16).foldl (fun s b =>
    if b = site then s else (s.skipPlane site b p true).skipPlane b site p true) s
  s.raise 0x06 3 1 4 site 0x3FF 0 0 0

/-- A phase of start-up ends and the next begins, at the present temperature; `failed` names the loop tests that failed in phase 4. -/
def State.nextPhase (s : State) (temp : Int) (failed : List (Nat × Nat)) : State :=
  let ph := s.get TUNE_STATUS_PHASE 0
  if 6 ≤ ph then s
  else
    let s := s.put TUNE_STATUS_PHASE 0 (ph + 1)
    if ph = 1 then s.lightAll.setRings temp
    else if ph = 4 then failed.foldl (fun s x => s.loopFailed x.1 x.2) s
    else if ph = 5 then s.enterService
    else s

/-! ### Meanings -/

/-- SADDLE_FLIT (R263, R265). -/
def execSaddleFlit (site : Fin 16) (plane : Fin 40) (lambda : Fin 16) (slot : BitVec 64) (flit : BitVec 1024) (s : State) :
    Host.Outcome State Fault Refusal :=
  .next (s.saddleFlit site.val plane.val lambda.val slot.toNat flit)

/-- SADDLE_REPLAY_REQUEST (R263). -/
def execSaddleReplayRequest (src dst : Fin 16) (s : State) : Host.Outcome State Fault Refusal :=
  .next (s.replay src.val dst.val)

/-- CREDIT_RETURN (R271): one credit, and as many more as come with it. -/
def execCreditReturn (src dst : Fin 16) (cls : Fin 4) (more : Nat) (s : State) : Host.Outcome State Fault Refusal :=
  .next ((List.range (more + 1)).foldl (fun (t : State) _ => t.creditReturn src.val dst.val cls.val) s)

/-- MULTICAST_RESERVE (R269). -/
def execMulticastReserve (src : Fin 16) (cls : Fin 4) (s : State) : Host.Outcome State Fault Refusal :=
  .next (s.reserve src.val cls.val)

/-- LOOP_TEST_GO (R277): a LOOP_TEST write with GO. -/
def execLoopTestGo (site : Fin 16) (v : BitVec 64) (s : State) : Host.Outcome State Fault Refusal :=
  .next (s.writeLoopTest site.val (v ||| 1))

/-- LOOP_TEST_COMPLETE (R278). -/
def execLoopTestComplete (site : Fin 16) (lit : Bool) (errors : BitVec 32) (delay : BitVec 12) (s : State) :
    Host.Outcome State Fault Refusal :=
  let i := site.val
  if s.get LOOP_TEST_STATUS i ≠ 1 then .next s
  else
    let s := s.put LOOP_TEST_ERRORS i errors.toNat
    .next (if lit then (s.put LOOP_TEST_DELAY i delay.toNat).put LOOP_TEST_STATUS i 2 else s.put LOOP_TEST_STATUS i 3)

/-- RIDGE_STARTUP_PHASE (R289). -/
def execRidgeStartupPhase (phase : PhaseEnd) (s : State) : Host.Outcome State Fault Refusal :=
  .next (s.nextPhase phase.temp (phase.failed.map (fun x => (x.1.val, x.2.val))))

end Sys2Proof.Machine
end

