-- ==== Sys2Proof/Machine/Lasers.lean ====
section
/-! DEFINITION. Laser groups: fade (R298), handover (R301-R303), self-test and takeback (R304), loss (R306, R307), and the bay
(R308, R309, R512, R513). -/

namespace Sys2Proof.Machine

/-! ### Operations -/

/-- The standby of a group: LG4 for LG0-LG3, LK2 for LK0 and LK1 (R299). -/
def standbyOf (g : Nat) : Option Nat := if g < 4 then some 4 else if g = 5 ∨ g = 6 then some 7 else none

/-- A laser record: class 0x07, SRC_DIE 16, SRC_UNIT the bay (R420). -/
def State.laserEvent (s : State) (code sev bay : Nat) : State := s.raise 0x07 code sev 16 bay 0x3FF 0 0 0

/-- The bay a standby stands for, 0xF none. -/
def State.standsFor (s : State) (b : Nat) : Nat := s.get LASER_GROUP_STANDS_FOR b

/-- Planes of a fabric group; a link group has none. -/
def planesOf (g : Nat) : List Nat := if g < 5 then (List.range 8).map (fun i => 8 * g + i) else []

/-- Every plane of a group takes a state. -/
def State.setPlanes (s : State) (g st : Nat) : State := (planesOf g).foldl (fun s p => s.setPlane p st) s

/-- A standby stores its table and goes to COLD (R304, R308). -/
def State.coolStandby (s : State) (b : Nat) : State :=
  (((s.saveTable (planesOf b)).setLaser b 1).put LASER_GROUP_STANDS_FOR b 0xF).setPlanes b 0

/-- Mismatches that waited for a group's planes are handled (R301). -/
def State.servePlanes (s : State) (g : Nat) : State := (planesOf g).foldl (fun s p => s.serveLate p) s

/-- The 50 µs update of the laser modules that is under way (R298, R299). -/
def State.fadeUpdate (s : State) : Nat := s.uptime / 50

/-- The group asks its standby (R299, R301): a COLD one, or one in a refresh (R309), starts warming; the planes' runs are
preempted. In the update in which a higher bay asked first, the lower is served and the higher has no standby. Otherwise a no-standby
record. -/
def State.ask (s : State) (g : Nat) : State :=
  match standbyOf g with
  | none => s
  | some b =>
    let other := s.standsFor b
    let serve (s : State) : State :=
      let s := s.preempt (fun id => decide (id < 40) && (decide (id / 8 = g) || decide (id / 8 = b))) 1
      (((s.setLaser b 2).put LASER_GROUP_STANDS_FOR b g).setPlanes b 1).modLaser b (fun x => { x with asked := some s.fadeUpdate })
    if (s.laserState b = 1 ∧ (s.laser b).present) ∨ (s.laserState b = 2 ∧ other = 0xF) then serve s
    else if s.laserState b = 2 ∧ g < other ∧ (s.laser b).asked = some s.fadeUpdate then serve (s.laserEvent 3 1 other)
    else s.laserEvent 3 1 g

/-- The group has asked and its handover is not over. -/
def State.asked (s : State) (g : Nat) : Bool :=
  match standbyOf g with
  | some b => s.standsFor b == g && (s.laserState b == 2 || s.laserState b == 4 || s.laserState b == 5)
  | none => false

/-- Spare start or a HANDOVER write on an ACTIVE group: within 60 s of taking control back it will not be tested again
(R304). -/
def State.handover (s : State) (g : Nat) : State :=
  let soon := match (s.laser g).tookBack with | some t => decide (s.uptime < t + 60000000) | none => false
  (if soon then s.modLaser g (fun x => { x with condemned := true }) else s).ask g

/-- A group goes dark and FAILED (R300, R304). -/
def State.failLaser (s : State) (g : Nat) : State := ((s.setLaser g 7).setPlanes g 0).laserEvent 4 1 g

/-- A group enters DIAG with its planes WITHDRAWN; one condemned goes on to FAILED, one whose latch is open goes dark (R300,
R304, R512). -/
def State.enterDiag (s : State) (g : Nat) : State :=
  let x := s.laser g
  let s := ((s.setLaser g 6).put LASER_GROUP_TESTS_FAILED g 0).modLaser g (fun x => { x with passes := 0 })
  let s := (planesOf g).foldl (fun s p => s.leaveDouble p (if x.latchOpen then 0 else 4)) s
  let s := if x.latchOpen then s.modLaser g (fun x => { x with dark := true }) else s
  if x.condemned then (s.modLaser g (fun x => { x with condemned := false })).failLaser g else s

/-- A lit group loses its light or reaches the floor (R306, R307, R309): ACTIVE, its planes leave service and its standby is
asked if it was not; a standby in OVERLAP leaves its group ACTIVE on its own planes; STANDING_IN, its planes are withdrawn. A link
group's lines go dark, and each link that loses its signal reports it by its own command (R391, log entry 51). -/
def State.lose (s : State) (g : Nat) : State :=
  let st := s.laserState g
  if st = 4 ∧ standbyOf g = none then
    let s := ((s.setLaser (s.standsFor g) 3).modLaser (s.standsFor g) (fun x => { x with takeback := false })).enterDiag g
    s.put LASER_GROUP_STANDS_FOR g 0xF
  else if st = 3 ∨ st = 4 then
    let had := s.asked g
    let s := s.enterDiag g
    if had then
      match standbyOf g with
      | some b => if s.laserState b = 4 then (s.setLaser b 5).servePlanes b else s
      | none => s
    else s.ask g
  else if st = 5 then s.setPlanes g 4
  else s

/-- Double the planes of a group and its standby (R265): each standby plane takes the position of the plane it covers. -/
def State.double (s : State) (g b : Nat) : State :=
  if g < 4 ∧ b = 4 then
    (List.range 8).foldl (fun s i =>
      let p := 8 * g + i
      let q := 32 + i
      let pos := s.get PLANE_STATUS_POSITION p
      let s := ((s.setPlane p 3).put PLANE_STATUS_PARTNER p q).setPlane q 3
      (s.put PLANE_STATUS_PARTNER q p).put PLANE_STATUS_POSITION q pos) s
  else s

/-- A standby is ready (R301 step 4, R306): both enter OVERLAP, or, its group lost, it takes the positions at once. -/
def State.warm (s : State) (b : Nat) : State :=
  let g := s.standsFor b
  if s.laserState b ≠ 2 ∨ g = 0xF then s
  else if s.laserState g = 3 then
    (((s.setLaser g 4).setLaser b 4).modLaser g (fun x => { x with takeback := false })).double g b
  else
    let s := (s.setLaser b 5).bump LASER_GROUP_HANDOVERS g 1
    let s := (if b = 4 then List.range 8 else []).foldl (fun s i =>
      (s.setPlane (32 + i) 2).put PLANE_STATUS_POSITION (32 + i) (8 * g + i)) s
    (s.laserEvent 5 0 g).servePlanes b

/-- The overlap window ends (R301 step 5, R304). -/
def State.overlapEnd (s : State) (b : Nat) : State :=
  let g := s.standsFor b
  if s.laserState b ≠ 4 ∨ g = 0xF then s
  else if (s.laser g).takeback then
    let s := (s.setLaser g 3).modLaser g (fun x => { x with takeback := false, tookBack := some s.uptime })
    ((s.setPlanes g 2).coolStandby b)
  else
    let s := s.setPlanes b 2
    let s := ((s.setPlanes g 4).enterDiag g).setLaser b 5
    ((s.bump LASER_GROUP_HANDOVERS g 1).laserEvent 5 0 g).servePlanes b

/-- Three passes in a row (R304, R308): a standby goes COLD; another takes back from its standby, or enters service. -/
def State.takeBack (s : State) (g : Nat) : State :=
  let s := s.modLaser g (fun x => { x with passes := 0 })
  match standbyOf g with
  | none => s.coolStandby g
  | some b =>
    if s.standsFor b = g ∧ s.laserState b = 5 then
      ((((s.setLaser g 4).setLaser b 4).modLaser g (fun x => { x with takeback := true })).double g b)
    else
      let s := if s.standsFor b = g ∧ s.laserState b = 2 then s.coolStandby b else s
      (s.setLaser g 3).setPlanes g 2

/-- A 1 s self-test of a group in DIAG (R304). -/
def State.selfTest (s : State) (g : Nat) (clean : Bool) : State :=
  if s.laserState g ≠ 6 ∨ (s.laser g).dark then s
  else if clean ∧ s.get LASER_GROUP_FADE g < 10 then
    if 2 ≤ (s.laser g).passes then s.takeBack g else s.modLaser g (fun x => { x with passes := x.passes + 1 })
  else
    let s := (s.modLaser g (fun x => { x with passes := 0 })).bump LASER_GROUP_TESTS_FAILED g 1
    if 8 ≤ s.get LASER_GROUP_TESTS_FAILED g then s.failLaser g else s

/-- A 50 µs measurement and the levels it reaches (R298). -/
def State.measureFade (s : State) (g fade : Nat) : State :=
  let old := s.get LASER_GROUP_FADE g
  if s.laserState g = 0 ∨ s.laserState g = 1 ∨ s.laserState g = 7 ∨ (s.laser g).dark then s
  else
    let s := s.put LASER_GROUP_FADE g fade
    let reaches (n : Nat) : Bool := decide (old < n) && decide (n ≤ fade)
    let s := if reaches 10 then s.laserEvent 1 0 g else s
    let s := if reaches 30 ∧ s.laserState g = 3 ∧ !s.asked g then s.handover g else s
    let late := decide (s.laserState g = 3) || (decide (s.laserState g = 4) && !(s.laser g).takeback && (standbyOf g).isSome)
    let s := if reaches 40 ∧ late then s.laserEvent 2 1 g else s
    if reaches 60 then s.lose g else s

/-- A HANDOVER write (R301, R309). -/
def State.writeHandover (s : State) (g : Nat) (v : Word) : State :=
  if s.laserState g = 3 ∧ !s.asked g then s.handover g else s.regEventAt 3 .LASER_GROUP g v

/-- A laser is not locked in time, or shows no light (R300, R307). -/
def State.warmTimeout (s : State) (b : Nat) : State :=
  if s.laserState b = 2 then ((s.setLaser b 7).put LASER_GROUP_STANDS_FOR b 0xF).setPlanes b 0 else s

/-- The first flit sent on a plane that has not landed (R307). -/
def SadPair.lostOn (x : SadPair) (p : Nat) : Option SentFlit := x.sent.find? (fun y => decide (x.landed ≤ y.place) && y.planes.contains p)

/-- A landing reads no signal (R307, R309): two failed flits; a DOUBLED plane leaves to its partner; otherwise what was lost is asked for
again, and the laser that feeds the plane is lost. -/
def State.signalLost (s : State) (site p k : Nat) : State :=
  if !s.planeUp p ∨ k = 0 then s
  else
    let s := (s.countFailure site p).countFailure site p
    if s.planeState p = 3 then
      let q := s.get PLANE_STATUS_PARTNER p
      let s := (s.setPlane q 2).setPlane p 4
      s.research site p k 1
    else
      let a := sourceOf site k
      match (s.pair a site).lostOn p with
      | some y => (s.askReplay a site y.place).lose (p / 8)
      | none => s.lose (p / 8)

/-- A module is inserted (R308): DIAG. -/
def State.insertLaser (s : State) (g : Nat) : State :=
  if (s.laser g).present then s
  else
    let s := s.modLaser g (fun _ => { LaserX.reset with present := true })
    let s := (((s.setLaser g 6).put LASER_GROUP_TESTS_FAILED g 0).put LASER_GROUP_FADE g 0).put LASER_GROUP_STANDS_FOR g 0xF
    s.setPlanes g 4

/-- A module is removed (R300, R512): one still lit loses its light as under R307. -/
def State.removeLaser (s : State) (g : Nat) : State :=
  if !(s.laser g).present then s
  else
    let s := s.lose g
    let s := (s.modLaser g (fun _ => { LaserX.reset with present := false })).setLaser g 0
    (s.put LASER_GROUP_STANDS_FOR g 0xF).setPlanes g 0

/-- A latch opens (R512). -/
def State.openLatch (s : State) (g : Nat) : State :=
  let s := s.modLaser g (fun x => { x with latchOpen := true })
  let st := s.laserState g
  if st = 3 then s.writeHandover g 0x80
  else if st = 1 ∨ st = 6 ∨ st = 7 then (s.modLaser g (fun x => { x with dark := true })).setPlanes g 0
  else s

/-- A bay LED: off, steady, or blinking at 1 Hz or 4 Hz (R513). -/
inductive Led where
  | off | steady | blink1 | blink4
  deriving DecidableEq, Repr

/-- Green and amber of a bay (R513). -/
def State.bayLeds (s : State) (g : Nat) : Led × Led :=
  let st := s.laserState g
  let x := s.laser g
  let lit := decide (2 ≤ st) && decide (st ≤ 6) && !x.dark
  if x.latchOpen ∧ lit then (.off, .blink4)
  else if x.latchOpen ∨ st = 7 then (.off, .steady)
  else if st = 6 then (.off, .blink1)
  else if st = 2 ∨ st = 4 then (.blink4, .off)
  else if st = 3 ∨ st = 5 then (.steady, .off)
  else if st = 1 then (.blink1, .off)
  else (.off, .off)

/-! ### Meanings -/

/-- FADE_MEASUREMENT (R298). -/
def execFadeMeasurement (bay : Fin 8) (fade : BitVec 8) (s : State) : Host.Outcome State Fault Refusal :=
  .next (s.measureFade bay.val fade.toNat)

/-- HANDOVER (R301): a LASER_GROUP write with HANDOVER. -/
def execHandover (bay : Fin 8) (s : State) : Host.Outcome State Fault Refusal := .next (s.writeHandover bay.val 0x80)

/-- WARMUP_COMPLETE (R301). -/
def execWarmupComplete (bay : Fin 8) (s : State) : Host.Outcome State Fault Refusal := .next (s.warm bay.val)

/-- WARMUP_TIMEOUT (R300). -/
def execWarmupTimeout (bay : Fin 8) (s : State) : Host.Outcome State Fault Refusal := .next (s.warmTimeout bay.val)

/-- OVERLAP_END (R303): the standby's window ends. -/
def execOverlapEnd (bay : Fin 8) (s : State) : Host.Outcome State Fault Refusal := .next (s.overlapEnd bay.val)

/-- LASER_SELF_TEST (R304). -/
def execLaserSelfTest (bay : Fin 8) (clean : Bool) (s : State) : Host.Outcome State Fault Refusal :=
  .next (s.selfTest bay.val clean)

/-- LOSS_OF_SIGNAL (R307). -/
def execLossOfSignal (site : Fin 16) (plane : Fin 40) (lambda : Fin 16) (s : State) :
    Host.Outcome State Fault Refusal :=
  .next (s.signalLost site.val plane.val lambda.val)

/-- LASER_INSERTION (R308). -/
def execLaserInsertion (bay : Fin 8) (s : State) : Host.Outcome State Fault Refusal := .next (s.insertLaser bay.val)

/-- LASER_REMOVAL (R300). -/
def execLaserRemoval (bay : Fin 8) (s : State) : Host.Outcome State Fault Refusal := .next (s.removeLaser bay.val)

/-- LATCH_OPEN (R512). -/
def execLatchOpen (bay : Fin 8) (s : State) : Host.Outcome State Fault Refusal := .next (s.openLatch bay.val)

end Sys2Proof.Machine
end

