-- ==== Sys2Proof/Machine/StackCmds.lean ====
section
/-! DEFINITION. Commands of the memory stacks: vias (R346, R347), retirement (R352-R354, R361), scrub and refresh (R356, R357),
layer temperatures (R358-R360), and trims (R349). -/

namespace Sys2Proof.Machine

/-! ### Vias -/

/-- Via group and via of a symbol of a channel (R344). -/
def viaOf (c symbol : Nat) : Nat × Nat := if symbol < 64 then (c, symbol) else (64 + c / 8, 8 * (c % 8) + (symbol - 64))

/-- Spares of a group in use, as its channel shows them. -/
def State.sparesUsed (s : State) (m c symbol : Nat) : Nat :=
  s.get (if symbol < 64 then CHAN_STATUS_DATA_SPARES else CHAN_STATUS_CHECK_SPARES) (chanIx m c)

/-- Show the spares of a symbol's group: a check group's on each of its 8 channels. -/
def State.showSpares (s : State) (m c symbol n : Nat) : State :=
  if symbol < 64 then s.put CHAN_STATUS_DATA_SPARES (chanIx m c) n
  else (List.range 8).foldl (fun s i => s.put CHAN_STATUS_CHECK_SPARES (chanIx m (c / 8 * 8 + i)) n) s

/-- A via record (R518). -/
def State.viaEvent (s : State) (m group via act spares : Nat) : State :=
  s.raise 0x09 1 (act - 1) (5 + m) group 0x3FF (BitVec.ofNat 64 via) (BitVec.ofNat 64 act) (BitVec.ofNat 64 spares)

/-- The oldest suspect via is tested alone (R346): swapped, marked failed (R347), or cleared. -/
def State.testVia (s : State) (m : Nat) (fails : Bool) : State :=
  match (s.stackSt m).suspect with
  | [] => s
  | (c, symbol) :: rest =>
    let s := s.modStack m (fun x => { x with suspect := rest })
    let g := viaOf c symbol
    let used := s.sparesUsed m c symbol
    if !fails then s
    else if used < 4 then (s.showSpares m c symbol (used + 1)).viaEvent m g.1 g.2 1 (used + 1)
    else
      let f := SMap.get (s.stackSt m).failed g.1 []
      let s := s.modStack m (fun x => { x with
        failed := SMap.set x.failed g.1 (if f.contains g.2 then f else f ++ [g.2]) [] })
      let n := (s.failedSymbols m c).length
      let s := s.put CHAN_STATUS_FAILED_VIAS (chanIx m c) (min 15 n)
      let s := if s.chanState m c = 0 then s.put CHAN_STATUS_STATE (chanIx m c) 1 else s
      let s := s.viaEvent m g.1 g.2 2 used
      if 3 ≤ n then s.autoRetire m c else s

/-! ### Retirement -/

/-- A RETIRE_CTRL write (R352, R354, R361). -/
def State.writeRetire (s : State) (m : Nat) (v : Word) : State :=
  let s := s.writeReg .RETIRE_CTRL m v
  let c := s.get RETIRE_CTRL_CHANNEL m
  if bits 7 7 v.toNat = 0 then s
  else if s.get STACK_STATUS_STATE m = 2 ∨ 2 ≤ s.chanState m c ∨ 8 ≤ s.retiredCount m then s.regEventAt 3 .RETIRE_CTRL m v
  else s.retireStart m c

/-- Every line of the retiring channel has moved (R352, R353); the next that waits begins (R361). -/
def State.retireDone (s : State) (m : Nat) : State :=
  if s.get STACK_STATUS_STATE m ≠ 2 then s
  else
    let c := s.get STACK_STATUS_MOVE_CHANNEL m
    let i := chanIx m c
    let lines := ((s.stackSt m).lines.map (·.1)).filter (fun l => s.channelOf m l == c)
    let s := lines.foldl (fun s l =>
      let r := s.rebuildLine m l
      if r.2 then r.1 else r.1.bump CHAN_STATUS_UNCORRECTED i 1) s
    let s := s.put STACK_STATUS_MOVE_LINES m ((s.capacity m / 64 + 63 - c) / 64)
    let s := (s.put CHAN_STATUS_STATE i 3).put STACK_STATUS_STATE m 1
    let s := s.raise 0x09 4 1 (5 + m) c 0x3FF (BitVec.ofNat 64 c) 0 0
    match (s.stackSt m).waiting with
    | [] => s
    | w :: rest =>
      let s := s.modStack m (fun x => { x with waiting := rest })
      s.autoRetire m w

/-! ### Scrub -/

/-- The scrubber reads its next line, with the errors found on it, and writes a correction back (R356). -/
def State.scrubLine (s : State) (m : Nat) (upsets : List Nat) : State :=
  let l := s.get SCRUB_STATUS_NEXT_LINE m
  let s := if upsets.isEmpty then s else match s.lineErr m l with
    | some .pattern => s
    | some (.symbols e) => s.setLineErr m l (some (.symbols (e ++ upsets.filter (fun x => !e.contains x))))
    | none => s.setLineErr m l (some (.symbols upsets.dedup))
  let d := (s.decodeLine m l).1
  let s := (s.readLine m l).2
  let s := match d with
    | .corrected _ => s.setLineErr m l none
    | _ => s
  if s.capacity m ≤ (l + 1) * 64 then
    ((s.put SCRUB_STATUS_NEXT_LINE m 0).put SCRUB_STATUS_PASSES m (s.get SCRUB_STATUS_PASSES m + 1)).modStack m
      (fun x => { x with tracker := [] })
  else s.put SCRUB_STATUS_NEXT_LINE m (l + 1)

/-! ### Layers -/

/-- Register index of a layer. -/
def layerIx (m l : Nat) : Nat := m * 16 + l

/-- Temperatures of one check, in units of 1/6000 °C: measured, estimated, and whether the residual is out of bounds. -/
structure LayerCheck where
  measured : List Int
  estimate : List Int
  out : List Bool
  deriving DecidableEq, Repr

/-- What stands in for layer `i` as a neighbour: its measured value, or, SUSPECT, its last working temperature; the logic
die's sensor below layer 0 and the lid's above layer 15 (R359). -/
def State.layerTemp (s : State) (m : Nat) (measured : List Int) (base lid : Int) (i : Int) : Int :=
  if i < 0 then base
  else if 15 < i then lid
  else if s.flag LAYER_TEMP_SUSPECT (layerIx m i.toNat) then SMap.get (s.stackSt m).temps i.toNat (measured.getD i.toNat 0)
  else measured.getD i.toNat 0

/-- The first layer of the DOUBLE pair that `l` belongs to. -/
def State.pairBase (s : State) (m l : Nat) : Nat :=
  if l < 15 ∧ s.flag LAYER_TEMP_DOUBLE (layerIx m (l + 1)) ∧ ¬ (0 < l ∧ s.flag LAYER_TEMP_DOUBLE (layerIx m (l - 1))) then l
  else l - 1

/-- ESTIMATE of layer `l` by the conduction model, `p` in mW (R359), or, in a DOUBLE pair, by straight-line interpolation
(R360). -/
def State.layerEstimate (s : State) (m : Nat) (measured : List Int) (power : List Nat) (base lid : Int) (l : Nat) : Int :=
  let t := s.layerTemp m measured base lid
  if s.flag LAYER_TEMP_DOUBLE (layerIx m l) then
    let a : Int := s.pairBase m l
    if (l : Int) = a then (2 * t (a - 1) + t (a + 2)) / 3 else (t (a - 1) + 2 * t (a + 2)) / 3
  else (t ((l : Int) - 1) + t ((l : Int) + 1)) / 2 + 9 * (power.getD l 0 : Nat)

/-- A sensor-suspect marking and its record, with both readings (R360). -/
def State.suspectLayer (s : State) (m l : Nat) (double : Bool) (r : Int × Int) : State :=
  let i := layerIx m l
  let s := s.put LAYER_TEMP_SUSPECT i 1
  let s := if double then s.put LAYER_TEMP_DOUBLE i 1 else s
  s.raise 0x09 7 1 (5 + m) l 0x3FF (BitVec.ofInt 64 (r.1 / 6000)) (BitVec.ofInt 64 (r.2 / 6000)) 0

/-- Refresh, throttle and the registers follow a layer's working temperature (R357, R358, R360). -/
def State.layerWorking (s : State) (m l : Nat) (measured estimate : Int) : State :=
  let i := layerIx m l
  let w := if s.flag LAYER_TEMP_SUSPECT i then max measured estimate else measured
  let whole (x : Int) : Nat := (BitVec.ofInt 8 (x / 6000)).toNat
  let s := s.modStack m (fun x => { x with temps := SMap.set x.temps l w 0 })
  let s := ((s.put LAYER_TEMP_MEASURED i (whole measured)).put LAYER_TEMP_ESTIMATE i (whole estimate)).put
    LAYER_TEMP_WORKING i (whole w)
  let s := s.put LAYER_TEMP_REFRESH i (if w < 85 * 6000 then 0 else if w < 95 * 6000 then 1 else 2)
  if 95 * 6000 ≤ w then s.put LAYER_TEMP_THROTTLED i 1
  else if w < 93 * 6000 then s.put LAYER_TEMP_THROTTLED i 0 else s

/-- The 1 ms check of a stack's layers (R359, R360): readings in units of 1/6000 °C, powers in mW. -/
def State.checkLayers (s : State) (m : Nat) (sensors : List (Int × Int)) (power : List Nat) (base lid : Int) : State :=
  let measured := sensors.map (fun x => max x.1 x.2)
  let est := (List.range 16).map (s.layerEstimate m measured power base lid)
  let out (l : Nat) : Bool := decide (18000 < ((measured.getD l 0) - est.getD l 0).natAbs)
  let s := (List.range 16).foldl (fun s l =>
    s.put LAYER_TEMP_OUT_RUNS (layerIx m l)
      (if out l then min 16 (s.get LAYER_TEMP_OUT_RUNS (layerIx m l) + 1) else 0)) s
  let ripe (s : State) (l : Nat) : Bool :=
    decide (l < 16) && s.get LAYER_TEMP_OUT_RUNS (layerIx m l) == 16 && !s.flag LAYER_TEMP_SUSPECT (layerIx m l)
  let s := (List.range 16).foldl (fun s l =>
    if ripe s l then
      if (l = 0 ∨ !out (l - 1)) ∧ (l = 15 ∨ !out (l + 1)) then s.suspectLayer m l false (sensors.getD l (0, 0))
      else if ripe s (l + 1) then
        (s.suspectLayer m l true (sensors.getD l (0, 0))).suspectLayer m (l + 1) true (sensors.getD (l + 1) (0, 0))
      else s
    else s) s
  let est := (List.range 16).map (s.layerEstimate m measured power base lid)
  (List.range 16).foldl (fun s l => s.layerWorking m l (measured.getD l 0) (est.getD l 0)) s

/-- Trims of a layer (R349): the calibration set's values at the working temperature, plus the stress correction; a trim
outside the code range keeps its value (log entry 29). -/
def State.trim (s : State) (m l : Nat) (correction : Int) : State :=
  let i := layerIx m l
  let s := s.modStack m (fun x => { x with stress := SMap.set x.stress l correction 0 })
  let t : Int := SMap.get (s.stackSt m).temps l 0 / 1500
  let set (s : State) (f : Fld) (j : Nat) : State :=
    let v := (s.item (3 * 4096 + i)).value t j
    let x := v.1 / v.2 + correction
    if 0 ≤ x ∧ x ≤ 255 then s.put f i x.toNat else s
  set (set s LAYER_TEMP_TRIM_RD 0) LAYER_TEMP_TRIM_WR 1

/-- The margin monitor (R349): below the minimum held in the calibration set, the layer's item is forced. -/
def State.sampleMargin (s : State) (m l margin : Nat) : State :=
  let id := 3 * 4096 + layerIx m l
  let v := (s.item id).value (SMap.get (s.stackSt m).temps l 0 / 1500) 2
  if (margin : Int) * v.2 < v.1 then s.modItem id (fun x => { x with forced := true }) else s

/-! ### Meanings -/

/-- VIA_TEST (R346). -/
def execViaTest (stack : Fin 8) (fails : Bool) (s : State) : Host.Outcome State Fault Refusal :=
  .next (s.testVia stack.val fails)

/-- RETIRE_GO (R352): a RETIRE_CTRL write with GO. -/
def execRetireGo (stack : Fin 8) (v : BitVec 64) (s : State) : Host.Outcome State Fault Refusal :=
  .next (s.writeRetire stack.val (v ||| 0x80))

/-- RETIREMENT_COMPLETE (R352). -/
def execRetirementComplete (stack : Fin 8) (s : State) : Host.Outcome State Fault Refusal := .next (s.retireDone stack.val)

/-- STACK_SCRUB (R356). -/
def execStackScrub (stack : Fin 8) (upsets : List (Fin 72)) (s : State) : Host.Outcome State Fault Refusal :=
  .next (s.scrubLine stack.val (upsets.map Fin.val))

/-- REFRESH (R357). -/
def execRefresh (stack : Fin 8) (layer : Fin 16) (s : State) : Host.Outcome State Fault Refusal :=
  .next (s.modStack stack.val (fun x => { x with
    refreshes := SMap.set x.refreshes layer.val (SMap.get x.refreshes layer.val 0 + 1) 0 }))

/-- LAYER_TEMPERATURE_CHECK (R359). -/
def execLayerTemperatureCheck (stack : Fin 8) (sensors : List (Int × Int)) (power : List Nat) (base lid : Int)
    (s : State) : Host.Outcome State Fault Refusal :=
  .next (s.checkLayers stack.val sensors power base lid)

/-- STRESS_CORRECTION (R349). -/
def execStressCorrection (stack : Fin 8) (layer : Fin 16) (correction : Int) (s : State) :
    Host.Outcome State Fault Refusal :=
  .next (s.trim stack.val layer.val correction)

/-- MARGIN_SAMPLE (R349). -/
def execMarginSample (stack : Fin 8) (layer : Fin 16) (margin : Nat) (s : State) : Host.Outcome State Fault Refusal :=
  .next (s.sampleMargin stack.val layer.val margin)

end Sys2Proof.Machine
end

