-- ==== Sys2Proof/Machine/Reset.lean ====
section
/-! DEFINITION. Reset (R16, R83, R178, R226, R354, R426, R504-R506): what it keeps, what start-up does. -/

namespace Sys2Proof.Machine

/-! ### What survives -/

/-- A free number of `n` words of 64 bits. -/
def State.freshBits (s : State) : Nat → Nat × State
  | 0 => (0, s)
  | n + 1 =>
    let r := s.fresh
    let q := State.freshBits r.2 n
    (r.1.toNat + 2 ^ 64 * q.1, q.2)

/-- Fuses that a command under way when RESET_N came was to blow: each is blown or not (R487). -/
def State.partBlown (s : State) : State :=
  let f := s.steward.fuses
  let keep (s : State) (f : Fuses) : State := { s with steward := { s.steward with fuses := f, blow := .nothing } }
  match s.steward.blow with
  | .nothing => s
  | .slot k before was =>
    let r := s.freshBits 7
    let hash := before ||| ((SMap.get f.hashes k 0) &&& BitVec.ofNat 384 r.1)
    let on := was || r.1.testBit 384
    keep r.2 { f with hashes := SMap.set f.hashes k hash 0
                      programmed := if on then f.programmed else f.programmed &&& ~~~((1 : BitVec 4) <<< k) }
  | .revoke k before =>
    let r := s.freshBits 1
    keep r.2 (if before || r.1.testBit 0 then f else { f with revoked := f.revoked &&& ~~~((1 : BitVec 4) <<< k) })
  | .svn stage2 before =>
    let r := s.freshBits 1
    if stage2 then keep r.2 { f with min2 := before + r.1 % (f.min2 - before + 1) }
    else keep r.2 { f with min1 := before + r.1 % (f.min1 - before + 1) }

/-- The fenced positions and the RETIRED masks that the flash keeps (R354, R426). -/
def State.keptNow (s : State) : Kept :=
  { s.steward.kept with
    retired := (List.range 8).foldl (fun m i =>
      SMap.set m i (SMap.get m i 0 ||| s.word .STACK_RETIRED i) 0) s.steward.kept.retired
    fenced := (List.range 36).filter (fun k => s.isFenced k || s.steward.kept.fenced.contains k) }

/-- A position after RESET_N: its store and instruction memory are not cleared (R83). -/
def Core.afterReset (c : Core) : Core :=
  { Core.reset with store := c.store, storeEcc := c.storeEcc, imem := c.imem, imemEcc := c.imemEcc }

/-- The registers that mirror fuses (R489). -/
def State.showFuses (s : State) : State :=
  let f := s.steward.fuses
  let s := (s.put SVN_STATUS_MIN_STAGE1 0 f.min1).put SVN_STATUS_MIN_STAGE2 0 f.min2
  (s.put SVN_STATUS_REVOKED 0 f.revoked.toNat).put SVN_STATUS_PROGRAMMED 0 f.programmed.toNat

/-- The module in reset: everything at its reset value but what lies in flash and fuses, what is fitted in the bays, the pins
and the waiting commands, with the FATAL records (R418); and, unless its supply was lost, the core stores and instruction memories. CAPACITY_MB is the part's (R2, R362). -/
def State.resetModule (s : State) (supplied : Bool) : State :=
  let s := (s.events.filter (fun e => e.sev == 3)).foldl (fun s e => s.append e) s.partBlown
  let s' : State := { State.reset with
    part := s.part, free := s.free, flash := s.flash, hamper := s.hamper, fatal := s.fatal, pending := s.pending
    cores := if supplied then (List.range 36).foldl (fun m k => SMap.set m k (s.core k).afterReset Core.reset) [] else []
    ridge := { Ridge.reset with lasers := (List.range 8).foldl (fun m b =>
      SMap.set m b { LaserX.reset with present := (s.laser b).present, latchOpen := (s.laser b).latchOpen } LaserX.reset) [] }
    power := { Power.reset with inrush := s.power.inrush && supplied }
    steward := { Steward.reset with fuses := s.steward.fuses, kept := s.keptNow, linkUp := s.steward.linkUp && supplied }
    pins := { s.pins with up := false, pfsave := true } }
  (List.range 8).foldl (fun s m => s.showCapacity m)
    ((s'.showFuses).put BOOT_CTRL_NET_EN 0 (if s.steward.fuses.netBoot then 1 else 0))

/-! ### Start-up -/

/-- Every channel of the kept mask is retired while its stack is STARTING (R354). -/
def State.reRetire (s : State) (m : Nat) : State :=
  (List.range 64).foldl (fun s c =>
    if (SMap.get s.steward.kept.retired m 0).getLsbD c ∧ s.chanState m c < 2 ∧ s.retiredCount m < 8 then s.retireStart m c else s) s

/-- Start-up begins (R504 step 4): vias are tested (R345), stacks serve, ports train (R322), the Ridge starts (R289), stage 0
clears steward memory (R467). -/
def State.startUp (s : State) (vias : List (Nat × Nat × Nat)) : State :=
  let s := { s with pins := { s.pins with up := true, held := false }, stewardMem := [] }
  let s := vias.foldl (fun s v => (s.modStack v.1 (fun x => { x with suspect := [v.2] })).testVia v.1 true) s
  let s := (List.range 8).foldl (fun s m => (s.reRetire m).put STACK_STATUS_STATE m 1) s
  let s := (List.range (14 * 32)).foldl (fun s ix => if s.portExists ix then s.trainStart ix 1 else s) s
  s.put TUNE_STATUS_PHASE 0 1

/-- RESET_N falls for 1 µs or longer (R505); a save under way holds it off (R458). -/
def State.assertReset (s : State) : State :=
  let s := { s with pins := { s.pins with resetLow := true } }
  let st := s.get PWR_STATUS_STATE 0
  if st = 1 ∨ st = 2 then { s with power := { s.power with resetWaits := true } } else s.resetModule true

/-- The module resets itself and stays in reset until its own release (R437, R446, R457). -/
def State.selfReset (s : State) (supplied : Bool) : State :=
  let s := s.resetModule supplied
  { s with pins := { s.pins with held := true } }

end Sys2Proof.Machine
end

