-- ==== Sys2Proof/Machine/Power.lean ====
section
/-! DEFINITION. The supply (R437-R447): shedding, the Hamper, restoring; the limit (R452, R453); and the power ladder
(R448-R451). -/

namespace Sys2Proof.Machine

/-- A power record: class 0x0C, of the steward's die. -/
def State.powerEvent (s : State) (code sev : Nat) : State := s.raise 0x0C code sev 13 0xFF 0x3FF 0 0 0

/-- PWR_STATUS.STATE: 0 RUN, 1 SHEDDING, 2 SAVING, 3 WAITING, 4 RESTORING, 5 HELD_RESET. -/
def State.powerState (s : State) : Nat := s.get PWR_STATUS_STATE 0

/-- A pod link. -/
def State.link (s : State) (x : Nat) : LinkX := SMap.get s.podnet.links x LinkX.reset

/-- Change a pod link. -/
def State.modLink (s : State) (x : Nat) (f : LinkX → LinkX) : State :=
  { s with podnet := { s.podnet with links := SMap.set s.podnet.links x (f (s.link x)) LinkX.reset } }

/-! ### The Hamper (R443, R445) -/

/-- A little-endian field of a Hamper slot. -/
def imageField (l : List Byte) (o n : Nat) : Nat := leNat ((l.drop o).take n)

/-- STATE of the image a slot's bytes hold, 0 none: magic and both check values must match. -/
def imageState (l : List Byte) : Nat :=
  let st := imageField l 6 1
  if imageField l 0 4 = 0x52504D48 ∧ imageField l 4 2 = 1 ∧ 1 ≤ st ∧ st ≤ 3
      ∧ imageField l 0x3C 4 = (crc32c (l.take 0x3C)).toNat
      ∧ imageField l 0x20 8 = (crc64 ((l.drop 4096).take (imageField l 0x0C 4))).toNat then st else 0

/-- A Hamper slot. -/
def State.slot (s : State) (i : Nat) : List Byte := SMap.get s.hamper i []

/-- Store a Hamper slot. -/
def State.setSlot (s : State) (i : Nat) (l : List Byte) : State := { s with hamper := SMap.set s.hamper i l [] }

/-- GEN of a slot's image, 0 none. -/
def State.slotGen (s : State) (i : Nat) : Nat := if imageState (s.slot i) = 0 then 0 else imageField (s.slot i) 8 4

/-- HAMPER_STATUS follows the slots. -/
def State.showHamper (s : State) : State :=
  let newest := if s.slotGen 0 < s.slotGen 1 then 1 else 0
  let s := (s.put HAMPER_STATUS_SLOT_0 0 (imageState (s.slot 0))).put HAMPER_STATUS_SLOT_1 0 (imageState (s.slot 1))
  (s.put HAMPER_STATUS_GEN_NEWEST 0 (max (s.slotGen 0) (s.slotGen 1))).put HAMPER_STATUS_NEWEST_SLOT 0 newest

/-- The slot a save writes: one that is not VALID, or the lower GEN (R443); a shedding that begins during a restore takes the
slot beside the one just saved (R458). -/
def State.saveSlot (s : State) : Nat :=
  if s.powerState = 4 ∧ !s.power.noSave then 1 - s.power.slot else
  let v0 := imageState (s.slot 0) == 1
  let v1 := imageState (s.slot 1) == 1
  if v0 && !v1 then 1 else if v1 && !v0 then 0 else if s.slotGen 1 < s.slotGen 0 then 1 else 0

/-- A part of the body: its length in 4 bytes, then its bytes, zeros where it cannot be gathered (log entry 31). -/
def hamperPart (gathered : Bool) (l : List Byte) : List Byte :=
  toLE 4 l.length ++ (if gathered then l else List.replicate l.length 0)

/-- Stored words of a register's first `n` instances. -/
def State.regImage (s : State) (r : RegName) (n : Nat) : List Byte :=
  ((List.range n).map (fun i => toLE 8 (s.word r i).toNat)).flatten

/-- The records of the log's ring that exist, oldest first, with LOG_STATUS and LOG_SEQ (R418). -/
def State.logImage (s : State) : List Byte :=
  let n := (s.word .LOG_SEQ 0).toNat
  let recs := (List.range (min n 65536)).map (fun i =>
    let q := n - min n 65536 + 1 + i
    if s.logBase = 0 then Mem.bytes s.early (q % 256 * 64) 64 else Mem.bytes s.stewardMem (s.logBase + q % 65536 * 64) 64)
  recs.flatten ++ s.regImage .LOG_STATUS 1 ++ s.regImage .LOG_SEQ 1

/-- The configuration part (R445). -/
def State.configImage (s : State) (near : Bool) : List Byte :=
  let far (l : List Byte) : List Byte := if near then l else List.replicate l.length 0
  far (s.regImage .CORE_MAP 4 ++ s.regImage .FENCE_STATUS 4 ++ s.regImage .CORE_OUTING 36
    ++ ((List.range 8).map (fun m => ((List.range 90).map (fun n =>
        toLE 8 (s.word .GRANULE_OWNER (m * 128 + n)).toNat)).flatten)).flatten
    ++ s.regImage .RED_CFG 256 ++ s.regImage .RED_OUT 256 ++ s.regImage .RED_ADMIT 256 ++ s.regImage .RED_DELIVER 256
    ++ s.regImage .RED_UNITS 256 ++ s.regImage .RED_STATUS 256 ++ s.regImage .RED_STAGE_CFG 256
    ++ s.regImage .RED_STAGE_UNITS 256 ++ s.regImage .RED_STAGE_STATUS 256
    ++ s.regImage .SPUR_FW_CTRL 1 ++ s.regImage .SPUR_OUT_WIN 8 ++ s.regImage .SPUR_IN_WIN 8 ++ s.regImage .SPUR_CAIRN_GRANT 8
    ++ s.regImage .POD_TOPO 1 ++ s.regImage .ROUTE 64 ++ s.regImage .LINK_RES 256 ++ s.regImage .OUTING_STATUS 256)
  ++ s.regImage .CLK_POINT 1 ++ s.regImage .PWR_CTRL 1 ++ s.regImage .THERM_CTRL 1

/-- Sets of one item or plane, after its number. -/
def setsImage (id : Nat) (l : List CalSet) : List Byte :=
  toLE 4 id ++ (l.map (fun c =>
    toLE 4 (BitVec.ofInt 32 c.temp).toNat ++ toLE 8 c.stored ++ (c.values.map (fun v => toLE 4 v)).flatten)).flatten

/-- The calibration part: every item's stored sets (R292), and the saved ring table (R289). -/
def State.calImage (s : State) : List Byte :=
  (s.ridge.items.map (fun (x : Nat × CalItem) => setsImage x.1 x.2.sets)).flatten
    ++ (s.steward.kept.table.map (fun (x : Nat × List CalSet) => setsImage x.1 x.2)).flatten

/-- A position's part: the control registers of its dump, scalars, predicates, cairn image (R433, R200). -/
def State.coreImage (s : State) (k : Nat) : List Byte :=
  let c := s.core k
  let words : List Word := [s.word .CORE_FAULT k, s.coreStatus k, s.word .FP_FLAGS k, s.word .SR_STATE k, s.word .SR_SEED_V k,
    s.word .SR_SEED_M k, s.word .CYCLE_ISSUE k, s.word .CYCLE_FROZEN k, s.word .POD_SEQ k, s.podStatus k,
    s.word .CORE_OUTING k, s.word .STORE_ECC k, s.word .IMEM_ECC k, s.word .REPLAY_CTRL k, s.word .BATCH_MARK k,
    s.word .BATCH_MARK_SR k, s.word .WAIT_STATE k, s.word .WAIT_AGE k]
  let recs := (List.range 4096).map (s.cairnRecord k)
  let h := s.dumpHeader k (s.dumpHead k) recs
  (words.map (fun w => toLE 8 w.toNat)).flatten ++ ((List.range 64).map (fun r => toLE 8 (c.readS r).toNat)).flatten
    ++ ((List.range 16).map (fun r => toLE 16 (c.readP r).toNat)).flatten ++ h ++ toLE 4 (crc32c h).toNat
    ++ recs.flatMap (fun r => toLE 8 r.toNat)

/-- The body of an image (R445); with no save group what lies beyond the steward's die is zero (R444). -/
def State.hamperBody (s : State) (area : List Byte) : List Byte :=
  let near := s.power.group.isSome
  hamperPart true s.logImage ++ hamperPart true (s.configImage near) ++ hamperPart true s.calImage
    ++ hamperPart near ((List.range 36).map s.coreImage).flatten ++ hamperPart true s.podnet.snapshot
    ++ hamperPart true (area.take 0x1000000)

/-- The 64 bytes of a header (table "Hamper header"). -/
def hamperHeader (st reason gen begun seq device : Nat) (body : List Byte) : List Byte :=
  let h := toLE 4 0x52504D48 ++ toLE 2 1 ++ toLE 1 st ++ toLE 1 reason ++ toLE 4 gen ++ toLE 4 body.length ++ toLE 8 begun
    ++ toLE 8 seq ++ toLE 8 (crc64 body).toNat ++ toLE 1 device ++ List.replicate 19 0
  h ++ toLE 4 (crc32c h).toNat

/-- An image with another STATE in its header. -/
def reState (l : List Byte) (st : Nat) : List Byte :=
  let h := (l.take 6) ++ toLE 1 st ++ ((l.take 0x3C).drop 7)
  h ++ toLE 4 (crc32c h).toNat ++ l.drop 0x40

/-- The save writes its image (R443). -/
def State.writeImage (s : State) (area : List Byte) : State :=
  let body := s.hamperBody area
  let gen := max (s.slotGen 0) (s.slotGen 1) + 1
  let h := hamperHeader 1 s.power.reason gen s.power.begun (s.word .LOG_SEQ 0).toNat s.device body
  (s.setSlot s.power.slot (h ++ List.replicate (4096 - 64) 0 ++ body)).showHamper

/-! ### Shedding (R440, R441, R444, R458) -/

/-- The group of eight positions that is saved: the lowest-numbered in service. -/
def State.saveGroup (s : State) : Option Nat :=
  (List.range 4).find? (fun g => (List.range 40).any (fun p => s.planeUp p && s.get PLANE_STATUS_POSITION p / 8 == g))

/-- The planes of a group of positions. -/
def State.planesAt (s : State) (g : Nat) : List Nat :=
  (List.range 40).filter (fun p => s.planeUp p && s.get PLANE_STATUS_POSITION p / 8 == g)

/-- The laser module that carries a group of positions, the keeper of an overlap (R444). -/
def State.carrier (s : State) (g : Nat) : Nat :=
  if s.laserState g = 4 then (if (s.laser g).takeback then g else 4) else if s.laserState g = 3 then g else 4

/-- The data links stop (R440, R448). -/
def State.stopLinks (s : State) : State :=
  (List.range 30).foldl (fun s x => s.modLink x (fun l => { l with stopped := true })) s

/-- Shedding begins (R440). -/
def State.shedNow (s : State) (reason : Nat) (hold : Bool) : State :=
  let slot := s.saveSlot
  let g := s.saveGroup
  let out := (List.range 40).filter (fun p => s.planeUp p && some (s.get PLANE_STATUS_POSITION p / 8) != g)
  let s := s.preempt (fun id => decide (id < 40)) 2
  let s := [4, 7].foldl (fun s b => if s.laserState b = 2 then s.coolStandby b else s) s
  let s := out.foldl (fun s p => s.setPlane p 4) s
  let s := { s with
    power := { s.power with
      shed := true, reason := reason, hold := hold, planes := out, group := g.map s.carrier,
      noSave := decide (s.get BOOT_STATUS_STAGE 0 < 2), slot := slot } }
  let s := s.stopLinks
  let s := kcRegions.foldl (fun s ix => s.catchUp ix) s
  let s := s.setWord .POD_SAVING 0 (s.word .POD_SAVING 0 ||| (1 <<< s.device))
  ((s.put PWR_STATUS_STATE 0 1).interrupt 18).ring .saving

/-- A cause to shed: in RUN or while restoring a shedding begins; during a save none does, but the module may hold itself in
reset after it (R452, R457, R458). With RESET_N low nothing is shed (R505). -/
def State.shed (s : State) (reason : Nat) (hold : Bool) : State :=
  let st := s.powerState
  if s.pins.resetLow ∨ s.pins.held then s
  else if st = 0 ∨ st = 4 then s.shedNow reason hold
  else if hold ∧ st = 3 then (s.selfReset true).put PWR_STATUS_STATE 0 5
  else if hold ∧ st < 3 then { s with power := { s.power with hold := true } }
  else s

/-- The draw is down: the save begins (R440 step 6, R443); its slot holds no image until the header is written. -/
def State.beginSave (s : State) : State :=
  if s.powerState ≠ 1 then s
  else if s.power.noSave then s.put PWR_STATUS_STATE 0 3
  else
    let s := { s with pins := { s.pins with pfsave := false }, power := { s.power with begun := s.uptime } }
    ((s.setSlot s.power.slot [0]).showHamper).put PWR_STATUS_STATE 0 2

/-! ### Restoring (R446, R447) -/

/-- A data link that carried flits trains again, warm (R390, R447). -/
def State.retrainLinks (s : State) : State :=
  (List.range 30).foldl (fun s x =>
    let s := s.modLink x (fun l => { l with stopped := false })
    if s.get POD_LINK_STATUS_STATE x = 2 then s.put POD_LINK_STATUS_STATE x 1 else s) s

/-- The restore begins: the saved image is marked, and the links train. -/
def State.beginRestore (s : State) : State :=
  let s := if s.power.noSave then s
    else
      let i := s.power.slot
      (((s.setSlot i (reState (s.slot i) 2)).showHamper).bump PWR_COUNTS_RECOVERED 0 1).powerEvent 5 0
  (s.retrainLinks).put PWR_STATUS_STATE 0 4

/-- The save ends (R446), or what waited for it acts (R457, R458, R487). -/
def State.endSave (s : State) (vinHeld : Bool) (area : List Byte) : State :=
  if s.powerState ≠ 2 then s
  else
    let s := { s with pins := { s.pins with pfsave := true } }
    let s := ((s.writeImage area).bump PWR_COUNTS_SAVES 0 1).powerEvent 3 0
    if s.power.resetWaits ∧ s.pins.resetLow then s.resetModule true
    else if s.power.hold then (s.selfReset true).put PWR_STATUS_STATE 0 5
    else if s.power.dogWaits then s.selfReset true
    else if vinHeld then s.beginRestore
    else s.put PWR_STATUS_STATE 0 3

/-! ### Heat and the limit -/

/-- A measurement of the input (R452): the soft limit's steps, 2.048 µs apart while LIMITING, and the release of the trip stretch. -/
def State.samplePower (s : State) (vin iin pin avg : Nat) (settled : Bool) : State :=
  let s := ((s.put PWR_STATUS_VIN 0 vin).put PWR_STATUS_IIN 0 iin).put PWR_STATUS_PIN 0 pin
  let s := { s with power := { s.power with avg := avg } }
  let limit := s.powerLimit
  let s := if limit < pin ∧ !s.flag PWR_STATUS_LIMITING 0 then (s.put PWR_STATUS_LIMITING 0 1).powerEvent 8 0
    else if settled ∧ pin * 100 ≤ limit * 98 then s.put PWR_STATUS_LIMITING 0 0 else s
  let s : State := if s.power.trip ∧ pin < limit then
      { s.put PWR_STATUS_TRIPPED 0 0 with power := { s.power with trip := false } } else s
  let due : Bool := s.clk.lastLower == 0 || decide (20 ≤ (s.stepCount 13 + 1 : Nat) - s.clk.lastLower)
  if (s.flag PWR_STATUS_LIMITING 0 || s.power.trip) && due then
    { s with clk := { s.clk with lastLower := s.stepCount 13 + 1 } }.lowerStep
  else s.showClock

/-- Input current over 80 A (R452). -/
def State.tripCurrent (s : State) : State :=
  if s.powerState ≠ 0 then s
  else
    let s := { s.put PWR_STATUS_TRIPPED 0 1 with power := { s.power with trip := true } }
    ((s.bump PWR_COUNTS_TRIPS 0 1).powerEvent 7 1).showClock

/-! ### The ladder (R448-R451) -/

/-- A CORE_PWR request (R448, R449); shedding holds it (R458). -/
def State.requestRung (s : State) (k rung : Nat) : State :=
  let s := s.put CORE_PWR_REQ k rung
  let st := (s.core k).st
  if s.power.shed then s.holdRequest (.core k rung)
  else if st = .stopped ∨ st = .halted then s.put CORE_PWR_RUNG k rung else s

/-- Every core is in L2-L4 or FENCED (R448). -/
def State.allResting (s : State) : Bool := (List.range 36).all (fun k => s.isFenced k || decide (2 ≤ s.get CORE_PWR_RUNG k))

/-- No core and no granule belongs to an outing (R450). -/
def State.noOuting (s : State) : Bool :=
  (List.range 36).all (fun k => s.get CORE_OUTING_OUTING k == 0x3FF)
    && (List.range 8).all (fun m => (List.range 90).all (fun n => s.get GRANULE_OWNER_OWNER (m * 128 + n) == 0x3FF))

/-- Planes 0-7 leave service for L6, or come back. -/
def State.dimPlanes (s : State) (dim : Bool) : State :=
  (List.range 8).foldl (fun s p =>
    if dim ∧ s.planeUp p then s.setPlane p 4 else if !dim ∧ s.planeState p = 4 then s.setPlane p 2 else s) s

/-- The module leaves L6 (R450): what L5 keeps on comes back. -/
def State.leaveDim (s : State) : State :=
  if s.get MODULE_PWR_RUNG 0 = 6 then ((s.dimPlanes false).retrainLinks).put MODULE_PWR_RUNG 0 5 else s

/-- A MODULE_PWR request (R448, R450, R451): a rung whose condition does not hold is refused; shedding holds it (R458). -/
def State.requestModule (s : State) (req : Nat) : State :=
  let s := s.put MODULE_PWR_REQ 0 req
  if s.power.shed then s.holdRequest (.module req)
  else if req = 0 then (s.leaveDim).wakeModule
  else if req = 1 then
    if s.allResting then ((s.leaveDim).put MODULE_PWR_RUNG 0 5).restPlanes true else s.powerEvent 14 0
  else if s.noOuting then (((s.put MODULE_PWR_RUNG 0 6).restPlanes true).dimPlanes true).stopLinks
  else s.powerEvent 14 0

/-! ### The end of a restore -/

/-- The policy requests that shedding held, in order (R43, R458). -/
def State.applyRequests (s : State) : State :=
  s.power.requests.foldl (fun s r => match r with
    | .core k rung => s.requestRung k rung
    | .module req => s.requestModule req
    | .wake dim => (if dim then s.leaveDim else s).wakeModule) { s with power := { s.power with requests := [] } }

/-- Groups that stand at spare start ask again after the restore (R458). -/
def State.askAgain (s : State) : State :=
  (List.range 7).foldl (fun s g =>
    if s.laserState g = 3 ∧ 30 ≤ s.get LASER_GROUP_FADE g ∧ !s.asked g then s.handover g else s) s

/-- The restore ends (R447): planes, compute regions, RESUMED; then what the shedding held is applied and served. A boot cut short starts again at stage 0 (R487). -/
def State.endRestore (s : State) : State :=
  if s.powerState ≠ 4 then s
  else
    let s := s.power.planes.foldl (fun s p => s.setPlane p 2) s
    let s := (List.range 4).foldl (fun s g => if s.laserState g = 4 then s.double g 4 else s) s
    let again := s.power.noSave
    let s := { s with power := { s.power with shed := false, planes := [], group := none, noSave := false, reason := 0 } }
    let s := kcRegions.foldl (fun s ix => s.catchUp ix) s
    let s := s.setWord .POD_SAVING 0 (s.word .POD_SAVING 0 &&& ~~~((1 : Word) <<< s.device))
    let s := ((s.put PWR_STATUS_STATE 0 0).ring .resumed).askAgain
    let s := (s.showClock).applyRequests.releaseWake 37
    if again then
      { s.put BOOT_STATUS_STAGE 0 0 with
        stewardMem := [], steward := { s.steward with loading := none, net := none, offer := false, wait := none } }
    else s

/-! ### Meanings -/

/-- VIN_OVERVOLTAGE (R437, R452). -/
def execVinOvervoltage (s : State) : Host.Outcome State Fault Refusal := .next (s.shed 3 true)

/-- VIN_LOW_BAND (R437). -/
def execVinLowBand (vin : BitVec 14) (s : State) : Host.Outcome State Fault Refusal :=
  let s := s.put PWR_STATUS_VIN 0 vin.toNat
  .next (if s.flag PWR_STATUS_UNDERVOLT 0 then s else ((s.put PWR_STATUS_UNDERVOLT 0 1).powerEvent 1 1).showClock)

/-- VIN_LOW_BAND_EXIT (R437). -/
def execVinLowBandExit (vin : BitVec 14) (s : State) : Host.Outcome State Fault Refusal :=
  .next ((s.put PWR_STATUS_VIN 0 vin.toNat).put PWR_STATUS_UNDERVOLT 0 0).showClock

/-- POWER_WARNING (R440): with RESET_N low the comparator is ignored (R505). -/
def execPowerWarning (s : State) : Host.Outcome State Fault Refusal :=
  .next (if s.pins.resetLow then s
    else (((s.put PWR_STATUS_WARN 0 1).bump PWR_COUNTS_WARNINGS 0 1).powerEvent 2 1).shed 1 false)

/-- SHED_COMPLETE (R440). -/
def execShedComplete (s : State) : Host.Outcome State Fault Refusal := .next s.beginSave

/-- WARNING_CLEAR (R437). -/
def execWarningClear (s : State) : Host.Outcome State Fault Refusal := .next (s.put PWR_STATUS_WARN 0 0)

/-- BROWN_OUT (R437): as RESET_N; without its supply the module stays in reset (R504). -/
def execBrownOut (s : State) : Host.Outcome State Fault Refusal := .next (s.selfReset false)

/-- SAVE_COMPLETE (R446). -/
def execSaveComplete (vinHeld : Bool) (area : List Byte) (s : State) : Host.Outcome State Fault Refusal :=
  .next (s.endSave vinHeld area)

/-- SAVE_WAIT_TIMEOUT (R446): a self-reset as at brown-out, whose record is kept in flash (R418). -/
def execSaveWaitTimeout (s : State) : Host.Outcome State Fault Refusal :=
  .next (if s.powerState = 3 then
    (s.appendNow ⟨0x0C, 6, 3, 13, 0xFF, 0x3FF, s.stepCount 13, 0, 0, 0, none⟩).selfReset false else s)

/-- RESTORE_START (R447). -/
def execRestoreStart (s : State) : Host.Outcome State Fault Refusal :=
  .next (if s.powerState = 3 then s.beginRestore else s)

/-- RESTORE_COMPLETE (R447). -/
def execRestoreComplete (s : State) : Host.Outcome State Fault Refusal := .next s.endRestore

/-- POWER_SAMPLE (R452). -/
def execPowerSample (vin : BitVec 14) (iin pin avg : BitVec 13) (settled : Bool) (s : State) :
    Host.Outcome State Fault Refusal :=
  .next (s.samplePower vin.toNat iin.toNat pin.toNat avg.toNat settled)

/-- CURRENT_TRIP (R452). -/
def execCurrentTrip (s : State) : Host.Outcome State Fault Refusal := .next s.tripCurrent

/-- CORE_PWR_L2 (R448). -/
def execCorePwrL2 (c : CoreRef) (s : State) : Host.Outcome State Fault Refusal := .next (s.requestRung (coreNum c) 2)

/-- CORE_PWR_L3 (R448). -/
def execCorePwrL3 (c : CoreRef) (s : State) : Host.Outcome State Fault Refusal := .next (s.requestRung (coreNum c) 3)

/-- CORE_PWR_L4 (R448). -/
def execCorePwrL4 (c : CoreRef) (s : State) : Host.Outcome State Fault Refusal := .next (s.requestRung (coreNum c) 4)

/-- POSITION_WAKE_COMPLETE (R449): a position that holds operations reaches L2, or has left its rung, and serves them in order. -/
def execPositionWakeComplete (c : CoreRef) (s : State) : Host.Outcome State Fault Refusal :=
  let k := coreNum c
  .next (if SMap.get s.wakeHeld k [] = [] then s
    else (if 3 ≤ s.get CORE_PWR_RUNG k then s.put CORE_PWR_RUNG k 2 else s).releaseWake k)

/-- MODULE_PWR_RUN (R450). -/
def execModulePwrRun (s : State) : Host.Outcome State Fault Refusal := .next (s.requestModule 0)

/-- MODULE_PWR_L5 (R448, R451). -/
def execModulePwrL5 (s : State) : Host.Outcome State Fault Refusal := .next (s.requestModule 1)

/-- MODULE_PWR_L6 (R450, R451). -/
def execModulePwrL6 (s : State) : Host.Outcome State Fault Refusal := .next (s.requestModule 2)

/-- MODULE_WAKE (R450). -/
def execModuleWake (s : State) : Host.Outcome State Fault Refusal := .next s.wakeModule

end Sys2Proof.Machine
end

