-- ==== Sys2Proof/Machine/Boot.lean ====
section
/-! DEFINITION. Boot (R461, R466-R472, R482): images and their checks, rounds and their back-off, the stages, network boot, the
watchdog. -/

namespace Sys2Proof.Machine

/-- Change the steward. -/
def State.modSteward (s : State) (f : Steward → Steward) : State := { s with steward := f s.steward }

/-- A record of class 0x0D: of the steward's die, without values (R488, R518). -/
def State.stewardEvent (s : State) (code sev : Nat) : State := s.raise 0x0D code sev 13 0xFF 0x3FF 0 0 0

/-- BOOT_STATUS.STAGE: 0 ROM, 1 stage 1, 2 stage 2, 3 READY. -/
def State.stage (s : State) : Nat := s.get BOOT_STATUS_STAGE 0

/-- The module runs: it is not in reset and start-up has begun. -/
def State.running (s : State) : Bool := s.pins.up && !s.pins.resetLow && !s.pins.held

/-! ### Images (R471, R472) -/

/-- A signed image's fields. -/
def imgLength (h : List Byte) : Nat := imageField h 0xC 4
def imgSvn (h : List Byte) : Nat := imageField h 8 4
def imgSlot (h : List Byte) : Nat := imageField h 7 1
def imgLoad (h : List Byte) : Nat := imageField h 0x10 8
def imgEntry (h : List Byte) : Nat := imageField h 0x18 8
def imgKey (h : List Byte) : List Byte := (h.drop 0x50).take 97
def imgBE (h : List Byte) (o n : Nat) : Nat := beNat ((h.drop o).take n)

/-- Owner keys are enrolled. -/
def Fuses.owned (f : Fuses) : Bool := f.programmed.getLsbD 2 || f.programmed.getLsbD 3

/-- Check 3: the key slot suits the stage. -/
def slotOk (f : Fuses) (stage k : Nat) : Bool :=
  if stage = 1 then decide (k < 2) else (decide (2 ≤ k) && decide (k < 4)) || (decide (k < 2) && !f.owned)

/-- Check 4: the slot's key. -/
def keyOk (f : Fuses) (h : List Byte) : Bool :=
  let k := imgSlot h
  f.programmed.getLsbD k && !f.revoked.getLsbD k && SMap.get f.hashes k 0 == sha384 (imgKey h)

/-- Check 5: reserved bytes, SVN, LENGTH, the places of body and entry. -/
def headOk (h : List Byte) : Bool :=
  let n := imgLength h
  let a := imgLoad h
  ((h.drop 0xB1).take 15).all (· == 0) && ((h.drop 0x120).take 224).all (· == 0) && decide (imgSvn h ≤ 64)
    && decide (1 ≤ n ∧ n ≤ 0x2000000) && decide (0x80000000 ≤ a ∧ a + n ≤ 0x84000000)
    && decide (a ≤ imgEntry h ∧ imgEntry h < a + n)

/-- Check 6: the signature over the first 0xC0 bytes. -/
def signedOk (h : List Byte) : Bool :=
  h.getD 0x50 0 == 4
    && verifies (imgBE h 0x51 48, imgBE h 0x81 48) (sha384 (h.take 0xC0)).toNat (imgBE h 0xC0 48) (imgBE h 0xF0 48)

/-- Minimum SVN of a stage. -/
def Fuses.minSvn (f : Fuses) (stage : Nat) : Nat := if stage = 1 then f.min1 else f.min2

/-- The first check that an image fails (R472); `body` gives the body its length names. -/
def imageReason (f : Fuses) (stage : Nat) (h : List Byte) (body : Nat → List Byte) : Option Nat :=
  if imageField h 0 4 ≠ 0x49584A48 ∨ imageField h 4 2 ≠ 1 then some 1
  else if imageField h 6 1 ≠ stage then some 2
  else if !slotOk f stage (imgSlot h) then some 3
  else if !keyOk f h then some 4
  else if !headOk h then some 5
  else if !signedOk h then some 6
  else if (body (imgLength h)).length ≠ imgLength h ∨ (sha384 (body (imgLength h))).toNat ≠ imgBE h 0x20 48 then some 7
  else if imgSvn h < f.minSvn stage then some 8
  else none

/-! ### Keys and certificates (R475, R476, R479) -/

/-- The DevID private key. -/
def Fuses.devKey (f : Fuses) : Nat := privateKey (sha384 ([0x01] ++ toBE 48 f.uds.toNat))

/-- A signature with a random per-message secret. -/
def State.sign (s : State) (d digest : Nat) : (Nat × Nat) × State :=
  let r := s.freshBits 6
  (signature d digest (r.1 % (curveN - 1) + 1), r.2)

/-- SVN_STATUS as 8 bytes. -/
def State.svnBytes (s : State) : List Byte := toLE 8 (s.word .SVN_STATUS 0).toNat

/-- The alias key and its certificate, derived at each boot. -/
def State.deriveAlias (s : State) : State :=
  let w := s.steward
  let tag : Byte := if w.fuses.debugOpen then 3 else 2
  let meas := toBE 48 w.meas1.toNat ++ toBE 48 w.meas2.toNat
  let d := privateKey (sha384 ([tag] ++ toBE 48 w.fuses.uds.toNat ++ meas))
  let body := toLE 4 0x54524543 ++ [2, 0, 0, 0] ++ toLE 16 w.fuses.serial.toNat ++ keyBytes (publicKey d)
    ++ List.replicate 7 0 ++ toBE 48 (sha384 (meas ++ s.svnBytes)).toNat
  let q := s.sign w.fuses.devKey (sha384 body).toNat
  q.2.modSteward (fun x => { x with aliasKey := d, aliasCert := body ++ toBE 48 q.1.1 ++ toBE 48 q.1.2 })

/-! ### Stages -/

/-- A hart. -/
def State.hart (s : State) (h : Nat) : Hart := SMap.get s.steward.harts h (if h = 0 then { Hart.reset with on := true } else Hart.reset)

/-- Change a hart; entries equal to the resting hart are not listed. -/
def State.modHart (s : State) (h : Nat) (f : Hart → Hart) : State :=
  let x := f (s.hart h)
  s.modSteward (fun w => { w with harts := SMap.set w.harts h x (if h = 0 then { Hart.reset with on := true } else Hart.reset) })

/-- At stage 2's start the newest VALID Hamper slot is exposed and becomes USED (R445); a slot that a save began and did not
finish is recorded (R459). -/
def State.exposeHamper (s : State) : State :=
  let s := [0, 1].foldl (fun s i =>
    if !(s.slot i).isEmpty ∧ imageState (s.slot i) = 0 then (s.setSlot i []).powerEvent 4 2 else s) s
  let valid := [0, 1].filter (fun i => imageState (s.slot i) == 1)
  match valid.foldl (fun m i => match m with
    | none => some i
    | some j => if s.slotGen j < s.slotGen i then some i else some j) none with
  | some i => (s.setSlot i (reState (s.slot i) 3)).showHamper
  | none => s.showHamper

/-- FENCE is written for each position that the flash keeps as fenced (R426). -/
def State.fenceKept (s : State) : State :=
  s.steward.kept.fenced.foldl (fun s k =>
    if s.isFenced k then s else s.writeCoreFence (coreDie k) (BitVec.ofNat 64 (corePos k * 16 + 1))) s

/-- A verified image runs (R467). -/
def State.runStage (s : State) (stage source : Nat) (h body : List Byte) : State :=
  let fromNet := decide (source = 2)
  let meas := sha384 (h ++ body)
  let s := { s with stewardMem := Mem.setBytes s.stewardMem (imgLoad h) body }
  let s := s.modSteward (fun w => { w with
    meas1 := if stage = 1 then meas else w.meas1, meas2 := if stage = 2 then meas else w.meas2
    net1 := if stage = 1 then fromNet else w.net1, loading := none, net := none, offer := false })
  let s := ((s.put BOOT_STATUS_STAGE 0 stage).put BOOT_STATUS_LAST_SOURCE 0 source).put BOOT_STATUS_NETWORK 0
    (if fromNet || s.steward.net1 then 1 else 0)
  let s := if stage = 1 then s.put SVN_STATUS_RUN_STAGE1 0 (imgSvn h) else s.put SVN_STATUS_RUN_STAGE2 0 (imgSvn h)
  let s := s.modHart 0 (fun x => { x with on := true, mode := 3, pc := BitVec.ofNat 64 (imgEntry h) })
  let s := (s.stewardEvent 1 0)
  let s := if fromNet then s.stewardEvent 4 0 else s
  if stage = 1 then (List.range 15).foldl (fun s i => s.modHart (i + 1) (fun x => { x with on := true })) s
  else ((s.deriveAlias).exposeHamper).fenceKept

/-! ### Rounds (R468, R469) -/

/-- A source of the round failed. -/
def State.sourceFailed (s : State) (source reason : Nat) : State :=
  let s := (s.put BOOT_STATUS_LAST_SOURCE 0 source).put BOOT_STATUS_LAST_REASON 0 reason
  let s := if reason = 0x10 then s.stewardEvent 12 2 else s
  if 1 ≤ s.stage then s.stewardEvent 2 1 else s

/-- The wait after failed round `n`, in µs, with jitter drawn by the true random generator. -/
def backOff (n : Nat) (r : Word) : Nat :=
  let w := if n < 9 then 125000 * 2 ^ n else 64000000
  w + w * r.toNat / 2 ^ 67

/-- Every source has failed: the round is counted, and the module waits. -/
def State.roundFailed (s : State) : State :=
  let n := s.get BOOT_STATUS_ROUNDS 0
  let r := s.fresh
  ((r.2.bump BOOT_STATUS_ROUNDS 0 1).modSteward (fun w => { w with
    loading := none, net := none, offer := false, wait := some (backOff n r.1) })).stewardEvent 3 2

/-- Place of an image slot in the flash (R466). -/
def slotBase (stage source : Nat) : Nat := (2 * (stage - 1) + source) * 0x2000000

/-- The network is tried last (R482): BOOT_REQ names the stage, the serial and the ROM's version. -/
def State.tryNetwork (s : State) (stage : Nat) : State :=
  if s.flag BOOT_CTRL_NET_EN 0 then
    let v := s.fresh
    v.2.modSteward (fun w => { w with
      loading := some stage, offer := true
      sent := w.sent ++ [⟨0xFFFFFFFFFFFF, 1, 0, 0, stage, toLE 16 w.fuses.serial.toNat ++ toLE 8 v.1.toNat⟩] })
  else s.roundFailed

/-- A flash slot is tried. -/
def State.trySlot (s : State) (stage source : Nat) (readError : Bool) (next : State → State) : State :=
  let a := slotBase stage source
  if readError then next (s.sourceFailed source 0x10)
  else
    let h := Mem.bytes s.flash a 512
    let body (n : Nat) : List Byte := Mem.bytes s.flash (a + 512) (min n (0x2000000 - 512))
    match imageReason s.steward.fuses stage h body with
    | some r => next (s.sourceFailed source r)
    | none => s.runStage stage source h (body (imgLength h))

/-- A boot round from slot B on. -/
def State.roundFromB (s : State) (errorB : Bool) : State :=
  let stage := s.stage + 1
  s.trySlot stage 1 errorB (fun s => s.tryNetwork stage)

/-- A boot round. -/
def State.round (s : State) (errorA errorB : Bool) : State :=
  s.trySlot (s.stage + 1) 0 errorA (fun s => s.roundFromB errorB)

/-- A round may start: a stage is still to load, and no round or wait is under way. -/
def State.mayRound (s : State) : Bool :=
  s.running && decide (s.stage < 2) && s.steward.wait.isNone && !s.steward.offer && s.steward.net.isNone
    && decide (s.powerState = 0)

/-- Stage 2 missed READY (R470): the harts are reset and the round goes on with the source after the one that ran. -/
def State.stageTwoLate (s : State) (errorB : Bool) : State :=
  if s.stage ≠ 2 ∨ s.flag BOOT_CTRL_READY 0 then s
  else
    let src := s.get BOOT_STATUS_LAST_SOURCE 0
    let s := (s.put BOOT_STATUS_STAGE 0 1).put BOOT_STATUS_NETWORK 0 (if s.steward.net1 then 1 else 0)
    let s := (s.modSteward (fun w => { w with harts := [] })).put SVN_STATUS_RUN_STAGE2 0 0
    let s := s.sourceFailed src 0x12
    if src = 0 then s.roundFromB errorB else if src = 1 then s.tryNetwork 2 else s.roundFailed

/-! ### Network boot (R482) -/

/-- The network source fails, and with it the round. -/
def State.networkFailed (s : State) (reason : Nat) : State := (s.sourceFailed 2 reason).roundFailed

/-- BOOT_READ for the next block. -/
def State.askBlock (s : State) : State :=
  match s.steward.net with
  | none => s
  | some n => s.modSteward (fun w => { w with sent := w.sent ++ [⟨n.server, 3, 0, 0, n.offset, []⟩] })

/-- The first suitable offer is taken. -/
def State.takeOffer (s : State) (server : BitVec 48) (length : Nat) : State :=
  if s.steward.offer ∧ length ≤ 0x2000000 + 512 then
    (s.modSteward (fun w => { w with offer := false, net := some ⟨server, length, 0, 1, []⟩ })).askBlock
  else s

/-- The image is whole: it is checked as a flash image is. -/
def State.netImage (s : State) (data : List Byte) : State :=
  let stage := s.steward.loading.getD 1
  let h := data.take 512
  let body (n : Nat) : List Byte := (data.drop 512).take n
  match imageReason s.steward.fuses stage h body with
  | some r => s.networkFailed r
  | none => s.runStage stage 2 h (body (imgLength h))

/-- A block arrives: the one asked for, from the server asked. -/
def State.takeBlock (s : State) (server : BitVec 48) (offset : Nat) (data : List Byte) : State :=
  match s.steward.net with
  | none => s
  | some n =>
    if server ≠ n.server ∨ offset ≠ n.offset ∨ data.length ≠ min 1024 (n.length - n.offset) then s
    else
      let all := n.data ++ data
      if n.length ≤ n.offset + 1024 then s.netImage all
      else (s.modSteward (fun w => { w with net := some { n with offset := n.offset + 1024, tries := 1, data := all } })).askBlock

/-- A block is late: asked again, up to 8 times. -/
def State.blockLate (s : State) : State :=
  match s.steward.net with
  | none => s
  | some n =>
    if 8 ≤ n.tries then s.networkFailed 0x11
    else (s.modSteward (fun w => { w with net := some { n with tries := n.tries + 1 } })).askBlock

/-! ### READY and the watchdog (R467, R470) -/

/-- READY is set: stage 2 runs as READY. -/
def State.setReady (s : State) : State := (s.put BOOT_CTRL_READY 0 1).put BOOT_STATUS_STAGE 0 3

/-- The watchdog period passed: the record is kept, and the module resets, after a save under way (R487). -/
def State.watchdog (s : State) : State :=
  if !s.flag BOOT_CTRL_READY 0 then s
  else
    let s := s.appendNow ⟨0x0D, 5, 3, 13, 0xFF, 0x3FF, s.stepCount 13, 0, 0, 0, none⟩
    if s.powerState = 1 ∨ s.powerState = 2 then { s with power := { s.power with dogWaits := true } } else s.selfReset true

/-! ### Meanings -/

/-- BOOT_ROUND_START (R468). -/
def execBootRoundStart (readErrorA readErrorB : Bool) (s : State) : Host.Outcome State Fault Refusal :=
  .next (if s.mayRound then s.round readErrorA readErrorB else s)

/-- BOOT_RETRY_TIMER (R469). -/
def execBootRetryTimer (readErrorA readErrorB : Bool) (s : State) : Host.Outcome State Fault Refusal :=
  let t := s.modSteward (fun w => { w with wait := none })
  .next (if s.steward.wait.isSome ∧ t.mayRound then t.round readErrorA readErrorB else s)

/-- STAGE2_TIMEOUT (R470). -/
def execStage2Timeout (readErrorB : Bool) (s : State) : Host.Outcome State Fault Refusal := .next (s.stageTwoLate readErrorB)

/-- READY (R467, R489). -/
def execReady (s : State) : Host.Outcome State Fault Refusal := .next s.setReady

/-- KICK (R470): the period starts again; STEWARD_WATCHDOG_EXPIRY asserts that one has passed (log entry 5). -/
def execKick (s : State) : Host.Outcome State Fault Refusal := .next s

/-- STEWARD_WATCHDOG_EXPIRY (R470). -/
def execStewardWatchdogExpiry (s : State) : Host.Outcome State Fault Refusal := .next s.watchdog

/-- BOOT_OFFER (R482). -/
def execBootOffer (h : FrameHead) (length : BitVec 64) (s : State) : Host.Outcome State Fault Refusal :=
  .next (s.takeOffer h.mac length.toNat)

/-- BOOT_DATA (R482). -/
def execBootData (h : FrameHead) (offset : BitVec 64) (data : List Byte) (s : State) : Host.Outcome State Fault Refusal :=
  .next (s.takeBlock h.mac offset.toNat data)

/-- BOOT_OFFER_TIMEOUT (R482). -/
def execBootOfferTimeout (s : State) : Host.Outcome State Fault Refusal :=
  .next (if s.steward.offer then s.networkFailed 0x11 else s)

/-- BOOT_DATA_TIMEOUT (R482). -/
def execBootDataTimeout (s : State) : Host.Outcome State Fault Refusal := .next s.blockLate

end Sys2Proof.Machine
end

