-- ==== Sys2Proof/Machine/PodCmds.lean ====
section
/-! DEFINITION. Commands of pod memory and copies: requests at their homes (R204-R213), responses and timers at the port
(R209, R235-R238, R317, R399), combining (R228, R229), the end of a copy (R231-R234), and their registers (R207, R226, R236). -/

namespace Sys2Proof.Machine

/-! ### Responses at the port -/

/-- A response's congestion mark halves the stream's limit, at most once in a µs, to no less than 16 (R399). -/
def State.paceMark (s : State) (k : Nat) : State :=
  let s := s.bump STREAM_PACE_MARKS k 1
  if (s.core k).lastMark = s.uptime + 1 then s
  else (s.put STREAM_PACE_LIMIT k (max 16 (s.get STREAM_PACE_LIMIT k / 2))).modCore k (fun c =>
    { c with lastMark := s.uptime + 1 })

/-- OPC of an operation (R316). -/
def OpKind.opc : OpKind → Nat
  | .pld => 1
  | .pldv => 2
  | .pst => 3
  | .pstv => 4
  | .patom => 5
  | .rcadd => 6
  | .msg => 9
  | .redc => 10
  | .attn => 11

/-- The number a record names: zero for an unchecked operation (R518). -/
def PodOp.recSeq (o : PodOp) : Nat :=
  match o.kind with
  | .rcadd => o.seq.getD 0
  | .patom => o.seq.getD 0
  | .msg => o.seq.getD 0
  | .redc => o.seq.getD 0
  | _ => 0

/-- An operation leaves the unacknowledged ones. -/
def State.dropOp (s : State) (k id : Nat) : State :=
  s.modCore k (fun c => { c with unacked := c.unacked.filter (fun x => x.id != id) })

/-- Data for POD_RESULT_RETURN. -/
def State.giveBack (s : State) (k id : Nat) (data : List Byte) : State :=
  s.modCore k (fun c => { c with unacked := c.unacked.map (fun x => if x.id = id then { x with back := some data } else x) })

/-- An operation is acknowledged: a load or atomic has its data, a store makes its completion add (R211). -/
def State.opDone (s : State) (k : Nat) (o : PodOp) (data : List Byte) : State :=
  match o.kind with
  | .pld => s.giveBack k o.id data
  | .pldv => s.giveBack k o.id data
  | .patom => s.giveBack k o.id data
  | .pst => (s.dropOp k o.id).ownAdd k o.cairn 1 (o.seq.getD 0)
  | .pstv => (s.dropOp k o.id).ownAdd k o.cairn 1 (o.seq.getD 0)
  | _ => s.dropOp k o.id

/-- The word and the vector that stand for data no home could serve (R237). -/
def deadBytes (kind : OpKind) : List Byte := if kind = .pldv then poisonBytes 512 else toLE 8 0xDEADDEADDEADDEAD

/-- A dead target's record (R238). -/
def State.deadRecord (s : State) (k : Nat) (addr : Word) (opc seq outing : Nat) : State :=
  s.raise 0x04 3 2 (coreDie k) (corePos k) outing addr (BitVec.ofNat 64 opc) (BitVec.ofNat 64 seq)

/-- An operation whose target died (3) or met bad data (4) (R237); in the full class a dead target's never completes
(R238). -/
def State.opBad (s : State) (k code : Nat) (o : PodOp) : State :=
  if code = 3 ∧ s.fullClass then
    (s.deadRecord k o.addr o.kind.opc o.recSeq o.outing).modCore k (fun c =>
      { c with unacked := c.unacked.map (fun x => if x.id = o.id then { x with lost := true } else x) })
  else (s.endBadly k code o.addr o.kind.opc o.recSeq o.outing).opDone k o (deadBytes o.kind)

/-- A chunk or check value of a copy met a dead end (R235, R237): `code` 8 names the destination, 0 a timer's expiry. The CRC
covers the bytes the source sent, from its own home or from the dead response; where neither brings them, poison words, the
source having supplied none (R233; DEDUCED, log entry 38). -/
def State.copyDead (s : State) (k ch code : Nat) (data : List Byte) : State :=
  let c := (s.core k).copy ch
  match c.flight with
  | none => s
  | some (n, phase) =>
    let atDst := code == 8 || phase != .chunk || c.dstDead || s.deviceDead (podDevice c.dst)
    let addr := if atDst then c.dst else c.src
    let opc := if atDst then 8 else 7
    if s.fullClass then (s.deadRecord k addr opc 0 c.outing).setCopy k ch { c with lost := true }
    else
      let s := if c.srcDead ∨ c.dstDead then s else s.endBadly k 3 addr opc 0 c.outing
      if atDst then
        (s.setCopy k ch { c with dstDead := true }).copyLanded k ch
          (if data.isEmpty then c.bytes.getD (poisonBytes n) else data) false
      else
        let d := c.dst + BitVec.ofNat 64 (c.sent - n)
        (s.setCopy k ch { c with srcDead := true, flight := some (n, .poison) }).copyMsg k c .copyWrite d 0 n (poisonBytes n)

/-- Segments whose partials have not come. -/
def MergeCtx.awaited (x : MergeCtx) : List Nat := x.waiting.filter (fun i => !x.spilled.contains i)

/-- A segment that sends no partial: refused (status 1, reason 9) or its holder dead (status 4) (R165, R174). A dead answer whose
segment a declaration has counted is not counted again. -/
def State.attnMiss (s : State) (k n status : Nat) (x : MergeCtx) : State :=
  let x := { x with accept := x.accept - 1 }
  if status = 4 ∧ 0 < x.declared then s.setMerge k n (some { x with declared := x.declared - 1 })
  else
  let x := { x with missing := x.missing + 1, status := max x.status status,
                    deadSeen := if status = 4 then x.deadSeen + 1 else x.deadSeen,
                    reason := if status = 1 then 9 else x.reason }
  if status = 4 then
    let addr := x.ptes.getD (x.awaited.headD 0) 0
    if s.fullClass then (s.deadRecord k addr 11 0 x.outing).setMerge k n (some { x with lost := true })
    else (s.endBadly k 3 addr 11 0 x.outing).setMerge k n (some x)
  else s.setMerge k n (some x)

/-- A device is declared dead: the segments it held and whose partials have not come are missing (R174). -/
def State.attnDead (s : State) (k n d : Nat) (x : MergeCtx) : State :=
  let l := x.awaited.filter (fun i => podDevice (x.ptes.getD i 0) == d)
  let seen := min x.deadSeen l.length
  let more := l.length - seen
  let x := { x with deadSeen := x.deadSeen - seen, missing := x.missing + more, declared := x.declared + more }
  let addr := x.ptes.getD (l.headD 0) 0
  if more = 0 then s.setMerge k n (some x)
  else if s.fullClass then (s.deadRecord k addr 11 0 x.outing).setMerge k n (some { x with lost := true })
  else (s.endBadly k 3 addr 11 0 x.outing).setMerge k n (some { x with status := max x.status 4 })

/-- Every merge context of the module that has not lost its request meets a device's death (R174). -/
def State.mergesDead (s : State) (d : Nat) : State :=
  (s.cores.map (·.1)).foldl (fun s k => (List.range 16).foldl (fun s n =>
    match SMap.get (s.core k).merges n none with
    | some x => if x.lost then s else s.attnDead k n d x
    | none => s) s) s

/-- What a sequence number at a port names. -/
inductive PortItem where
  | op (o : PodOp)
  | copy (ch : Nat)
  | merge (n : Nat) (x : MergeCtx)
  | none
  deriving DecidableEq, Repr

/-- Look up a sequence number among what waits for a response. -/
def Core.lookup (c : Core) (seq : Nat) : PortItem :=
  match c.unacked.find? (fun o => o.seq == some seq && o.back.isNone && !o.lost) with
  | some o => .op o
  | none =>
    match (List.range 16).find? (fun n =>
      (c.copy n).status == 1 && (c.copy n).seq == seq && (c.copy n).flight.isSome && !(c.copy n).lost) with
    | some n => .copy n
    | none =>
      match (List.range 16).findSome? (fun n =>
        (SMap.get c.merges n none).bind (fun x => if x.seq = seq ∧ 0 < x.accept ∧ !x.lost then some (n, x) else none)) with
      | some p => .merge p.1 p.2
      | none => .none

/-- A dead response or an expired timer (R235). -/
def State.portDead (s : State) (k seq code : Nat) (data : List Byte) : State :=
  match (s.core k).lookup seq with
  | .op o => s.opBad k 3 o
  | .copy ch => s.copyDead k ch code data
  | .merge n x => s.attnMiss k n 4 x
  | .none => s

/-- A response at core `k`'s port (R317). -/
def State.portResponse (s : State) (k : Nat) (r : Resp) : State :=
  let s := if r.mark then s.paceMark k else s
  let seq := r.seq.toNat
  match r.status with
  | .hold => s
  | .dead => s.portDead k seq r.code.toNat r.data
  | .done =>
    match (s.core k).lookup seq with
    | .op o => s.opDone k o r.data
    | .copy ch => s.copyLanded k ch r.data true
    | .merge n x => s.setMerge k n (some { x with accept := x.accept - 1 })
    | .none => s
  | .refused =>
    match (s.core k).lookup seq with
    | .op o => (s.dropOp k o.id).takeFaults k [portFault 0xA r.code.toNat o.pc]
    | .copy ch => s.copyEnd k ch 4 r.code.toNat
    | .merge n x => s.attnMiss k n 1 x
    | .none => s
  | .dataError =>
    match (s.core k).lookup seq with
    | .op o => s.opBad k 4 o
    | .copy ch =>
      let c := (s.core k).copy ch
      let s := if c.badData then s else s.endBadly k 4 c.src 7 0 c.outing
      s.setCopy k ch { c with badData := true }
    | .merge _ _ => s
    | .none => s

/-- A copy's completion point (R231): the arrival add, and the final status (R232). -/
def State.copyComplete (s : State) (k ch : Nat) : State :=
  let c := (s.core k).copy ch
  if c.status = 1 ∧ c.started ∧ c.flight.isNone ∧ c.sent = c.len ∧ (c.ck = 0 ∨ c.checked ∨ c.dstDead) ∧ !c.lost ∧ !c.aborted then
    let site := podSite c.dst
    let s := if c.dstDead then s
      else if site < 4 then
        s.send (.request (addMsg (podDevice c.dst) site (podOffset c.dst / storeSize % 8) c.cairn 1 (s.stream k) c.seq c.outing true))
      else s.copyOwnAdd k c.cairn c.seq c.outing
    s.copyEnd k ch (if c.srcDead ∨ c.dstDead then 6 else if c.badData then 5 else 2) 0
  else s

/-! ### Homes and gateways -/

/-- Operations held at a site (R235). -/
def State.heldAt (s : State) (site : Nat) : List HomeOp :=
  if 14 ≤ site then
    ((s.podnet.saving.map (·.2)).flatten).filterMap (fun x => match x.1.body with
      | .request opc completion r => some ⟨opc, completion, r⟩
      | _ => none)
  else
  (SMap.get s.held site [] ++ (s.wakeHeld.map (·.2)).flatten ++ s.jobs.filterMap (fun j => j.2.bind Job.op)).filter
    (fun o => podSite o.req.address == site)

/-- The next number of the stream of a landing or of the gateways (R222). -/
def State.takeUnitSeq (s : State) (unit : Nat) : Nat × State :=
  let n := SMap.get s.streamSeq unit 0
  (n, { s with streamSeq := SMap.set s.streamSeq unit ((n + 1) % 2 ^ 32) 0 })

/-- A combining window of a line closes (R228): what it held leaves as one operation of the gateway's stream, and a new window
opens. With 4,096 operations of that stream unanswered it waits (R224). -/
def State.closeWindow (s : State) (w : CombWin) : State :=
  match w.held with
  | [] => { s with combining := s.combining.erase w }
  | o :: _ =>
    if 4096 ≤ (s.combined.filter (fun c => c.unit == w.unit)).length then s
    else
    let size := if o.opc = .cairnAdd then 2 ^ 32 else 2 ^ 64
    let amount (i : Nat) : Nat :=
      ((w.held.filter (fun x => x.req.address.toNat % 64 / 8 == i)).map (fun x => x.req.operand.toNat)).sum % size
    let named (i : Nat) : Bool := w.held.any (fun x => x.req.address.toNat % 64 / 8 == i)
    let q := s.takeUnitSeq w.unit
    let op : HomeOp := ⟨o.opc, false, { Req.blank with
      outing := w.outing, stream := BitVec.ofNat 12 (s.device * 64 + w.unit), seq := BitVec.ofNat 32 q.1, length := 64,
      address := w.line, compare := BitVec.ofNat 64 (((List.range 8).filter named).map (2 ^ ·)).sum,
      data := ((List.range 8).map (fun i => toLE 8 (amount i))).flatten }⟩
    let s := { q.2 with
      combined := q.2.combined ++ [Combined.mk w.unit q.1 w.held]
      combining := q.2.combining.erase w ++ [{ w with held := [] }] }
    s.send (.request op)

/-! ### Meanings -/

/-- LOAD_8 (R213). -/
def execLoad8 (r : Req) (s : State) : Host.Outcome State Fault Refusal := .next (s.receive .load8 false r)

/-- LOAD_512 (R212). -/
def execLoad512 (r : Req) (s : State) : Host.Outcome State Fault Refusal := .next (s.receive .load512 false r)

/-- STORE_8 (R213). -/
def execStore8 (r : Req) (s : State) : Host.Outcome State Fault Refusal := .next (s.receive .store8 false r)

/-- STORE_512 (R212). -/
def execStore512 (r : Req) (s : State) : Host.Outcome State Fault Refusal := .next (s.receive .store512 false r)

/-- ATOMIC (R213, R223, R225). -/
def execAtomic (r : Req) (s : State) : Host.Outcome State Fault Refusal := .next (s.receive .atomic false r)

/-- CAIRN_ADD (R182). -/
def execCairnAdd (r : Req) (completion : Bool) (s : State) : Host.Outcome State Fault Refusal :=
  .next (s.receive .cairnAdd completion r)

/-- COPY_READ (R231). -/
def execCopyRead (r : Req) (s : State) : Host.Outcome State Fault Refusal := .next (s.receive .copyRead false r)

/-- COPY_WRITE (R231). -/
def execCopyWrite (r : Req) (s : State) : Host.Outcome State Fault Refusal := .next (s.receive .copyWrite false r)

/-- MSG_ARRIVAL (R211, R247): a message of the stream of a landing that holds contexts, C0-C3 (R239), is a reduction
delivery. -/
def execMsgArrival (r : Req) (s : State) : Host.Outcome State Fault Refusal :=
  .next (s.receive .msg (decide (32 ≤ r.stream.toNat % 64 ∧ r.stream.toNat % 64 < 36)) r)

/-- A response for a landing or a gateway of this module is that unit's, any other one the port's. -/
def State.takeResponse (s : State) (k : Nat) (r : Resp) : State :=
  match s.unitSends.find? (fun x => r.stream.toNat == s.device * 64 + x.unit && x.seq == r.seq) with
  | some x => if r.status = .hold then s else s.unitAnswer x r.status r.code.toNat
  | none => s.portResponse k r

/-- POD_RESPONSE (R247, R317). -/
def execPodResponse (c : CoreRef) (r : Resp) (s : State) : Host.Outcome State Fault Refusal :=
  .next ((s.arrived (.response r)).takeResponse (coreNum c) r)

/-- RESPONSE_TIMER_EXPIRY (R235). -/
def execResponseTimerExpiry (c : CoreRef) (seq : BitVec 32) (s : State) : Host.Outcome State Fault Refusal :=
  .next (s.portDead (coreNum c) seq.toNat 0 [])

/-- HOME_HOLD_TIMER (R235): a hold response for an operation held at its home. -/
def execHomeHoldTimer (site : Fin 16) (stream : BitVec 12) (seq : BitVec 32) (s : State) :
    Host.Outcome State Fault Refusal :=
  match (s.heldAt site.val).find? (fun o => o.req.stream == stream && o.req.seq == seq) with
  | some o => .next (s.answer o .hold 0 [])
  | none => .next s

/-- SEND_SLOT_RELEASE (R217). -/
def execSendSlotRelease (c : CoreRef) (s : State) : Host.Outcome State Fault Refusal := .next (s.pump (coreNum c))

/-- COMBINE_WINDOW_CLOSE (R228): the line's window that opened first ends, all windows being of one length (log entry 22). -/
def execCombineWindowClose (line : BitVec 64) (s : State) : Host.Outcome State Fault Refusal :=
  .next (match s.combining.find? (fun w => w.line == line) with
    | some w => s.closeWindow w
    | none => s)

/-- COPY_COMPLETE (R231). -/
def execCopyComplete (c : CoreRef) (ch : Fin 16) (s : State) : Host.Outcome State Fault Refusal :=
  .next (s.copyComplete (coreNum c) ch.val)

/-- Granule registers of a stack: 90, or 45 of KB-9600-384 (R206). -/
def State.granuleCount (s : State) : Nat := if s.part = .kb384 then 45 else 90

/-- A GRANULE_OWNER write (R206, R207, R354): a granule wholly beyond CAPACITY keeps OWNER 0x3FF. -/
def State.writeGranule (s : State) (m n : Nat) (v : Word) : State :=
  let i := m * 128 + n
  if s.capacity m ≤ n * 2 ^ 30 then s.regEventAt 1 .GRANULE_OWNER i v else s.writeReg .GRANULE_OWNER i v

/-- A POD_SEQ write (R226). -/
def State.writePodSeq (s : State) (k : Nat) (v : Word) : State :=
  let st := (s.core k).st
  if (st = .stopped ∨ st = .fenced) ∧ s.unacked k = 0 then s.writeReg .POD_SEQ k v else s.regEventAt 1 .POD_SEQ k v

/-- GRANULE_OWNER_WRITE (R206, R207). -/
def execGranuleOwnerWrite (stack : Fin 8) (n : Fin 90) (v : BitVec 64) (s : State) : Host.Outcome State Fault Refusal :=
  .next (s.writeGranule stack.val n.val v)

/-- POD_SEQ_WRITE (R226). -/
def execPodSeqWrite (c : CoreRef) (v : BitVec 64) (s : State) : Host.Outcome State Fault Refusal :=
  .next (s.writePodSeq (coreNum c) v)

/-- POD_CFG_WRITE (R236, R500). -/
def execPodCfgWrite (v : BitVec 64) (s : State) : Host.Outcome State Fault Refusal := .next (s.writeReg .POD_CFG 0 v)

/-- STREAM_LIMIT_RAISE (R399). -/
def execStreamLimitRaise (c : CoreRef) (s : State) : Host.Outcome State Fault Refusal :=
  let k := coreNum c
  .next (s.put STREAM_PACE_LIMIT k (min 4096 (s.get STREAM_PACE_LIMIT k + 64)))

end Sys2Proof.Machine
end

