-- ==== Sys2Proof/Machine/SpurCmds.lean ====
section
/-! DEFINITION. The Spur site and its firewall (R331-R339). -/

namespace Sys2Proof.Machine

/-! ### Checks -/

/-- The Spur site's state changed. -/
def State.modSpur (s : State) (f : Spur → Spur) : State := { s with ridge := { s.ridge with spur := f s.ridge.spur } }

/-- An operation code's kind of access: reads, writes (R336 check 7). -/
def opcAccess (opc : Nat) : Bool × Bool :=
  if opc = 1 ∨ opc = 2 ∨ opc = 7 then (true, false)
  else if opc = 5 then (true, true)
  else (false, true)

/-- Bytes an operation code names: LENGTH where the operation carries data of its own length (R316). -/
def opcSize (opc : Nat) (r : Req) : Nat :=
  if opc = 1 ∨ opc = 3 ∨ opc = 5 ∨ opc = 6 then 8 else if opc = 2 ∨ opc = 4 ∨ opc = 9 ∨ opc = 10 then 512
  else max 1 r.length.toNat

/-- An address range lies in outbound window `n`, with the access it needs (R336 check 7). -/
def State.inOutWin (s : State) (n opc : Nat) (r : Req) : Bool :=
  let a := opcAccess opc
  let o := podOffset r.address
  let base := s.get SPUR_OUT_WIN_BASE n * 4096
  s.flag SPUR_OUT_WIN_EN n && (!a.1 || s.flag SPUR_OUT_WIN_RD n) && (!a.2 || s.flag SPUR_OUT_WIN_WR n)
    && s.get SPUR_OUT_WIN_DEVICE n == podDevice r.address && s.get SPUR_OUT_WIN_SITE n == podSite r.address
    && decide (base ≤ o ∧ o + opcSize opc r ≤ base + 2 ^ s.get SPUR_OUT_WIN_LOG2_SIZE n)

/-- A cairn lies in an enabled grant (R336 check 6). -/
def State.granted (s : State) (n : Nat) (r : Req) : Bool :=
  let o := podOffset r.address - cairnBase
  let c := o % 0x10000 / 8
  s.flag SPUR_CAIRN_GRANT_EN n && s.get SPUR_CAIRN_GRANT_DEVICE n == podDevice r.address
    && s.get SPUR_CAIRN_GRANT_SITE n == podSite r.address && s.get SPUR_CAIRN_GRANT_CORE n == o / 0x10000
    && decide (s.get SPUR_CAIRN_GRANT_FIRST n ≤ c ∧ c < s.get SPUR_CAIRN_GRANT_FIRST n + s.get SPUR_CAIRN_GRANT_COUNT n)

/-- A range lies in inbound window `n`, with the access and the OUTING it needs (R337). -/
def State.inInWin (s : State) (n opc : Nat) (r : Req) : Bool :=
  let a := opcAccess opc
  let o := podOffset r.address
  let base := s.get SPUR_IN_WIN_BASE n * 4096
  s.flag SPUR_IN_WIN_EN n && (!a.1 || s.flag SPUR_IN_WIN_RD n) && (!a.2 || s.flag SPUR_IN_WIN_WR n)
    && s.get SPUR_IN_WIN_OUTING n == r.outing.toNat
    && decide (base ≤ o ∧ o + opcSize opc r ≤ base + 2 ^ s.get SPUR_IN_WIN_LOG2_SIZE n)

/-- The site a message must name: the address's, or for another device its gateway, 14 or 15 (R336 check 5, R394). -/
def State.siteFor (s : State) (a : Word) : List Nat := if podDevice a = s.device then [podSite a] else [14, 15]

/-- The first outbound check that a message fails, 1 to 7 (R336). -/
def State.outCheck (s : State) (m : SpurMsg) : Option Nat :=
  let sites := (List.range 16).filter (fun i => m.sites.getLsbD i)
  let vc := m.vc.toNat
  let opc := m.opc.toNat
  let o := podOffset m.req.address
  let site := sites.headD 0
  let cairn := decide (cairnBase ≤ o ∧ o < cairnBase + 0x80000) && decide (podSite m.req.address < 4)
  if sites.length ≠ 1 ∨ (site = 12) ≠ (vc = 1) then some 1
  else if vc = 1 then (if s.ridge.spur.steward.contains m.tag.toNat then none else some 2)
  else if vc = 2 then (if s.ridge.spur.tags.contains m.tag.toNat then none else some 3)
  else if !(decide (opc < 16) && (s.get SPUR_FW_CTRL_OUT_MASK 0).testBit opc) || (vc == 0 && opc != 6) then some 4
  else if !(s.siteFor m.req.address).contains site then some 5
  else if cairn then
    (if (opc = 6 ∨ opc = 1) ∧ (List.range 8).any (fun n => s.granted n m.req) then none else some 6)
  else if (List.range 8).any (fun n => s.inOutWin n opc m.req) then none
  else some 7

/-- Operation of a code (R316). -/
def opcOf (n : Nat) : Option Opc :=
  match n with
  | 1 => some .load8 | 2 => some .load512 | 3 => some .store8 | 4 => some .store512 | 5 => some .atomic
  | 6 => some .cairnAdd | 7 => some .copyRead | 8 => some .copyWrite | 9 => some .msg | 10 => some .redc
  | 11 => some .attnSegment | _ => none

/-- A firewall record: class 0x08, site 13. -/
def State.firewallEvent (s : State) : State := s.raise 0x08 7 0 4 13 0x3FF 0 0 0

/-- Restamp a request the Spur sends (R335). -/
def State.restamp (s : State) (opc : Opc) (r : Req) : HomeOp × State :=
  let q := s.takeUnitSeq 45
  (⟨opc, false, { r with
    outing := BitVec.ofNat 10 (s.get SPUR_FW_CTRL_OUTING 0), stream := BitVec.ofNat 12 (s.device * 64 + 45),
    seq := BitVec.ofNat 32 q.1 }⟩, q.2)

/-- Pass waiting requests in order while the rate allows their flits (R338). -/
def State.passSpur : List (Nat × HomeOp) → State → State
  | [], s => s
  | (n, op) :: t, s =>
    if n ≤ s.ridge.spur.tokens then
      State.passSpur t ((s.modSpur (fun x => { x with tokens := x.tokens - n, waiting := t })).send (.request op))
    else s

/-- A message from the Spur (R335, R336, R338). -/
def State.spurOut (s : State) (m : SpurMsg) : State :=
  match s.outCheck m with
  | some c =>
    let s := ((s.bump SPUR_FW_STATUS_OUT_REFUSED 0 1).put SPUR_FW_STATUS_LAST_CHECK 0 c).firewallEvent
    if m.vc = 3 ∨ m.vc = 0 then
      s.send (.response ⟨BitVec.ofNat 12 (s.device * 64 + 45), m.req.seq, .refused, 7, false, []⟩)
    else s
  | none =>
    if m.vc = 1 then
      (s.modSpur (fun x => { x with steward := x.steward.erase m.tag.toNat }))
    else if m.vc = 2 then
      let i := s.ridge.spur.tags.findIdx (· == m.tag.toNat)
      let op := s.ridge.spur.inbound[i]?
      let s := s.modSpur (fun x => { x with tags := x.tags.eraseIdx i, inbound := x.inbound.eraseIdx i })
      match op with
      | some o => s.respond o m.resp.status m.resp.code.toNat m.resp.data
      | none => s
    else match opcOf m.opc.toNat with
      | none => s
      | some opc =>
        let q := s.restamp opc m.req
        let l := q.2.ridge.spur.waiting ++ [(m.flits.toNat, q.1)]
        State.passSpur l (q.2.modSpur (fun x => { x with waiting := l }))

/-- A request that reaches site 13 (R337). -/
def State.spurIn (s : State) (tag : Nat) (opc : Opc) (r : Req) : State :=
  let code := opc.ctorIdx + 1
  if podDevice r.address ≠ s.device ∨ podSite r.address ≠ 13 ∨ !s.sitePresent 13 then s
  else
    let s := s.arrived (.request ⟨opc, false, r⟩)
    if (s.get SPUR_FW_CTRL_IN_MASK 0).testBit code ∧ (List.range 8).any (fun n => s.inInWin n code r) then
      s.modSpur (fun x => { x with inbound := x.inbound ++ [⟨opc, false, r⟩], tags := x.tags ++ [tag] })
    else ((s.bump SPUR_FW_STATUS_IN_REFUSED 0 1).respond ⟨opc, false, r⟩ .refused 7 [])

/-- The site's rails go, it is absent until RESET_N, and what it owed ends (R331, R332). -/
def State.spurTrip (s : State) : State :=
  let admitted := s.flag DIE_CAPS_ADMITTED 13
  let owed := s.ridge.spur.inbound
  let s := s.put SITE_MAP_PRESENT 0 (s.get SITE_MAP_PRESENT 0 &&& 0xDFFF)
  let s := (List.range 8).foldl (fun s p => s.portDown (13 * 32 + p)) s
  let s := (s.modSpur (fun _ => { Spur.reset with tokens := 0 })).raise 0x08 6 2 4 13 0x3FF 0 0 0
  if admitted then owed.foldl (fun s o =>
    s.respond o .dead (if o.opc = .copyWrite then 8 else 7) (if o.opc = .copyWrite then o.req.data else [])) s
  else s

/-! ### Meanings -/

/-- SPUR_RESET_RELEASE (R331): the rails of a populated site are up and SP_RESET_N is released. -/
def execSpurResetRelease (s : State) : Host.Outcome State Fault Refusal :=
  .next (if s.sitePresent 13 then s.modSpur (fun x => { x with rails := true, released := true }) else s)

/-- SPUR_POWER_TRIP (R331, R332). -/
def execSpurPowerTrip (s : State) : Host.Outcome State Fault Refusal :=
  .next (if s.sitePresent 13 then s.spurTrip else s)

/-- SPUR_TRAINING_DEADLINE (R331): only a Spur whose ports have begun nothing. -/
def execSpurTrainingDeadline (s : State) : Host.Outcome State Fault Refusal :=
  .next (if s.sitePresent 13 ∧ s.ridge.spur.released ∧ (List.range 8).all (fun p => s.portState (13 * 32 + p) == 0) then
    s.spurTrip else s)

/-- SPUR_OUTBOUND_MESSAGE (R335, R336). -/
def execSpurOutboundMessage (m : SpurMsg) (s : State) : Host.Outcome State Fault Refusal :=
  .next (if s.sitePresent 13 then s.spurOut m else s)

/-- SPUR_INBOUND_REQUEST (R337). -/
def execSpurInboundRequest (tag : BitVec 12) (opc : Opc) (r : Req) (s : State) : Host.Outcome State Fault Refusal :=
  .next (s.spurIn tag.toNat opc r)

/-- FIREWALL_RATE_RELEASE (R338): `flits` more may pass, up to the burst. -/
def execFirewallRateRelease (flits : BitVec 16) (s : State) : Host.Outcome State Fault Refusal :=
  let s := s.modSpur (fun x => { x with
    tokens := min (2 ^ s.get SPUR_FW_CTRL_BURST_LOG2 0) (x.tokens + flits.toNat) })
  .next (State.passSpur s.ridge.spur.waiting s)

end Sys2Proof.Machine
end

