-- ==== Sys2Proof/Machine/Heat.lean ====
section
/-! DEFINITION. Heat (R454-R457): the sensor pairs, throttling, shutdown, and supplies raised for margin. -/

namespace Sys2Proof.Machine

/-- A reading as its register shows it: whole °C, 8-bit two's complement, held at the ends. -/
def shown8 (t : Int) : Nat := (BitVec.ofInt 8 (max (-128) (min 127 t))).toNat

/-- A reading outside -40 to 150 °C. -/
def badReading (t : Int) : Bool := decide (t < -40) || decide (150 < t)

/-- Working temperatures of a location's neighbours on its die (log entry 32). -/
def State.besides (s : State) (ix : Nat) : List Int :=
  let die := ix / 64
  let l := ix % 64
  ((if l = 0 then [] else [l - 1]) ++ (if l + 1 < sensorCount die then [l + 1] else [])).map (fun x => s.working (die * 64 + x))

/-- Their mean, rounded down. -/
def meanOf (l : List Int) : Int := l.sum / l.length

/-- A sensor record names its location. -/
def State.sensorEvent (s : State) (code ix : Nat) : State := s.raise 0x0C code 1 (ix / 64) (ix % 64) 0x3FF 0 0 0

/-- Judge a pair of readings: the shown readings and the markings (R454). -/
def State.mark (s : State) (ix : Nat) (d r : Int) : State :=
  let old := s.get SENSOR_STATUS_INVALID ix
  let inv := old ||| ((if badReading d then 1 else 0) + (if badReading r then 2 else 0))
  let s := (s.put SENSOR_STATUS_DIODE ix (shown8 d)).put SENSOR_STATUS_RING ix (shown8 r)
  let s := if inv = old then s else (s.put SENSOR_STATUS_INVALID ix inv).sensorEvent 12 ix
  let far := inv == 0 && decide (5 < (d - r).natAbs)
  let s := s.put SENSOR_STATUS_OUT_RUNS ix (if far then min 16 (s.get SENSOR_STATUS_OUT_RUNS ix + 1) else 0)
  if s.get SENSOR_STATUS_OUT_RUNS ix = 16 ∧ !s.flag SENSOR_STATUS_SUSPECT ix then
    (s.put SENSOR_STATUS_SUSPECT ix 1).sensorEvent 11 ix
  else s

/-- The working temperature of a marked pair (R454); with no reading and no neighbour it is a free value. -/
def State.judgeSensor (s : State) (ix : Nat) (d r : Int) : State :=
  let inv := s.get SENSOR_STATUS_INVALID ix
  let near := s.besides ix
  let good := (if inv % 2 = 0 then [d] else []) ++ (if inv / 2 % 2 = 0 then [r] else [])
  let set (t : Int) (s : State) : State := s.put SENSOR_STATUS_WORKING ix (shown8 t)
  match good with
  | [] =>
    if near.isEmpty then
      let f := s.fresh
      set (f.1.toNat % 256 : Nat) f.2
    else set (meanOf near + 5) s
  | x :: t =>
    let top := t.foldl max x
    if s.flag SENSOR_STATUS_SUSPECT ix ∧ near ≠ [] then set (max top (meanOf near)) s else set top s

/-- The working temperatures that a throttle looks at (R456). -/
def State.hottestKc (s : State) : Int := kcSensors.foldl (fun m x => max m (s.working x)) (-128)

/-- Throttling follows the compute dies' temperatures (R456). -/
def State.throttle (s : State) : State :=
  let t := s.hottestKc
  let level := temp8 (s.get THERM_CTRL_THROTTLE 0)
  let s := if level ≤ t ∧ !s.flag THERM_STATUS_THROTTLING 0 then (s.put THERM_STATUS_THROTTLING 0 1).powerEvent 9 1 else s
  let heat := decide (level + 5 ≤ t) || (s.power.heat && decide (level ≤ t))
  let cool := if t < level - 3 then s.power.cool + 1 else 0
  let s := { s.put THERM_STATUS_STRETCHING 0 (if heat then 1 else 0) with
    power := { s.power with heat := heat, cool := min cool 5 } }
  (if 5 ≤ cool then s.put THERM_STATUS_THROTTLING 0 0 else s).showClock

/-- A check of a die's sensor pairs (R454); die 14 stands for the Spur's diode (R457). -/
def State.checkSensors (s : State) (die : Nat) (diode ring : List Int) : State :=
  if die = 14 then (if 110 ≤ diode.headD 0 ∧ s.sitePresent 13 then s.spurTrip else s)
  else
    let n := min (sensorCount die) (min diode.length ring.length)
    let l := (List.range n).map (fun i => (die * 64 + i, diode.getD i 0, ring.getD i 0))
    let s := l.foldl (fun s x => s.mark x.1 x.2.1 x.2.2) s
    let needs (s : State) (ix : Nat) : Bool := s.flag SENSOR_STATUS_SUSPECT ix || s.get SENSOR_STATUS_INVALID ix == 3
    let s := l.foldl (fun s x => if needs s x.1 then s else s.judgeSensor x.1 x.2.1 x.2.2) s
    let s := l.foldl (fun s x => if needs s x.1 then s.judgeSensor x.1 x.2.1 x.2.2 else s) s
    if die < 4 then s.throttle else s

/-- Every location of the module as (temperature in °C, die): sensor pairs, then stack layers (R454, R359). -/
def State.allTemps (s : State) : List (Int × Nat) :=
  (((List.range 17).map (fun d => (List.range (sensorCount d)).map (fun i => (s.working (d * 64 + i), d)))).flatten)
    ++ ((List.range 8).map (fun m => (s.stackSt m).temps.map (fun x => (x.2 / 6000, 5 + m)))).flatten

/-- The highest working temperature and its die: HOTTEST and HOTTEST_DIE (R460). -/
def State.hottest (s : State) : Int × Nat := s.allTemps.foldl (fun m x => if m.1 < x.1 then x else m) (s.working 0, 0)

/-! ### Meanings -/

/-- SENSOR_CHECK (R454). -/
def execSensorCheck (die : Fin 17) (diode ring : List Int) (s : State) : Host.Outcome State Fault Refusal :=
  .next (s.checkSensors die.val diode ring)

/-- THERMAL_LOWER_STEP (R456). -/
def execThermalLowerStep (s : State) : Host.Outcome State Fault Refusal :=
  .next (if temp8 (s.get THERM_CTRL_THROTTLE 0) ≤ s.hottestKc then s.lowerStep else s)

/-- THERMAL_SHUTDOWN (R457): at the Spur's diode, site 13 is removed instead. -/
def execThermalShutdown (spur : Bool) (s : State) : Host.Outcome State Fault Refusal :=
  .next (if spur then (if s.sitePresent 13 then s.spurTrip else s) else (s.powerEvent 10 3).shed 2 true)

/-- SUPPLY_MARGIN (R456). -/
def execSupplyMargin (die : Fin 14) (s : State) : Host.Outcome State Fault Refusal :=
  let d := die.val
  .next (if SMap.get s.power.supply d 0 = 30
      ∧ (List.range (regionCount d)).any (fun r => s.flag REGION_STATUS_WARN (d * 32 + r)) then
    s.raise 0x0C 13 1 d 0xFF 0x3FF 0 0 0 else s)

end Sys2Proof.Machine
end

