-- ==== Sys2Proof/Machine/Harts.lean ====
section
/-! DEFINITION. The harts as the model's rows meet them (R26, R461-R463, R493): traps, Sv48 translation, and the platform-level
interrupt controller. What these standards fix is PRESUMED from them (log entry 11). -/

namespace Sys2Proof.Machine

/-! ### Traps -/

/-- A hart takes an exception: at supervisor level when that level takes it and the hart is not in machine mode, otherwise at machine
level. -/
def Hart.trap (x : Hart) (cause : Nat) (tval : Word) : Hart :=
  if x.mode < 3 ∧ x.medeleg.getLsbD cause then
    { x with sepc := x.pc, scause := BitVec.ofNat 64 cause, stval := tval, spie := x.sie, sie := false, spp := x.mode == 1
             mode := 1, pc := x.stvec &&& ~~~3 }
  else
    { x with mepc := x.pc, mcause := BitVec.ofNat 64 cause, mtval := tval, mpie := x.mie, mie := false, mpp := x.mode
             mode := 3, pc := x.mtvec &&& ~~~3 }

/-- Hart `h` takes an exception. -/
def State.trap (s : State) (h cause : Nat) (a : Nat) : State := s.modHart h (·.trap cause (BitVec.ofNat 64 a))

/-- A hart takes an access-fault exception: cause 5 for a load, 7 for a store. -/
def State.accessFault (s : State) (h a : Nat) (write : Bool) : State := s.trap h (if write then 7 else 5) a

/-! ### Sv48 -/

/-- What a walk ends in: a physical address, a page fault, or an access fault on an entry. -/
inductive Walked where
  | at_ (a : Nat)
  | pageFault
  | accessFault
  deriving DecidableEq, Repr

/-- Bit `i` of a page table entry: 0 V, 1 R, 2 W, 3 X, 4 U, 6 A, 7 D. -/
def pteBit (w : Word) (i : Nat) : Bool := w.getLsbD i

/-- The page of an entry. -/
def ptePage (w : Word) : Nat := bits 53 10 w.toNat

/-- A leaf admits the access. -/
def leafOk (x : Hart) (w : Word) (write : Bool) : Bool :=
  (if write then pteBit w 2 else pteBit w 1 || (x.mxr && pteBit w 3))
    && (if x.mode = 0 then pteBit w 4 else !pteBit w 4 || x.sum)
    && pteBit w 6 && (!write || pteBit w 7)

/-- The walk of `level` + 1 levels from a table's page. Entries lie in steward memory. -/
def State.walk (s : State) (x : Hart) (va : Nat) (write : Bool) : Nat → Nat → Walked
  | level, page =>
    let a := page * 4096 + va / 2 ^ (12 + 9 * level) % 512 * 8
    match locate a with
    | .stewardMem y =>
      let w := Mem.word s.stewardMem y
      if !pteBit w 0 || (!pteBit w 1 && pteBit w 2) then .pageFault
      else if pteBit w 1 || pteBit w 3 then
        if leafOk x w write && ptePage w % 2 ^ (9 * level) == 0 then
          .at_ (ptePage w * 4096 + va % 2 ^ (12 + 9 * level))
        else .pageFault
      else match level with
        | 0 => .pageFault
        | l + 1 => State.walk s x va write l (ptePage w)
    | _ => .accessFault

/-- The physical address of a hart's access: translated by Sv48 below machine mode where satp asks for it. -/
def State.translate (s : State) (x : Hart) (va : Nat) (write : Bool) : Walked :=
  if x.mode < 3 ∧ bits 63 60 x.satp.toNat = 9 then s.walk x va write 3 (bits 43 0 x.satp.toNat) else .at_ va

/-! ### The interrupt controller (R463) -/

/-- Index of a context's enable word and of its threshold; its claim register follows the threshold. -/
def plicEnable (ctx : Nat) : Nat := 0x800 + 0x20 * ctx
def plicThreshold (ctx : Nat) : Nat := 0x80000 + 0x400 * ctx

/-- A stored word of the interrupt controller. -/
def State.plicWord (s : State) (i : Nat) : Nat := SMap.get s.steward.plic i 0

/-- Sources pending for a context: enabled there, with a priority that is not 0. -/
def State.pendingFor (s : State) (ctx : Nat) : List Nat :=
  (List.range 32).filter (fun n =>
    s.steward.irq.getLsbD n && (s.plicWord (plicEnable ctx)).testBit n && decide (0 < s.plicWord n))

/-- A context's external interrupt is pending: 2h is hart h's machine level, 2h + 1 its supervisor level. -/
def State.external (s : State) (ctx : Nat) : Bool :=
  (s.pendingFor ctx).any (fun n => decide (s.plicWord (plicThreshold ctx) < s.plicWord n))

/-- A claim takes the pending source of the highest priority, the lowest-numbered of several; 0 is none. -/
def State.claim (s : State) (ctx : Nat) : Nat × State :=
  let best := (s.pendingFor ctx).foldl (fun m n => if m = 0 ∨ s.plicWord m < s.plicWord n then n else m) 0
  if best = 0 then (0, s)
  else (best, s.modSteward (fun w => { w with irq := w.irq &&& ~~~((1 : BitVec 32) <<< best), claimed := w.claimed ||| (1 <<< best) }))

/-- A context completes a source that is enabled there: a request that came meanwhile is pending now. -/
def State.complete (s : State) (ctx n : Nat) : State :=
  if n < 32 ∧ (s.plicWord (plicEnable ctx)).testBit n then
    s.modSteward (fun w => { w with
      claimed := w.claimed &&& ~~~((1 : BitVec 32) <<< n), irq := w.irq ||| (w.again &&& (1 <<< n)), again := w.again &&& ~~~((1 : BitVec 32) <<< n) })
  else s

/-- The context whose claim register an index names. -/
def claimOf (i : Nat) : Option Nat :=
  if 0x80000 ≤ i ∧ i < 0x80000 + 0x400 * 32 ∧ (i - 0x80000) % 0x400 = 1 then some ((i - 0x80000) / 0x400) else none

/-- An index of a priority, an enable word or a threshold. -/
def plicStored (i : Nat) : Bool :=
  decide (0 < i ∧ i < 32) || (decide (0x800 ≤ i ∧ i < 0x800 + 0x20 * 32) && (i - 0x800) % 0x20 == 0)
    || (decide (0x80000 ≤ i ∧ i < 0x80000 + 0x400 * 32) && (i - 0x80000) % 0x400 == 0)

/-- A read of the interrupt controller: the pending word shows the sources, a claim register claims. -/
def State.readPlic (s : State) (o : Nat) : Word × State :=
  let i := o / 4
  match claimOf i with
  | some ctx => let r := s.claim ctx; (BitVec.ofNat 64 r.1, r.2)
  | none => (if i = 0x400 then s.steward.irq.zeroExtend 64 else BitVec.ofNat 64 (s.plicWord i), s)

/-- A write of the interrupt controller: a claim register completes; source 0 does not exist. -/
def State.writePlic (s : State) (o : Nat) (v : Word) : State :=
  let i := o / 4
  let x := v.toNat % 2 ^ 32
  match claimOf i with
  | some ctx => s.complete ctx x
  | none =>
    if plicStored i then
      s.modSteward (fun w => { w with plic := SMap.set w.plic i (if 0x800 ≤ i ∧ i < 0x80000 then x / 2 * 2 else x) 0 })
    else s

end Sys2Proof.Machine
end

