-- ==== Sys2Proof/Machine/Security.lean ====
section
/-! DEFINITION. The security block's commands (R473, R474, R477, R487, R489) and attestation (R478, R483). -/

namespace Sys2Proof.Machine

/-! ### Commands -/

/-- SEC_DATA's first `n` bytes. -/
def State.secData (s : State) (n : Nat) : List Byte :=
  (((List.range 8).map (fun i => toLE 8 (s.word .SEC_DATA i).toNat)).flatten).take n

/-- A command runs: BUSY, its RESULT to come, and what it blows. -/
def State.secRun (s : State) (result : Nat) (blow : Blow) : State :=
  (s.put SEC_STATUS_BUSY 0 1).modSteward (fun w => { w with sec := result, blow := blow })

/-- While a command runs another is ignored with a register-state event (R487). -/
def State.secWhenFree (s : State) (v : Word) (f : State → State) : State :=
  if s.flag SEC_STATUS_BUSY 0 then s.regEventAt 3 .SEC_CMD 0 v else f s

/-- The fuses now read as given. -/
def State.setFuses (s : State) (f : Fuses) : State := (s.modSteward (fun w => { w with fuses := f })).showFuses

/-- EXTEND: MEAS_EXT = SHA-384(MEAS_EXT ‖ first 48 bytes of SEC_DATA). -/
def State.extend (s : State) : State :=
  let m := sha384 (toBE 48 s.steward.measExt.toNat ++ s.secData 48)
  (s.modSteward (fun w => { w with measExt := m })).secRun 1 .nothing

/-- SET_USER_DATA. -/
def State.setUserData (s : State) : State :=
  let v := BitVec.ofNat 512 (leNat (s.secData 64))
  (s.modSteward (fun w => { w with user := v })).secRun 1 .nothing

/-- Fuses that do not blow leave each of theirs blown or not (FUSE_FAILED). -/
def State.fuseFailed (s : State) (blow : Blow) : State :=
  (((s.modSteward (fun w => { w with blow := blow })).partBlown).showFuses).secRun 3 .nothing

/-- ENROL: an unprogrammed owner slot takes the hash in SEC_DATA. -/
def State.enrol (s : State) (k : Nat) (ok : Bool) : State :=
  let f := s.steward.fuses
  if f.programmed.getLsbD k then s.secRun 2 .nothing
  else
    let before := SMap.get f.hashes k 0
    let s := s.setFuses { f with
      hashes := SMap.set f.hashes k (BitVec.ofNat 384 (beNat (s.secData 48))) 0, programmed := f.programmed ||| (1 <<< k) }
    if ok then s.secRun 1 (.slot k before false) else s.fuseFailed (.slot k before false)

/-- REVOKE: a slot's revoke fuse. -/
def State.revoke (s : State) (k : Nat) (ok : Bool) : State :=
  let f := s.steward.fuses
  if f.revoked.getLsbD k then s.secRun 1 .nothing
  else
    let s := s.setFuses { f with revoked := f.revoked ||| (1 <<< k) }
    if ok then s.secRun 1 (.revoke k false) else s.fuseFailed (.revoke k false)

/-- ADVANCE: the minimum rises to min(ARG, SVN of the running image); at or below it nothing blows. -/
def State.advanceSvn (s : State) (stage2 : Bool) (arg : Nat) (ok : Bool) : State :=
  let f := s.steward.fuses
  let run := if stage2 then s.get SVN_STATUS_RUN_STAGE2 0 else s.get SVN_STATUS_RUN_STAGE1 0
  let old := if stage2 then f.min2 else f.min1
  let new := min arg run
  if new ≤ old then s.secRun 1 .nothing
  else
    let s := s.setFuses (if stage2 then { f with min2 := new } else { f with min1 := new })
    if ok then s.secRun 1 (.svn stage2 old) else s.fuseFailed (.svn stage2 old)

/-- What SEC_CMD names; a reserved encoding is recorded (R19). -/
def State.secCommand (s : State) (cmd arg : Nat) (ok : Bool) (v : Word) : State :=
  if cmd = 0 ∨ 11 ≤ cmd then s.regEventAt 1 .SEC_CMD 0 v
  else s.secWhenFree v (fun s =>
    if cmd = 1 then s.extend
    else if cmd = 2 then s.setUserData
    else if cmd < 5 then s.enrol (cmd - 1) ok
    else if cmd < 9 then s.revoke (cmd - 5) ok
    else s.advanceSvn (decide (cmd = 10)) arg ok)

/-- A SEC_CMD write; whether fuses blow is the hardware's, a free value. -/
def State.writeSecCmd (s : State) (v : Word) : State :=
  let r := s.fresh
  if s.flag SEC_STATUS_BUSY 0 then s.regEventAt 3 .SEC_CMD 0 v
  else (r.2.writeReg .SEC_CMD 0 v).secCommand (bits 3 0 v.toNat) (bits 15 8 v.toNat) (r.1.getLsbD 0) v

/-- A command completes: RESULT, the interrupt, and the record of what it changed (R463, R488). -/
def State.secDone (s : State) : State :=
  if !s.flag SEC_STATUS_BUSY 0 then s
  else
    let w := s.steward
    let s := ((s.put SEC_STATUS_BUSY 0 0).put SEC_STATUS_RESULT 0 w.sec).interrupt 20
    let s := s.modSteward (fun w => { w with blow := .nothing })
    match w.blow with
    | .nothing => s
    | .slot _ _ _ => s.stewardEvent 6 0
    | .revoke _ _ => s.stewardEvent 7 0
    | .svn _ _ => s.stewardEvent 8 0

/-! ### Attestation -/

/-- The report before its signature (R478). -/
def State.report (s : State) (nonce : BitVec 384) : List Byte :=
  let w := s.steward
  let flags := (if w.fuses.debugOpen then 1 else 0) + 2 * s.get BOOT_STATUS_NETWORK 0 + 4 * s.get PKG_CAPS_MIXED_REV 0
  toLE 4 0x54535441 ++ toLE 2 1 ++ toLE 2 flags ++ toLE 16 w.fuses.serial.toNat ++ toLE 48 nonce.toNat
    ++ toBE 48 w.meas1.toNat ++ toBE 48 w.meas2.toNat ++ toBE 48 w.measExt.toNat ++ s.svnBytes
    ++ toLE 8 (s.word .PKG_CAPS 0).toNat ++ s.regImage .DIE_CAPS 14 ++ toLE 64 w.user.toNat ++ toLE 8 s.uptime
    ++ toLE 8 (s.get BOOT_STATUS_ROUNDS 0)

/-- A reply to a management frame (R480). -/
def State.reply (s : State) (h : FrameHead) (kind status arg : Nat) (data : List Byte) : State :=
  s.modSteward (fun w => { w with sent := w.sent ++ [⟨h.mac, kind + 0x80, status, h.xid, arg, data⟩] })

/-- ATTEST_REQ: BUSY before stage 1, during a save, or while a request is pending. -/
def State.attestRequest (s : State) (h : FrameHead) (nonce : BitVec 384) : State :=
  if s.stage < 1 ∨ s.powerState = 2 ∨ s.steward.attest.isSome then s.reply h 0x10 2 0 []
  else s.modSteward (fun w => { w with attest := some (h, nonce) })

/-- `n` bytes, zeros where there are fewer. -/
def padTo (n : Nat) (l : List Byte) : List Byte := (l ++ List.replicate n 0).take n

/-- The answer: report, DevID certificate, alias certificate (R483). -/
def State.attestReply (s : State) : State :=
  match s.steward.attest with
  | none => s
  | some (h, nonce) =>
    let r := s.report nonce
    let q := s.sign s.steward.aliasKey (sha384 r).toNat
    let data := r ++ toBE 48 q.1.1 ++ toBE 48 q.1.2 ++ padTo 272 s.steward.kept.cert ++ padTo 272 s.steward.aliasCert
    ((q.2.modSteward (fun w => { w with attest := none })).reply h 0x10 0 0 data).stewardEvent 9 0

/-! ### Meanings -/

/-- EXTEND (R477). -/
def execExtend (s : State) : Host.Outcome State Fault Refusal := .next (s.secCommand 1 0 true 1)

/-- SET_USER_DATA (R477). -/
def execSetUserData (s : State) : Host.Outcome State Fault Refusal := .next (s.secCommand 2 0 true 2)

/-- ENROL (R473): owner slot 2 or 3. -/
def execEnrol (slot : Fin 2) (fuses : Bool) (s : State) : Host.Outcome State Fault Refusal :=
  .next (s.secCommand (3 + slot.val) 0 fuses (BitVec.ofNat 64 (3 + slot.val)))

/-- REVOKE (R473). -/
def execRevoke (slot : Fin 4) (fuses : Bool) (s : State) : Host.Outcome State Fault Refusal :=
  .next (s.secCommand (5 + slot.val) 0 fuses (BitVec.ofNat 64 (5 + slot.val)))

/-- ADVANCE (R474). -/
def execAdvance (stage2 : Bool) (target : BitVec 8) (fuses : Bool) (s : State) : Host.Outcome State Fault Refusal :=
  let cmd := if stage2 then 10 else 9
  let v := BitVec.ofNat 64 (target.toNat * 256 + cmd)
  .next (s.secWhenFree v (fun s => (s.put SEC_CMD_ARG 0 target.toNat).secCommand cmd target.toNat fuses v))

/-- SEC_COMMAND_COMPLETE (R463). -/
def execSecCommandComplete (s : State) : Host.Outcome State Fault Refusal := .next s.secDone

/-- ATTEST_REQ (R483). -/
def execAttestReq (h : FrameHead) (nonce : BitVec 384) (s : State) : Host.Outcome State Fault Refusal :=
  .next (s.attestRequest h nonce)

/-- ATTEST_REPLY (R483). -/
def execAttestReply (s : State) : Host.Outcome State Fault Refusal := .next s.attestReply

end Sys2Proof.Machine
end

