-- ==== Sys2Proof/Machine/Launch.lean ====
section
/-! DEFINITION. The Saddle's arbiters: launches (R260-R270) and landings (R268, R271), position by position. -/

namespace Sys2Proof.Machine

/-! ### Arbiters (R267) -/

/-- The weight of MGMT, RESP or REQ, the classes 1 to 3, in LAUNCH_ARB (R270). -/
def weightOf (w : Word) (c : Nat) : Nat :=
  match c with
  | 1 => bits 11 8 w.toNat
  | 2 => bits 15 12 w.toNat
  | _ => bits 19 16 w.toNat

/-- CTRL flits of the last 32 positions. -/
def Arb.ctrlSent (x : Arb) : Nat := ((List.range 32).filter (fun i => x.ctrl.getLsbD i)).length

/-- A position passes; whether it sent CTRL. -/
def Arb.pass (x : Arb) (ctrl : Bool) : Arb := { x with ctrl := (x.ctrl <<< 1) ||| (if ctrl then 1 else 0) }

/-- Deficit round robin, counting flits, among the eligible of MGMT, RESP and REQ: the class that is served keeps its turn for as
many flits as its weight. -/
def Arb.robin (x : Arb) (w : Word) (ok : Nat → Bool) : Option (Nat × Arb) :=
  if ok x.turn ∧ 0 < x.left then some (x.turn, { x with left := x.left - 1 })
  else
    match [x.turn % 3 + 1, (x.turn + 1) % 3 + 1, (x.turn + 2) % 3 + 1].find? ok with
    | some c => some (c, { x with turn := c, left := weightOf w c - 1 })
    | none => none

/-- The class a position sends, preferring CTRL under its cap, then what the round robin picks, then CTRL (R267). -/
def Arb.pick (x : Arb) (w : Word) (ok : Nat → Bool) : Option Nat × Arb :=
  if ok 0 ∧ x.ctrlSent < bits 5 0 w.toNat then (some 0, x.pass true)
  else match x.robin w ok with
    | some (c, y) => (some c, y.pass false)
    | none => if ok 0 then (some 0, x.pass true) else (none, x.pass false)

/-- LAUNCH_ARB of a site as of the last slot boundary (R270). -/
def State.arbWord (s : State) (site : Nat) : Word := SMap.get s.ridge.weights site (RegName.LAUNCH_ARB.reset site)

/-- A slot begins: the weights written since the last one take effect. -/
def State.latchWeights (s : State) : State :=
  { s with ridge := { s.ridge with
    weights := (List.range 16).foldl (fun m i => SMap.set m i (s.word .LAUNCH_ARB i) (RegName.LAUNCH_ARB.reset i)) s.ridge.weights } }

/-! ### Launches -/

/-- Flits waiting at a launch. -/
def State.waitingAt (s : State) (a : Nat) : List Waiting := SMap.get s.ridge.launch a []

/-- The oldest waiting flit of a class that goes to one site alone. -/
def State.unicast (s : State) (a b c : Nat) : Option Waiting :=
  (s.waitingAt a).find? (fun w => flitVc w.flit == c && flitDests a w.flit == [b])

/-- The head of a launch's multicast queue for a class (R269). -/
def State.multicast (s : State) (a c : Nat) : Option Waiting :=
  (s.waitingAt a).find? (fun w => flitVc w.flit == c && decide (1 < (flitDests a w.flit).length))

/-- A class of a pair is eligible: it has a flit and a credit (R267). -/
def State.eligibleAt (s : State) (a b c : Nat) : Bool := (s.unicast a b c).isSome && s.credit a b c

/-- A waiting flit leaves its launch for the pairs to `l` at a position: each pair holds it until its credit returns (R264), and its
Casob buffer is free. -/
def State.light (s : State) (a place : Nat) (planes l : List Nat) (w : Waiting) : State :=
  let s := { s with ridge := { s.ridge with launch := SMap.set s.ridge.launch a ((s.waitingAt a).erase w) [] } }
  let s := l.foldl (fun s b => s.modPair a b (fun x => { x with
    sent := x.sent ++ [⟨place, x.planes planes, onSaddle w.flit⟩] })) s
  match w.port with
  | some ix => s.modEnd ix 1 (·.free w.flit)
  | none => s

/-- The next flit of a replay goes again, to this destination alone (R263, R264). -/
def State.sendAgain (s : State) (a b place : Nat) (planes : List Nat) : State :=
  s.modPair a b (fun x =>
    let i := x.sent.length - x.resend
    { x with
      sent := x.sent.modify i (fun y => { y with place := place, planes := x.planes planes })
      resend := x.resend - 1
      resume := some (x.resume.getD place)
      arb := x.arb.pass false })

/-- A pair held for a reserved multicast flit sends a replay that is due, or an idle flit (R269). -/
def State.holdPair (s : State) (a b place : Nat) (planes : List Nat) : State :=
  if 0 < (s.pair a b).resend then s.sendAgain a b place planes else s.modPair a b (fun x => { x with arb := x.arb.pass false })

/-- A launch's multicast flit of a class at a position, of which the pairs in `free` can still be used (R269): it goes where every
destination has a credit and no replay, and every pair's arbiter grants the class or is reserved. What remains free is answered. -/
def State.launchMulti (s : State) (a place : Nat) (planes : List Nat) (c : Nat) (free : List Nat) : State × List Nat :=
  match s.multicast a c with
  | none => (s, free)
  | some w =>
    let l := flitDests a w.flit
    let word := s.arbWord a
    let grant (b : Nat) : Option Nat × Arb := (s.pair a b).arb.pick word (fun x => x == c || s.eligibleAt a b x)
    let rest := free.filter (fun b => !l.contains b)
    if l.all (fun b => free.contains b && s.credit a b c && (s.pair a b).resend == 0 && (w.reserved || (grant b).1 == some c)) then
      let t := s.light a place planes l w
      (l.foldl (fun t b => t.modPair a b (fun x => { x with
        arb := if (grant b).1 = some c then (grant b).2 else x.arb.pass (c == 0) })) t, rest)
    else if w.reserved then ((free.filter (fun b => l.contains b)).foldl (fun s b => s.holdPair a b place planes) s, rest)
    else (s, free)

/-- One pair at a position (R267, R285): a replay, an identity flit that is due, what its arbiter picks, or an idle flit. -/
def State.launchPair (s : State) (a b place : Nat) (planes : List Nat) : State :=
  let x := s.pair a b
  if 0 < x.resend then s.sendAgain a b place planes
  else match x.due.find? (fun p => (x.planes planes).contains p) with
    | some p =>
      let i := ringIx a p false ((b + 16 - a) % 16)
      let s := s.modPair a b (fun x => { x with due := x.due.erase p, arb := x.arb.pass false })
      { s with ridge := { s.ridge with
        rings := SMap.set s.ridge.rings i { SMap.get s.ridge.rings i RingX.reset with sent := place / 32 + 1 } RingX.reset } }
    | none =>
      let g := x.arb.pick (s.arbWord a) (fun c => s.eligibleAt a b c)
      let s := s.modPair a b (fun x => { x with arb := g.2 })
      match g.1.bind (fun c => s.unicast a b c) with
      | some w => s.light a place planes [b] w
      | none => s

/-- One position of a launch: its multicast flits, then every pair that is left. -/
def State.launchAt (s : State) (a place : Nat) (planes : List Nat) : State :=
  let free := (List.range 16).filter (fun b => b != a && !((s.pair a b).planes planes).isEmpty)
  let m := (List.range 4).foldl (fun (t : State × List Nat) c => t.1.launchMulti a place planes c t.2) (s, free)
  m.2.foldl (fun s b => s.launchPair a b place planes) m.1

/-- Launches with something to do: flits that wait, or a pair that is in use. -/
def State.busyLaunches (s : State) : List Nat := (s.ridge.launch.map (fun (x : Nat × List Waiting) => x.1) ++ s.ridge.pairs.map (fun (x : Nat × SadPair) => x.1 / 16)).dedup

/-- One position of the Saddle (R260). A position that no plane in service holds is skipped (R261). -/
def State.saddlePosition (s : State) (place : Nat) : State :=
  let s := if place % 32 = 0 then s.latchWeights else s
  match s.busyLaunches with
  | [] => s
  | l =>
    let planes := s.carriers (place % 32)
    if planes.isEmpty then s else l.foldl (fun s a => s.launchAt a place planes) s

/-! ### Landings -/

/-- A flit for the site's reduction unit, or for the merge unit of its cores: contributions, and partials of a stack or gateway
(R271, R317). -/
def unitFlit (a b : Nat) (f : Flit) : Bool :=
  decide (b < 4) && ((flitVc f == 3 && flitFirst f && flitPayload f 0 1 == 10)
    || (flitVc f == 2 && decide (0xF00 ≤ flitTag f) && decide (flitTag f ≤ 0xF7F) && decide ((4 ≤ a ∧ a < 12) ∨ 14 ≤ a)))

/-- Who takes a landed flit: the taker of its message, once its first flit is handed on (R315), or its unit. -/
def State.takerOf (s : State) (a b : Nat) (f : Flit) : Option Taker :=
  match s.ridge.bound.find? (fun x => x.1 == msgKey a b f) with
  | some x => some x.2
  | none => if unitFlit a b f then some .unit else none

/-- Port `n` of the site can take a landed flit: no other taker has its message, and a die's port has room (R315, R318). -/
def State.mayTake (s : State) (a b n : Nat) (f : Flit) : Bool :=
  (match s.takerOf a b f with
    | some t => t == .port n
    | none => true)
  && (decide (13 ≤ b) || (s.portEnd (b * 32 + n) 1).maySend (flitVc f))

/-- The flit of a class that a source pool offers to a port. -/
def State.offer (s : State) (b n c a : Nat) : Option (Nat × Flit) :=
  (s.pair a b).pool.find? (fun y => flitVc y.2 == c && s.mayTake a b n y.2)

/-- The message's taker is kept from its first flit to its last (R315). -/
def State.bind (s : State) (a b : Nat) (f : Flit) (t : Taker) : State :=
  let k := msgKey a b f
  let rest := s.ridge.bound.filter (fun x => x.1 != k)
  { s with ridge := { s.ridge with bound := if flitLast f then rest else rest ++ [(k, t)] } }

/-- A flit leaves its pool, and its credit is on its way back (R271). -/
def State.leavePool (s : State) (a b : Nat) (y : Nat × Flit) : State :=
  (s.modPair a b (fun x => { x with pool := x.pool.erase y, freed := bumpAt x.freed (flitVc y.2) (· + 1) })).showOccupancy b

/-- The units of a site take what is theirs (R271). -/
def State.unitsTake (s : State) (b : Nat) : State :=
  (List.range 16).foldl (fun s a => (s.pair a b).pool.foldl (fun s y =>
    if s.takerOf a b y.2 = some .unit then ((s.leavePool a b y).bind a b y.2 .unit).takeIn a b y.2 else s) s) s

/-- A port group's turn (R268): the class its arbiter picks, and in it the next source pool in the round. A die's flit goes out on the
port; a gateway's router and the firewall of site 13 take theirs as they come. -/
def State.handOn (s : State) (b n : Nat) : State :=
  let ix := b * 32 + n
  let x := SMap.get s.ridge.ports ix Arb.reset
  let next (c : Nat) : Option (Nat × Nat × Flit) :=
    ((List.range 16).map (fun i => (x.last.getD c 15 + 1 + i) % 16)).findSome? (fun a => (s.offer b n c a).map (fun y => (a, y)))
  let g := x.pick (s.arbWord b) (fun c => (next c).isSome)
  let keep (s : State) (y : Arb) : State := { s with ridge := { s.ridge with ports := SMap.set s.ridge.ports ix y Arb.reset } }
  match g.1 with
  | none => keep s g.2
  | some c =>
    match next c with
    | none => keep s g.2
    | some (a, y) =>
      let s := ((keep s { g.2 with last := g.2.last.set c a }).leavePool a b y).bind a b y.2 (.port n)
      if b < 13 then s.modEnd ix 1 (·.push (withSites y.2 (2 ^ a))) else s.takeIn a b y.2

/-- Ports over which a landing hands flits on, with their widths in lanes: a die's that are up, the firewall's eight, a gateway's data
links (R268, R272). -/
def State.outlets (s : State) (b : Nat) : List (Nat × Nat) :=
  if b < 13 then
    (List.range (s.portCount b)).filterMap (fun n =>
      if s.portUp (b * 32 + n) then some (n, 2 ^ (s.get CASOB_STATUS_WIDTH (b * 32 + n) + 1)) else none)
  else (List.range (if b = 13 then 8 else if b = 14 then 16 else 14)).map (fun n => (n, 16))

/-- Landings with something to do. -/
def State.busyLandings (s : State) : List Nat :=
  ((s.ridge.pairs.filter (fun (x : Nat × SadPair) => !x.2.pool.isEmpty)).map (fun (x : Nat × SadPair) => x.1 % 16)
    ++ s.ridge.ports.map (fun (x : Nat × Arb) => x.1 / 32)).dedup

/-- Flit times of an outlet of `w` lanes that begin in a cycle: at 1.6 GHz a flit takes 512 / (35 w) of one (R311, log entry 2). -/
def flitTimes (t w : Nat) : Nat := (t + 1) * 35 * w / 512 - t * 35 * w / 512

/-- One cycle of a landing. -/
def State.landingCycle (s : State) (t b : Nat) : State :=
  (s.outlets b).foldl (fun s o => (List.range (flitTimes t o.2)).foldl (fun s _ => s.handOn b o.1) s) (s.unitsTake b)

/-- One cycle of the Ridge after cycle `t`: the positions that begin in it, and the landings. -/
def State.ridgeCycle (s : State) (t : Nat) : State :=
  let q := t * 35 / 16
  let s := (List.range ((t + 1) * 35 / 16 - q)).foldl (fun s i => s.saddlePosition (q + i)) s
  s.busyLandings.foldl (fun s b => s.landingCycle t b) s

end Sys2Proof.Machine
end

