-- ==== Sys2Proof/Machine/PodLinks.lean ====
section
/-! DEFINITION. Pod links (R385-R391): the bytes of a message, flits, replay and credits, the egress arbiter
(R400, R401), cabling and training. -/

namespace Sys2Proof.Machine

/-! ### Messages as flits (R316, R317, R387, R388) -/

/-- The Casob content of a message. -/
def bodyBytes : PodBody → List Byte
  | .request opc _ r => reqBytes opc r
  | .response r => respBytes r
  | .part _ p => PartialMsg.bytes p

/-- Its traffic class (R266). -/
def bodyVc : PodBody → Nat
  | .request opc completion _ => if opc = .cairnAdd then 0 else if opc = .msg ∧ completion then 2 else 3
  | _ => 2

/-- The route word (R388). -/
def routeWord (m : PodMsg) : Nat :=
  m.src.val * 2 ^ 58 + m.dst.val * 2 ^ 52 + m.site.val * 2 ^ 48 + m.mseq.toNat * 2 ^ 32 + m.tag.toNat * 2 ^ 20
    + m.outing.toNat * 2 ^ 10

/-- Every byte of a message on a link. -/
def podBytes (m : PodMsg) : List Byte := toLE 8 (routeWord m) ++ bodyBytes m.body

/-- The flits of a message that has crossed `hop` links, their link fields still zero (R387). -/
def podFlits (m : PodMsg) (hop : Nat) : List Flit :=
  let l := payloads (podBytes m).length (podBytes m)
  (List.range l.length).map (fun i =>
    let head := 2 ^ 62 + bodyVc m.body * 2 ^ 60 + (if i = 0 then 2 ^ 59 else 0) + (if i + 1 = l.length then 2 ^ 58 else 0)
      + hop * 2 ^ 56
    sealFlit (head + leNat (l.getD i []) * 2 ^ 64))

def podVc (f : Flit) : Nat := Flit.field f 61 60
def podFirst (f : Flit) : Bool := f.getLsbD 59
def podLast (f : Flit) : Bool := f.getLsbD 58
def podHop (f : Flit) : Nat := Flit.field f 57 56
def podLseq (f : Flit) : Nat := Flit.field f 55 40
def podAck (f : Flit) : Nat := Flit.field f 39 24

/-- The check is good, and nothing reserved is used (R312, R387). -/
def podGood (f : Flit) : Bool :=
  crc64 (toLE 120 f.toNat) == BitVec.ofNat 64 (f.toNat / 2 ^ 960) && Flit.field f 11 0 == 0 && flitKind f != 3 && podHop f != 3

/-! ### Credits and sending (R391) -/

/-- Place of a hop class and VC in the credit lists. -/
def creditIx (hop vc : Nat) : Nat := 4 * hop + vc

/-- A receiver's own flits of a class; beyond them RESP and REQ share 1,024. -/
def classSize (vc : Nat) : Nat := if vc < 2 then 16 else 256

/-- Flits held in the far end's shared pool. -/
def LinkX.shared (l : LinkX) : Nat :=
  ((List.range 12).map (fun i => if 2 ≤ i % 4 then l.used.getD i 0 - 256 else 0)).sum

/-- A flit of this class may be sent. -/
def LinkX.maySend (l : LinkX) (hop vc : Nat) : Bool :=
  decide (l.unacked.length < 2048)
    && (decide (l.used.getD (creditIx hop vc) 0 < classSize vc) || (decide (2 ≤ vc) && decide (l.shared < 1024)))

/-- The class of credits a flit can return: the lowest that is owed (DESIGN CHOICE, log entry 66). -/
def LinkX.owedIx (l : LinkX) : Nat := ((List.range 12).find? (fun i => decide (0 < l.owed.getD i 0))).getD 0

/-- A flit as this end sends it on its link: LSEQ, ACK, CVC, CHOP and CCNT as they stand, and a new CRC (R312, R387). -/
def LinkX.stamp (l : LinkX) (f lseq : Nat) : Flit :=
  let i := l.owedIx
  sealFlit (setBits 55 12 f
    (lseq * 2 ^ 28 + (l.expect + 65535) % 65536 * 2 ^ 12 + i % 4 * 2 ^ 10 + i / 4 * 2 ^ 8 + min 255 (l.owed.getD i 0)))

/-- The credits that a stamped flit returns are owed no more. -/
def LinkX.returned (l : LinkX) : LinkX := { l with owed := bumpAt l.owed l.owedIx (fun n => n - min 255 n) }

/-- A flit leaves: its LSEQ, its credit, the replay buffer. -/
def LinkX.push (l : LinkX) (f : Flit) : LinkX :=
  { l.returned with
    next := (l.next + 1) % 65536, unacked := l.unacked ++ [(l.next, l.stamp f.toNat l.next)], bytes := l.bytes + 128,
    used := bumpAt l.used (creditIx (podHop f) (podVc f)) (· + 1) }

/-- An IDLE or LINK flit leaves (R314). -/
def LinkX.say (l : LinkX) (body : Nat) : LinkX := { l.returned with said := some (l.stamp body 0) }

/-- NAK names the LSEQ expected, at most one at a time (R320). -/
def LinkX.sayNak (l : LinkX) : LinkX :=
  if l.nak then l else { l with nak := true }.say (2 * 2 ^ 62 + 2 ^ 64 + l.expect * 2 ^ 80)

/-! ### The egress arbiter (R400, R401) -/

/-- The next flit of an outing in a class: it may leave when the link has a credit for it and no other outing's message is under way
in its class (R388). -/
def LinkX.nextOf (l : LinkX) (c o : Nat) : Option Flit :=
  match l.waiting.find? (fun y => podVc y.2 == c && y.1 == o) with
  | some y => if l.maySend (podHop y.2) c ∧ ((SMap.get l.open_ c none).getD o = o) then some y.2 else none
  | none => none

/-- Outings whose flits wait in the classes `cs`, oldest flit first. -/
def LinkX.outings (l : LinkX) (cs : List Nat) : List Nat :=
  ((l.waiting.filter (fun y => cs.contains (podVc y.2))).map (fun (y : Nat × Flit) => y.1)).dedup

/-- The flit a class sends, oldest outing first. -/
def LinkX.nextIn (l : LinkX) (c : Nat) : Option (Nat × Flit) :=
  (l.outings [c]).findSome? (fun o => (l.nextOf c o).map (fun f => (o, f)))

/-- The RESP or REQ flit an outing sends: the class of its oldest first. -/
def LinkX.dataOf (l : LinkX) (o : Nat) : Option Flit :=
  (((l.waiting.filter (fun y => y.1 == o && decide (2 ≤ podVc y.2))).map (fun (y : Nat × Flit) => podVc y.2)).dedup).findSome?
    (fun c => l.nextOf c o)

/-- A waiting flit of an outing leaves; the message under way in its class is its own until its last flit (R388). -/
def LinkX.depart (l : LinkX) (o : Nat) (f : Flit) : LinkX :=
  let l := { l with waiting := l.waiting.erase (o, f),
                    open_ := SMap.set l.open_ (podVc f) (if podLast f then none else some o) none }
  l.push f

/-- Bytes an outing's turn adds to its deficit, of a round of 64 flits: its SHARE of them, or, with SHARE 0, an equal part of what no
SHARE reserves (R401). `others` is the number of outings with SHARE 0 that wait, `sum` every SHARE. -/
def turnBytes (share others sum : Nat) : Nat := if share = 0 then (64 - sum) * 128 / max 1 others else share * 128

/-- Deficit round robin on bytes over the outings of a list, in their order of turns: the first whose deficit holds a flit is served. -/
def LinkX.robin (l : LinkX) (quantum : Nat → Nat) : List Nat → SMap Nat → Option (Nat × SMap Nat)
  | [], _ => none
  | o :: t, m =>
    let d := SMap.get m o 0 + quantum o
    if 128 ≤ d then some (o, SMap.set m o (d - 128) 0) else LinkX.robin l quantum t (SMap.set m o d 0)

/-- The outing whose RESP or REQ flit leaves next, with the deficits after it (R401). An outing with nothing waiting keeps no
deficit. -/
def LinkX.pickOuting (l : LinkX) (share : Nat → Nat) (sum : Nat) : Option (Nat × SMap Nat) :=
  let waits := l.outings [2, 3]
  let ready := waits.filter (fun o => (l.dataOf o).isSome)
  let m : SMap Nat := l.shares.filter (fun (y : Nat × Nat) => waits.contains y.1)
  let quantum (o : Nat) : Nat := turnBytes (share o) ((waits.filter (fun o => share o == 0)).length) sum
  let sorted := ready.mergeSort (fun a b => decide (a ≤ b))
  let order := sorted.filter (fun o => decide (l.turn < o)) ++ sorted.filter (fun o => decide (o ≤ l.turn))
  if ready.contains l.turn ∧ 128 ≤ SMap.get m l.turn 0 then some (l.turn, SMap.set m l.turn (SMap.get m l.turn 0 - 128) 0)
  else LinkX.robin l quantum (List.replicate 129 order).flatten m

/-- The next flit of a replay goes again, with ACK and credits as they stand (R320). -/
def LinkX.sendAgain (l : LinkX) : LinkX :=
  let i := l.unacked.length - l.resend
  { l.returned with
    unacked := l.unacked.modify i (fun y => (y.1, l.stamp y.2.toNat y.1)), resend := l.resend - 1, arb := l.arb.pass false }

/-- One flit time of a link (R400): a replay, CTRL under its cap, RESP or REQ, MGMT, CTRL, or an idle flit. -/
def LinkX.flitTime (l : LinkX) (share : Nat → Nat) (sum : Nat) : LinkX :=
  let passed (ctrl : Bool) : LinkX := { l with arb := l.arb.pass ctrl }
  if 0 < l.resend then l.sendAgain
  else match (if l.arb.ctrlSent < 4 then l.nextIn 0 else none) with
    | some y => (passed true).depart y.1 y.2
    | none =>
      match (l.pickOuting share sum).bind (fun y => (l.dataOf y.1).map (fun f => (y, f))) with
      | some y => { passed false with turn := y.1.1, shares := y.1.2 }.depart y.1.1 y.2
      | none =>
        match l.nextIn 1, l.nextIn 0 with
        | some y, _ => (passed false).depart y.1 y.2
        | none, some y => (passed true).depart y.1 y.2
        | none, none => (passed false).say 0

/-- SHARE of an outing; one beyond the registers has none (R401). -/
def State.shareOf (s : State) (o : Nat) : Nat := if o < 256 then s.get LINK_RES_SHARE o else 0

/-- Every SHARE. -/
def State.shareSum (s : State) : Nat := ((List.range 256).map (fun i => s.get LINK_RES_SHARE i)).sum

/-- Flits handed to a link with their message's outing: they wait for the arbiter. -/
def State.linkSend (s : State) (x o : Nat) (l : List Flit) : State :=
  s.modLink x (fun k => { k with waiting := k.waiting ++ l.map (fun f => (o, f)) })

/-! ### Receiving (R320, R391) -/

/-- An accepted flit's ACK frees the replay buffer, and its CCNT returns credits. -/
def LinkX.absorb (l : LinkX) (f : Flit) : LinkX :=
  let acked := l.unacked.any (fun u => u.1 == podAck f)
  let rest := (l.unacked.dropWhile (fun u => u.1 != podAck f)).drop 1
  { l with
    unacked := if acked then rest else l.unacked,
    again := if acked then (0, 0) else l.again,
    resend := if acked then min l.resend rest.length else l.resend,
    used := bumpAt l.used (creditIx (Flit.field f 21 20) (Flit.field f 23 22)) (fun n => n - Flit.field f 19 12) }

/-- STATE of a link: 0 DOWN, 1 TRAINING, 2 ACTIVE, 3 CABLING. -/
def State.linkState (s : State) (x : Nat) : Nat := s.get POD_LINK_STATUS_STATE x

/-- The link carries flits. -/
def State.linkUp (s : State) (x : Nat) : Bool := s.linkState x == 2 && !(s.link x).stopped

/-- Flit times of a link that begin in a cycle of CCLK: 4 / 7 ns each at width 8, twice that at width 4 (R403). -/
def State.linkTimes (s : State) (t x : Nat) : Nat :=
  let w := s.get POD_LINK_STATUS_WIDTH x
  (t + 1) * 35 * w / 64 - t * 35 * w / 64

/-- A link has something to send, or sent CTRL of late. -/
def LinkX.busy (l : LinkX) : Bool :=
  !l.waiting.isEmpty || decide (0 < l.resend) || l.owed.any (fun n => decide (0 < n)) || l.arb.ctrl != 0

/-- One cycle of the pod links after cycle `t`. -/
def State.linksCycle (s : State) (t : Nat) : State :=
  (s.podnet.links.filter (fun (y : Nat × LinkX) => y.2.busy)).foldl (fun s (y : Nat × LinkX) =>
    if s.linkUp y.1 then
      s.modLink y.1 (fun l => (List.range (s.linkTimes t y.1)).foldl (fun l _ => l.flitTime s.shareOf s.shareSum) l)
    else s) s

/-- A DATA flit in order joins its message; the last completes it. -/
def State.takeFlit (s : State) (x : Nat) (f : Flit) : State :=
  let vc := podVc f
  let l := s.link x
  let part := (if podFirst f then [] else SMap.get l.parts vc []) ++ [f]
  let s := s.modLink x (fun l =>
    { l.absorb f with
      expect := (l.expect + 1) % 65536, nak := false,
      owed := bumpAt l.owed (creditIx (podHop f) vc) (· + 1),
      parts := SMap.set l.parts vc (if podLast f then [] else part) [] })
  if podLast f then
    { s with podnet := { s.podnet with arrived := s.podnet.arrived ++ [(x, (part.map payloadBytes).flatten)] } }
  else s

/-- NAK: replay from the LSEQ it names; the eighth in a row retrains (R320, R391). -/
def State.linkNak (s : State) (x n : Nat) : State :=
  let l := s.link x
  let again := if l.again.1 = n then (n, l.again.2 + 1) else (n, 1)
  let s := s.bump POD_LINK_STATUS_REPLAYS x 1
  if 8 ≤ again.2 then (s.modLink x (fun l => { l with again := (0, 0) })).put POD_LINK_STATUS_STATE x 1
  else s.modLink x (fun l => { l with again := again, resend := (l.unacked.dropWhile (fun u => u.1 != n)).length })

/-- The first copy that passes its check, where the far end sent one on each line set (R302). -/
def firstGood (f : Flit) (other : Option Flit) : Flit :=
  match other with
  | some g => if podGood f then f else g
  | none => f

/-- A flit arrives on a link. -/
def State.podFlit (s : State) (x : Nat) (f : Flit) : State :=
  if !s.linkUp x then s
  else if !podGood f then s.modLink x (·.sayNak)
  else if flitKind f = 0 then s.modLink x (·.absorb f)
  else if flitKind f = 2 then
    let s := s.modLink x (·.absorb f)
    if flitPayload f 0 1 = 1 then s.linkNak x (flitPayload f 2 2) else s
  else
    let ahead := (podLseq f + 65536 - (s.link x).expect) % 65536
    if ahead = 0 then s.takeFlit x f
    else if ahead < 32768 then s.modLink x (·.sayNak)
    else s

/-! ### Cabling and training (R385, R386, R390) -/

/-- Where data link `x` of device `i` leads: the far device and its link, none where the layout joins none. -/
def farEnd (layout i x : Nat) : Option (Nat × Nat) :=
  match layout with
  | 1 =>
    let d := x / 2 + 1
    if x < 30 then some ((i + d) % 16, if x % 2 = 0 then 30 - 2 * d else 31 - 2 * d) else none
  | 2 => if x < 30 then some ((i + x + 1) % 31, 29 - x) else none
  | 3 =>
    let g := i / 16
    let m := i % 16
    if x < 15 then some (g * 16 + (m + x + 1) % 16, 14 - x)
    else if x < 30 then
      let e := (x - 10) / 5
      let k := (x - 10) % 5
      let step := [0, 1, 15, 2, 14].getD k 0
      let back := [0, 2, 1, 4, 3].getD k 0
      some ((g + e) % 4 * 16 + (m + step) % 16, 10 + 5 * (4 - e) + back)
    else none
  | _ => none

/-- A far end matches the rule of the layout; ring links join X31 to X30. -/
def State.cabledRight (s : State) (x device peer : Nat) : Bool :=
  if 30 ≤ x then peer + x == 61 else farEnd (s.get POD_TOPO_LAYOUT 0) s.device x == some (device, peer)

/-- A cabling record of the link engines, naming both ends as device * 256 + link (R386). -/
def State.cablingEvent (s : State) (near far : Nat) : State :=
  s.raise 0x0B 1 1 14 0xFF 0x3FF (BitVec.ofNat 64 near) (BitVec.ofNat 64 far) 0

/-- A link is down and carries nothing. -/
def State.dropLink (s : State) (x : Nat) : State :=
  ((s.put POD_LINK_STATUS_STATE x 0).put POD_LINK_STATUS_WIDTH x 0).modLink x (fun l =>
    { LinkX.reset with bytes := l.bytes, tries := l.tries, stopped := l.stopped })

/-- The ring is broken at a segment, or mended (R406). -/
def State.ringState (s : State) (broken : Bool) : State :=
  if broken ∧ !s.flag POD_TOPO_RING_BROKEN 0 then (s.put POD_TOPO_RING_BROKEN 0 1).raise 0x0B 2 1 4 0xFF 0x3FF 0 0 0
  else if broken then s
  else s.put POD_TOPO_RING_BROKEN 0 0

/-- A link after training: LSEQ from 0, full credits; flits not acknowledged are renumbered and go again first (log entry 27). -/
def LinkX.sync (l : LinkX) : LinkX :=
  l.unacked.foldl (fun (y : LinkX) u =>
    { y with next := y.next + 1, unacked := y.unacked ++ [(y.next, y.stamp u.2.toNat y.next)], resend := y.resend + 1,
             used := bumpAt y.used (creditIx (podHop u.2) (podVc u.2)) (· + 1) })
    { LinkX.reset with waiting := l.waiting, open_ := l.open_, arb := l.arb, shares := l.shares, turn := l.turn, parts := l.parts,
                       bytes := l.bytes, stopped := l.stopped, routed := l.routed }

/-- A link has trained. -/
def State.linkReady (s : State) (x width : Nat) : State :=
  ((s.put POD_LINK_STATUS_STATE x 2).put POD_LINK_STATUS_WIDTH x width).modLink x (·.sync)

/-! ### Routes (R394-R396) -/

/-- The links that bits [lo+29:lo] of an entry name. -/
def entryLinks (w : Word) (lo : Nat) : List Nat := (List.range 30).filter (fun x => w.getLsbD (lo + x))

/-- Links a route-refused return has removed for a device. -/
def State.removedFor (s : State) (d : Nat) : List Nat := SMap.get s.podnet.removed d []

/-- A link is in the eligible set for a device. -/
def State.canUse (s : State) (d x : Nat) : Bool := s.linkUp x && (s.link x).routed && !(s.removedFor d).contains x

/-- Links on which a message may take its next hop: NEXT, or ALT when no NEXT link is left; `ok` restricts them. -/
def State.eligibleLinks (s : State) (d : Nat) (ok : Nat → Bool) : List Nat :=
  let w := s.word .ROUTE d
  let use (lo : Nat) : List Nat := (entryLinks w lo).filter (fun x => s.canUse d x)
  let l := if (use 0).isEmpty then use 30 else use 0
  if w.getLsbD 63 then l.filter ok else []

/-- The link that has sent the fewest bytes, the lowest-numbered of several (R394). -/
def State.pickLink (s : State) (l : List Nat) : Option Nat :=
  l.foldl (fun m x => match m with
    | none => some x
    | some y => if (s.link x).bytes < (s.link y).bytes then some x else some y) none

/-! ### Meanings -/

/-- LINK_DATA_FLIT (R302, R391). -/
def execLinkDataFlit (link : Fin 32) (flit : LinkFlit) (s : State) : Host.Outcome State Fault Refusal :=
  .next (s.podFlit link.val (firstGood flit.sent flit.copy))

/-- LINK_RETRY_TIMER (R391). -/
def execLinkRetryTimer (link : Fin 32) (s : State) : Host.Outcome State Fault Refusal :=
  let x := link.val
  .next (if s.linkState x = 0 ∨ s.linkState x = 3 then
    (s.put POD_LINK_STATUS_STATE x 1).modLink x (fun l => { l with tries := l.tries + 1 }) else s)

end Sys2Proof.Machine
end

