-- ==== Sys2Proof/Machine/Reduction.lean ====
section
/-! DEFINITION. Reduction contexts and gateway stages (R239-R254): admission, folding, delivery, arming, killing. -/

namespace Sys2Proof.Machine

/-! ### Targets and their configuration -/

/-- A context (register index 64 * site + n) or a stage. -/
inductive Red where
  | context (i : Nat)
  | stage (i : Nat)
  deriving DecidableEq, Repr

/-- The model's reduction target of a command's. -/
def Red.of : RedTarget → Red
  | .context site n => .context (64 * site.val + n.val)
  | .stage n => .stage n.val

/-- Register index. -/
def Red.ix : Red → Nat
  | .context i => i
  | .stage i => i

/-- Key of its chunk `k` in State.reds. -/
def Red.key (t : Red) (k : Nat) : Nat :=
  match t with
  | .context i => i * 1024 + k
  | .stage i => (256 + i) * 1024 + k

/-- A field that contexts and stages both have. -/
def State.redGet (s : State) (t : Red) (f g : Fld) : Nat :=
  match t with
  | .context i => s.get f i
  | .stage i => s.get g i

/-- STATE: 0 UNARMED, 1 ARMED, 2 KILLED. -/
def State.redState (s : State) (t : Red) : Nat := s.redGet t RED_STATUS_STATE RED_STAGE_STATUS_STATE
def State.redOp (s : State) (t : Red) : Nat := s.redGet t RED_CFG_OP RED_STAGE_CFG_OP
def State.redType (s : State) (t : Red) : Nat := s.redGet t RED_CFG_TYPE RED_STAGE_CFG_TYPE
def State.redOrdered (s : State) (t : Red) : Bool := s.redGet t RED_CFG_ORDERED RED_STAGE_CFG_ORDERED == 1
def State.redOuting (s : State) (t : Red) : Nat := s.redGet t RED_CFG_OUTING RED_STAGE_CFG_OUTING
def State.redExpect (s : State) (t : Red) : Nat := s.redGet t RED_CFG_EXPECT RED_STAGE_CFG_EXPECT
def State.redChunks (s : State) (t : Red) : Nat := s.redGet t RED_CFG_CHUNKS_M1 RED_STAGE_CFG_CHUNKS_M1 + 1

/-- Put a field that contexts and stages both have. -/
def State.redPut (s : State) (t : Red) (f g : Fld) (v : Nat) : State :=
  match t with
  | .context i => s.put f i v
  | .stage i => s.put g i v

/-- A chunk's round. -/
def State.chunkOf (s : State) (t : Red) (k : Nat) : RedChunk := SMap.get s.reds (t.key k) RedChunk.empty

/-- Store a chunk's round. -/
def State.setChunk (s : State) (t : Red) (k : Nat) (c : RedChunk) : State :=
  { s with reds := SMap.set s.reds (t.key k) c RedChunk.empty }

/-- The target's number in UnitSend and in State.redRecord. -/
def Red.num : Red → Nat
  | .context i => i
  | .stage n => 256 + n

/-- A reduction record of a target (R422). -/
def State.redEvent (s : State) (t : Red) (code sev : Nat) : State := s.redRecord t.num code sev

/-! ### Folding (R242, R243) -/

/-- The accumulator lanes of a contribution: BF16 elements are widened to FP32; PASS leaves the bytes as they are. -/
def redLanes (op type : Nat) (v : Vec) : List Nat :=
  if type = 1 ∧ op ≠ 7 then (List.range 256).map (fun i => elemAt 16 v.toNat i * 65536) else lanesOf v

/-- What a fold did: NAN, OVERFLOW, INT_SAT. -/
structure RedFlags where
  nan : Bool := false
  overflow : Bool := false
  intSat : Bool := false
  deriving DecidableEq, Repr

def RedFlags.or (a b : RedFlags) : RedFlags := ⟨a.nan || b.nan, a.overflow || b.overflow, a.intSat || b.intSat⟩

/-- Flags of an FP32 result. -/
def fpFlags (c : Conv) : RedFlags := ⟨(dec32 c.bits).isNan, c.flags &&& fOverflow != 0, false⟩

/-- One lane folded (R242). -/
def foldLane (op type acc x : Nat) : Nat × RedFlags :=
  if type = 2 then
    match op with
    | 0 =>
      let r := satAdd32 (BitVec.ofNat 32 acc) (signedOf 32 x)
      (r.1.toNat, ⟨false, false, r.2 &&& fIntSat != 0⟩)
    | 1 => (if signedOf 32 acc < signedOf 32 x then x else acc, {})
    | 2 => (if signedOf 32 x < signedOf 32 acc then x else acc, {})
    | 3 => (acc &&& x, {})
    | 4 => (acc ||| x, {})
    | 5 => (acc ^^^ x, {})
    | _ => (x, {})
  else
    match op with
    | 0 => let c := add32 false 0 acc x; (c.bits, fpFlags c)
    | 1 => let r := minmax32 true acc x; (r.1, ⟨(dec32 r.1).isNan, false, false⟩)
    | 2 => let r := minmax32 false acc x; (r.1, ⟨(dec32 r.1).isNan, false, false⟩)
    | _ => (x, {})

/-- The LSE fold of R171 on M, L and O[0] to O[125]. -/
def foldLse (acc x : List Nat) : List Nat × RedFlags :=
  let held : MergeRow := ⟨(nanOf (acc.map dec32)).map (fun n => (rne32 n).bits), acc.getD 0 0, acc.getD 1 0, acc.drop 2⟩
  let r := held.fold (x.map (BitVec.ofNat 32))
  match r.nan with
  | some n => (List.replicate acc.length n, ⟨true, false, false⟩)
  | none =>
    let out := r.m :: r.l :: r.o
    let finite (b : Nat) : Bool := decide (b % 2 ^ 31 < 0x7F800000)
    let becameInf := (acc.zip (x.zip out)).any (fun p => finite p.1 && finite p.2.1 && p.2.2 % 2 ^ 31 == 0x7F800000)
    (out, ⟨out.any (fun b => (dec32 b).isNan), becameInf, false⟩)

/-- A contribution folded into an accumulator; the first of a round is taken exactly. -/
def foldIn (op type : Nat) (acc : Option (List Nat)) (x : List Nat) : List Nat × RedFlags :=
  match acc with
  | none => (x, {})
  | some a =>
    if op = 6 then foldLse a x
    else
      let r := (a.zip x).map (fun p => foldLane op type p.1 p.2)
      (r.map (·.1), r.foldl (fun f p => f.or p.2) {})

/-- The delivered bytes: BF16 accumulators are rounded (R243), what PASS took is unchanged (R242). -/
def redResult (op type : Nat) (acc : List Nat) : Vec × RedFlags :=
  if type = 1 ∧ op ≠ 7 then
    let r := acc.map (fun b => FloatFmt.bf16.encode false false 0 (dec32 b))
    (BitVec.ofNat 4096 (packElems 16 (r.map (·.bits))), ⟨false, r.any (fun c => c.flags &&& fOverflow != 0), false⟩)
  else (ofLanes acc, {})

/-- Set the sticky flags of a target. -/
def State.redFlags (s : State) (t : Red) (f : RedFlags) : State :=
  let s := if f.nan then s.redPut t RED_STATUS_NAN RED_STAGE_STATUS_NAN 1 else s
  let s := if f.overflow then s.redPut t RED_STATUS_OVERFLOW RED_STAGE_STATUS_OVERFLOW 1 else s
  if f.intSat then s.redPut t RED_STATUS_INT_SAT RED_STAGE_STATUS_INT_SAT 1 else s

/-! ### Admission (R241, R246, R250) -/

/-- Local offset of spill slot `a` of chunk `k` of a context, and the core that holds it (R246). -/
def State.spillAt (s : State) (i k a : Nat) : Nat × Nat :=
  (s.logicalCore (i / 64) (s.get RED_OUT_SPILL_CORE i),
   s.get RED_OUT_SPILL_OFFSET i * 512 + (k * s.redExpect (.context i) + a) * 512)

/-- Is the source admitted: device and unit of the stream, or a stage (R241); a stage's own UNITS (R250). -/
def State.redAdmits (s : State) (t : Red) (stream : Nat) : Bool :=
  let unit := stream % 64
  match t with
  | .context i =>
    (s.word .RED_ADMIT i).getLsbD (stream / 64)
      && (unit == 48 || (decide (unit < 32) && (BitVec.ofNat 32 (s.get RED_UNITS_ADMIT_UNITS i)).getLsbD unit))
  | .stage i => stream / 64 == s.device && decide (unit < 32) && (BitVec.ofNat 32 (s.get RED_STAGE_UNITS_UNITS i)).getLsbD unit

/-- A spill to a core whose substitution runs is held at its die, and lands on the spare (R435); with the die's access to the
core refused for good it stays in the fenced core's store (DESIGN CHOICE, log entry 45). -/
def State.spillWrite (s : State) (i off : Nat) (l : List Byte) : State :=
  let site := i / 64
  let j := s.get RED_OUT_SPILL_CORE i
  if s.gate site j = .hold then
    s.hold site ⟨.copyWrite, true, { Req.blank with
      length := BitVec.ofNat 32 l.length, address := podAddr s.device site (j * storeSize + off), data := l }⟩
  else s.writeBytes (s.logicalCore site j) off l

/-- The spill area of an ordered context can be read: its core is under no substitution (R435). -/
def State.spillOpen (s : State) (t : Red) : Bool :=
  match t with
  | .context i => !s.redOrdered t || s.gate (i / 64) (s.get RED_OUT_SPILL_CORE i) != .hold
  | .stage _ => true

/-- An admitted contribution joins its chunk's round: spilled in order, or folded (R245, R246). -/
def State.redAccept (s : State) (t : Red) (k : Nat) (op : HomeOp) : State :=
  let c := s.chunkOf t k
  let v : Vec := BitVec.ofNat 4096 (leNat op.req.data)
  let arrival := (op.req.stream.toNat, op.req.seq.toNat, v)
  if s.redOrdered t then
    match t with
    | .context i =>
      (s.spillWrite i (s.spillAt i k c.count).2 (op.req.data.take 512)).setChunk t k
        { c with count := c.count + 1, arrivals := c.arrivals ++ [(arrival.1, arrival.2.1, 0)] }
    | .stage _ => s.setChunk t k { c with count := c.count + 1, arrivals := c.arrivals ++ [arrival] }
  else
    let r := foldIn (s.redOp t) (s.redType t) (if c.count = 0 then none else some c.acc) (redLanes (s.redOp t) (s.redType t) v)
    (s.setChunk t k { c with count := c.count + 1, acc := r.1 }).redFlags t r.2

/-- A contribution at a context or stage (R241): the first check that fails decides. A chunk that is delivering takes none:
the contribution waits for the next round (R245). -/
def State.redContribute (s : State) (t : Red) (k site : Nat) (op : HomeOp) : State :=
  let gone := s.arrived (.request op)
  if s.redState t = 0 then gone.respond op .refused 3 []
  else if s.redState t = 2 then
    (gone.redPut t RED_STATUS_STALE_DROPPED RED_STAGE_STATUS_STALE_DROPPED 1).respond op .done 0 []
  else if s.redChunks t ≤ k then gone.respond op .refused 5 []
  else if op.req.outing.toNat ≠ s.redOuting t then gone.respond op .refused 6 []
  else if !s.redAdmits t op.req.stream.toNat then gone.respond op .refused 3 []
  else if s.redExpect t ≤ (s.chunkOf t k).count then
    gone.setChunk t k { gone.chunkOf t k with waiting := (gone.chunkOf t k).waiting ++ [op] }
  else
    let p := gone.windowPass site 0 op.req.stream.toNat op.req.seq
    (if p.1 then p.2.redAccept t k op else p.2).respond op .done 0 []

/-- The stage that a contribution leaving the module enters (R250): armed or killed, for its home context. -/
def State.stageFor (s : State) (a : Word) : Option Nat :=
  let off := podOffset a - redBase
  (List.range 256).find? (fun n =>
    s.redState (.stage n) != 0 && s.get RED_STAGE_CFG_HOME_DEVICE n == podDevice a
      && s.get RED_STAGE_CFG_HOME_SITE n == podSite a && s.get RED_STAGE_CFG_HOME_CTX n == off / 0x80000)

/-- The context and chunk that an aligned offset of the contexts' span names, whatever CHUNKS is (R239). -/
def redSpan (off : Nat) : Option (Nat × Nat) :=
  if redBase ≤ off ∧ (off - redBase) / 0x80000 < 64 ∧ off % 0x200 = 0 then
    some ((off - redBase) / 0x80000, (off - redBase) % 0x80000 / 0x200)
  else none

/-- A REDC: at its home, or at the stage it enters on the way out; without a stage it goes on unchanged (R240, R250). -/
def State.redcArrive (s : State) (r : Req) : State :=
  let op : HomeOp := ⟨.redc, false, r⟩
  if podDevice r.address = s.device ∧ podSite r.address ≠ 13 ∧ !s.sitePresent (podSite r.address) then
    (s.arrived (.request op)).respond op .refused 3 []
  else if podDevice r.address = s.device then
    match (if podSite r.address < 4 then redSpan (podOffset r.address) else none),
      s.windowOf (podSite r.address) (podOffset r.address) with
    | some (n, k), _ => s.redContribute (.context (64 * podSite r.address + n)) k (podSite r.address) op
    | none, .none => (s.arrived (.request op)).respond op .refused 5 []
    | none, .spur => s
    | none, _ => (s.arrived (.request op)).respond op .refused 3 []
  else if r.stream.toNat / 64 = s.device ∧ r.stream.toNat % 64 < 32 ∧ redBase ≤ podOffset r.address
      ∧ podOffset r.address % 0x200 = 0 then
    match s.stageFor r.address with
    | some n => s.redContribute (.stage n) ((podOffset r.address - redBase) % 0x80000 / 0x200) 14 op
    | none => s
  else s

/-! ### Results (R246, R247, R250) -/

/-- Ascending stream, then ascending sequence number (R246). -/
def sortArrivals (l : List (Nat × Nat × Vec)) : List (Nat × Nat × Vec) :=
  l.mergeSort (fun a b => decide (a.1 < b.1 ∨ (a.1 = b.1 ∧ a.2.1 ≤ b.2.1)))

/-- The folded lanes of a complete chunk, and what the folds flagged. -/
def State.redFold (s : State) (t : Red) (k : Nat) : List Nat × RedFlags × State :=
  let c := s.chunkOf t k
  if s.redOrdered t then
    let slots (i : Nat) : List (Nat × Nat × Vec) := (List.range c.arrivals.length).map (fun a =>
      let p := s.spillAt i k a
      let x := c.arrivals.getD a (0, 0, 0)
      (x.1, x.2.1, Mem.vec (s.core p.1).store p.2))
    let read := match t with
      | .context i => slots i
      | .stage _ => c.arrivals
    let s := match t with
      | .context i => (List.range c.arrivals.length).foldl (fun s a => let p := s.spillAt i k a; s.readStore p.1 p.2 512) s
      | .stage _ => s
    let r := (sortArrivals read).foldl (fun (acc : Option (List Nat) × RedFlags) x =>
      let y := foldIn (s.redOp t) (s.redType t) acc.1 (redLanes (s.redOp t) (s.redType t) x.2.2)
      (some y.1, acc.2.or y.2)) (none, {})
    (r.1.getD [], r.2, s)
  else (c.acc, {}, s)

/-- A message of a landing's or gateway's stream is sent and awaits its answer (R222). -/
def State.noteSend (s : State) (unit : Nat) (seq : Nat) (red : Nat) : State :=
  { s with unitSends := s.unitSends ++ [⟨unit, BitVec.ofNat 32 seq, red⟩] }

/-- Messages of a unit's stream not yet answered. -/
def State.unitUnacked (s : State) (unit : Nat) : Nat := (s.unitSends.filter (fun x => x.unit == unit)).length

/-- The delivery of chunk `k` of context `i` to a device's targets, the first of them numbered `n` (R247). -/
def State.delivery (s : State) (i k : Nat) (v : Vec) (d n : Nat) : HomeOp :=
  let mask := BitVec.ofNat 64 (s.get RED_UNITS_DELIVER_UNITS i)
  let u := ((List.range 32).filter (fun u => mask.getLsbD u)).headD 0
  ⟨.msg, true, { Req.blank with
    outing := BitVec.ofNat 10 (s.redOuting (.context i)), stream := BitVec.ofNat 12 (s.device * 64 + 32 + i / 64)
    cairn := BitVec.ofNat 12 (s.get RED_OUT_CAIRN i), seq := BitVec.ofNat 32 n, length := 512, aux := mask
    address := podAddr d (u / 8) (u % 8 * storeSize + (s.get RED_OUT_OUT_OFFSET i * 512 + k * 512))
    operand := BitVec.ofNat 64 (s.get RED_CFG_ADD i), data := toLE 512 v.toNat }⟩

/-- The gateway that a message to another device leaves by: that of its route's link. -/
def State.gatewayOf (s : State) (d : Nat) : Nat :=
  match s.pickLink (s.eligibleLinks d (fun _ => true)) with
  | some x => if x < 16 then 14 else 15
  | none => 14

/-- The one launch of a delivery (R248): its flits light every other site with a target here and the gateways of remote ones. -/
def State.fanOut (s : State) (site k : Nat) (devices : List Nat) (op : HomeOp) : State :=
  let sites := ((if devices.contains s.device then op.sites else [])
    ++ (devices.filter (fun d => d != s.device)).map (fun d => s.gatewayOf d)).dedup
  (messageFlits 2 (sites.map (2 ^ ·)).sum (k % 0xF00) (reqBytes .msg op.req)).foldl
    (fun (t : State) f => t.toLaunch site ⟨f, false, none⟩) s

/-- Deliver a vector for chunk `k` of context `i` to every target (R247), one message for each device (R248): the landing's stream
numbers each target. The home of a target of another module answers; here a target of another outing is skipped and a dead one
dropped at once (R252). -/
def State.redDeliver (s : State) (i k : Nat) (v : Vec) : State :=
  let unit := 32 + i / 64
  let devices := (List.range 64).filter (fun d => (s.word .RED_DELIVER i).getLsbD d)
  let s := devices.foldl (fun s d =>
    let op := s.delivery i k v d (SMap.get s.streamSeq unit 0)
    let s := op.units.foldl (fun (s : State) _ => let q := s.takeUnitSeq unit; q.2.noteSend unit q.1 i) s
    if op.units.isEmpty then s
    else if d ≠ s.device then s.send (.request op)
    else op.parts.foldl (fun (s : State) o => s.homeArrive o) s) s
  let op := s.delivery i k v s.device 0
  let s := if op.units.isEmpty then s else s.fanOut (i / 64) k devices op
  s.put RED_STATUS_DELIVERED i (s.get RED_STATUS_DELIVERED i + 1)

/-- A stage forwards one contribution to its home (R250); with the home dead its output is dropped (R252). -/
def State.stageSend (s : State) (n k : Nat) (v : Vec) : State :=
  let t := Red.stage n
  let home := s.get RED_STAGE_CFG_HOME_DEVICE n
  if s.deviceDead home then s.redEvent t 3 2
  else
    let s := s.put RED_STAGE_STATUS_DELIVERED n (s.get RED_STAGE_STATUS_DELIVERED n + 1)
    let q := s.takeUnitSeq 48
    let addr := podAddr home (s.get RED_STAGE_CFG_HOME_SITE n) (redBase + s.get RED_STAGE_CFG_HOME_CTX n * 0x80000 + k * 0x200)
    (q.2.noteSend 48 q.1 t.num).send (.request ⟨.redc, false, { Req.blank with
      outing := BitVec.ofNat 10 (s.redOuting t), stream := BitVec.ofNat 12 (s.device * 64 + 48), seq := BitVec.ofNat 32 q.1,
      length := 512, address := addr, data := toLE 512 v.toNat }⟩)

/-- A vector goes out for a chunk: delivered by a context, forwarded by a stage. -/
def State.redOutput (s : State) (t : Red) (k : Nat) (v : Vec) : State :=
  match t with
  | .context i => s.redDeliver i k v
  | .stage n => s.stageSend n k v

/-- Messages one result takes. -/
def State.redFan (s : State) (t : Red) : Nat :=
  match t with
  | .context i => ((List.range 64).filter (fun d => (s.word .RED_DELIVER i).getLsbD d)).length
      * ((List.range 32).filter (fun u => (BitVec.ofNat 32 (s.get RED_UNITS_DELIVER_UNITS i)).getLsbD u)).length
  | .stage _ => 1

/-- The unit whose stream a target's results take (R222). -/
def Red.unit : Red → Nat
  | .context i => 32 + i / 64
  | .stage _ => 48

/-- The chunk has all its contributions, its spill area can be read, and its stream has room for the result (R224, R245, R435). -/
def State.redReady (s : State) (t : Red) (k : Nat) : Bool :=
  decide (s.redState t = 1 ∧ 0 < s.redExpect t ∧ s.redExpect t ≤ (s.chunkOf t k).count
    ∧ s.unitUnacked t.unit + s.redFan t ≤ 4096) && s.spillOpen t

/-- A complete chunk gives its result and returns to empty (R245). -/
def State.redRound (s : State) (t : Red) (k : Nat) : State :=
  let r := s.redFold t k
  let out := redResult (s.redOp t) (s.redType t) r.1
  (((r.2.2.redFlags t r.2.1).redFlags t out.2).setChunk t k RedChunk.empty).redOutput t k out.1

/-- Contributions that waited come to their chunk again (R245). -/
def State.redResume (s : State) (t : Red) (k : Nat) (l : List HomeOp) : State :=
  let site := match t with | .context i => i / 64 | .stage _ => 14
  l.foldl (fun s op => s.redContribute t k site op) s

/-- A complete chunk's round ends, and the next one takes what waited (R245). -/
def State.redFinish (s : State) (t : Red) (k : Nat) : State :=
  if s.redReady t k then (s.redRound t k).redResume t k (s.chunkOf t k).waiting else s

/-! ### Arming and killing (R251, R253, R254) -/

/-- The poison pattern of a TYPE (R251). -/
def redPoison (type : Nat) : Vec :=
  if type = 1 then BitVec.ofNat 4096 (packElems 16 (List.replicate 256 0x7FC0))
  else ofLanes (List.replicate 128 (if type = 2 then 0xDEADDEAD else poison32))

/-- What waits at a target's chunks, with the chunk. -/
def State.redWaiting (s : State) (t : Red) : List (Nat × HomeOp) :=
  (List.range (s.redChunks t)).flatMap (fun k => (s.chunkOf t k).waiting.map (fun op => (k, op)))

/-- KILL on an armed target: complete chunks give their results, every other one poison; then it is KILLED, and discards what
waited (R251). -/
def State.redKill (s : State) (t : Red) : State :=
  let waited := s.redWaiting t
  let s := (List.range (s.redChunks t)).foldl (fun s k =>
    if s.redExpect t ≤ (s.chunkOf t k).count then s.redRound t k
    else ((s.setChunk t k RedChunk.empty).redOutput t k (redPoison (s.redType t))).redPut t RED_STATUS_POISONED
      RED_STAGE_STATUS_POISONED 1) s
  waited.foldl (fun s x => s.redResume t x.1 [x.2]) (s.redPut t RED_STATUS_STATE RED_STAGE_STATUS_STATE 2)

/-- Units of storage a configuration needs while unordered (R254). -/
def unitsOf (op type chunks : Nat) : Nat := if op = 7 then 0 else if type = 1 then 2 * chunks else chunks

/-- Storage in use by the other armed contexts of a landing, or by the other armed stages. -/
def State.redUsed (s : State) (t : Red) : Nat :=
  match t with
  | .context i => ((List.range 64).map (fun n =>
      let u := Red.context (i / 64 * 64 + n)
      if u = t ∨ s.redState u ≠ 1 ∨ s.redOrdered u then 0 else unitsOf (s.redOp u) (s.redType u) (s.redChunks u))).sum
  | .stage _ => ((List.range 256).map (fun n =>
      let u := Red.stage n
      if u = t ∨ s.redState u ≠ 1 then 0
      else if s.redOrdered u then s.redChunks u * s.redExpect u
      else unitsOf (s.redOp u) (s.redType u) (s.redChunks u))).sum

/-- The first arm check that word `w` fails, its fields already stored (R254). -/
def State.armError (s : State) (t : Red) (w : Nat) : Option Nat :=
  let op := s.redOp t
  let type := s.redType t
  let chunks := s.redChunks t
  let expect := s.redExpect t
  let ordered := s.redOrdered t
  let isStage := match t with | .stage _ => true | _ => false
  let rsvd := if isStage then bits 60 60 w != 0 || bits 9 8 w != 0 || bits 3 0 w != 0 || decide (3 < bits 7 4 w)
    else bits 60 60 w != 0 || bits 21 16 w != 0 || bits 15 0 w == 0
  let pair := decide (type ≤ 2) && (decide (op ≤ 2) || (decide (3 ≤ op ∧ op ≤ 5) && type == 2) || (op == 6 && type == 0)
    || (op == 7 && expect == 1 && !ordered && !isStage))
  if rsvd ∨ (ordered ∧ s.featureOff 3) then some 1
  else if !pair then some 2
  else if 0xFF < s.redOuting t then some 3
  else if expect = 0 then some 4
  else match t with
    | .context i =>
      if storeSize < s.get RED_OUT_OUT_OFFSET i * 512 + chunks * 512
          ∨ (ordered ∧ storeSize < s.get RED_OUT_SPILL_OFFSET i * 512 + chunks * expect * 512) then some 5
      else if !ordered ∧ 4096 < s.redUsed t + unitsOf op type chunks then some 6
      else if (s.word .RED_ADMIT i ||| s.word .RED_DELIVER i) &&& ~~~(s.word .POD_MEMBERS 0) ≠ 0 then some 7
      else none
    | .stage n =>
      if !s.joined (s.get RED_STAGE_CFG_HOME_DEVICE n) then some 7
      else if 32768 < s.redUsed t + (if ordered then chunks * expect else unitsOf op type chunks) then some 8
      else none

/-- The register of a target's configuration. -/
def Red.reg : Red → RegName
  | .context _ => .RED_CFG
  | .stage _ => .RED_STAGE_CFG

/-- Chunks of the current rounds are dropped. -/
def State.redClear (s : State) (t : Red) : State :=
  { s with reds := s.reds.filter (fun x => x.1 / 1024 != t.key 0 / 1024) }

/-- A write of RED_CFG_n or RED_STAGE_CFG_n (R253, R254). A write that arms is judged by the arm checks, any other by R19
(DESIGN CHOICE, log entry 46). -/
def State.writeRedCfg (s : State) (t : Red) (v : Word) : State :=
  let w := v.toNat
  let arm := bits 63 63 w
  let st := s.redState t
  if arm = 0 then
    let waited := s.redWaiting t
    let s := ((s.redClear t).writeReg t.reg t.ix (v &&& 0x3FFFFFFFFFFFFFFF)).redPut t RED_STATUS_STATE RED_STAGE_STATUS_STATE 0
    waited.foldl (fun s x => s.redResume t x.1 [x.2]) s
  else if bits 62 62 w = 1 then
    if st = 1 then s.redKill t else s.regEventAt 3 t.reg t.ix v
  else if st = 1 then s.regEventAt 3 t.reg t.ix v
  else
    let s := (t.reg.fields.filter (fun f => f.acc == .rw)).foldl (fun s f => s.put f t.ix (bits f.hi f.lo w))
      (s.setWord t.reg t.ix 0)
    let s := s.redPut t RED_CFG_ARMED RED_STAGE_CFG_ARMED 0
    match s.armError t w with
    | some code => (s.redPut t RED_STATUS_ARM_ERROR RED_STAGE_STATUS_ARM_ERROR code).redEvent t 2 0
    | none => ((s.redClear t).redPut t RED_CFG_ARMED RED_STAGE_CFG_ARMED 1).redPut t RED_STATUS_STATE RED_STAGE_STATUS_STATE 1

/-! ### Meanings -/

/-- REDC_CONTRIBUTION (R241, R245, R246, R250). -/
def execRedcContribution (r : Req) (s : State) : Host.Outcome State Fault Refusal := .next (s.redcArrive r)

/-- REDUCTION_ROUND_DELIVERY (R247). -/
def execReductionRoundDelivery (site : Fin 4) (ctx : Fin 64) (chunk : Fin 1024) (s : State) :
    Host.Outcome State Fault Refusal :=
  .next (s.redFinish (.context (64 * site.val + ctx.val)) chunk.val)

/-- STAGE_FORWARD (R250). -/
def execStageForward (stage : Fin 256) (chunk : Fin 1024) (s : State) : Host.Outcome State Fault Refusal :=
  .next (s.redFinish (.stage stage.val) chunk.val)

/-- REDUCTION_ARM (R254): a write with ARMED = 1 and KILL = 0. -/
def execReductionArm (t : RedTarget) (v : BitVec 64) (s : State) : Host.Outcome State Fault Refusal :=
  .next (s.writeRedCfg (.of t) ((v ||| 0x8000000000000000) &&& 0xBFFFFFFFFFFFFFFF))

/-- REDUCTION_DISARM (R253): a write with ARMED = 0. -/
def execReductionDisarm (t : RedTarget) (v : BitVec 64) (s : State) : Host.Outcome State Fault Refusal :=
  .next (s.writeRedCfg (.of t) (v &&& 0x7FFFFFFFFFFFFFFF))

/-- REDUCTION_KILL (R251): a write with KILL = 1 and ARMED = 1. -/
def execReductionKill (t : RedTarget) (v : BitVec 64) (s : State) : Host.Outcome State Fault Refusal :=
  .next (s.writeRedCfg (.of t) (v ||| 0xC000000000000000))

end Sys2Proof.Machine
end

