-- ==== Sys2Proof/Machine/PodRoutes.lean ====
section
/-! DEFINITION. Gateways (R228, R388-R396, R442): routes, messages that leave, pass and enter, the end-to-end record, and
what is held for a device that saves. -/

namespace Sys2Proof.Machine

/-! ### Messages of this module -/

/-- Messages sent to a device. -/
def State.egress (s : State) (d : Nat) : Egress := SMap.get s.podnet.egress d Egress.reset

/-- Change them. -/
def State.modEgress (s : State) (d : Nat) (f : Egress → Egress) : State :=
  { s with podnet := { s.podnet with egress := SMap.set s.podnet.egress d (f (s.egress d)) Egress.reset } }

/-- The device is SAVING (R442). -/
def State.isSaving (s : State) (d : Nat) : Bool := (s.word .POD_SAVING 0).getLsbD d

/-- The entry of a device changes in the swap under way (R398). -/
def State.changing (s : State) (d : Nat) : Bool :=
  s.podnet.draining.isSome && s.word .ROUTE d != s.word .ROUTE_STAGE d

/-- A message that finds no living target: a request gets a dead response (R235, R395). -/
def State.bodyDead (s : State) (b : PodBody) : State :=
  match b with
  | .request opc completion r =>
    if opc = .copyWrite then s.respond ⟨opc, completion, r⟩ .dead 8 r.data
    else (HomeOp.mk opc completion r).parts.foldl (fun (t : State) o => t.respond o .dead 7 []) s
  | _ => s

/-- Hold a message for a device that saves. -/
def State.holdSaving (s : State) (m : PodMsg) (arrival : Option (Nat × Nat)) : State :=
  let d := m.dst.val
  { s with podnet := { s.podnet with
    saving := SMap.set s.podnet.saving d (SMap.get s.podnet.saving d [] ++ [(m, arrival)]) [] } }

/-- Bytes of the messages a pair holds unacknowledged. -/
def Egress.held (e : Egress) : Nat := (e.sent.map (fun x => (podBytes x.1).length)).sum

/-- A message waits in its gateway. -/
def State.waitEgress (s : State) (m : PodMsg) : State := s.modEgress m.dst.val (fun e => { e with waiting := e.waiting ++ [m] })

/-- A message of this module leaves (R392, R394). -/
def State.leave (s : State) (m : PodMsg) : State :=
  let d := m.dst.val
  let e := s.egress d
  if s.deviceDead d then s.bodyDead m.body
  else if s.isSaving d then s.holdSaving m none
  else if s.changing d ∨ 4096 ≤ e.sent.length ∨ 524288 < e.held + (podBytes m).length then s.waitEgress m
  else
    match s.pickLink (s.eligibleLinks d (fun _ => true)) with
    | none => s.bodyDead m.body
    | some x =>
      let m := { m with mseq := BitVec.ofNat 16 e.next }
      (s.modEgress d (fun e => { e with next := (e.next + 1) % 65536, sent := e.sent ++ [(m, x)] })).linkSend x m.outing.toNat (podFlits m 0)

/-- Waiting messages for a device try again, in order. -/
def State.leaveWaiting (s : State) (d : Nat) : State :=
  let l := (s.egress d).waiting
  l.foldl (fun s m => s.leave m) (s.modEgress d (fun e => { e with waiting := [] }))

/-- An unacknowledged message is sent again, on another link where one is eligible (R393, R396). -/
def State.resend (s : State) (d mseq : Nat) : State :=
  match (s.egress d).sent.find? (fun x => x.1.mseq.toNat == mseq) with
  | none => s
  | some (m, old) =>
    let l := s.eligibleLinks d (fun x => x != old)
    match s.pickLink (if l.isEmpty then s.eligibleLinks d (fun _ => true) else l) with
    | none => s
    | some x =>
      let move (y : PodMsg × Nat) : PodMsg × Nat := if y.1.mseq = m.mseq then (y.1, x) else y
      (s.modEgress d (fun e => { e with sent := e.sent.map move })).linkSend x m.outing.toNat (podFlits m 0)

/-- The device of a route word's pair. -/
def devices : List Nat := List.range 64

/-- A link goes DOWN: its unacknowledged messages go again on the remaining links (R391, R396). -/
def State.linkLost (s : State) (x : Nat) : State :=
  let s := s.dropLink x
  devices.foldl (fun s d =>
    ((s.egress d).sent.filter (fun y => y.2 == x)).foldl (fun s y =>
      (s.bump GW_STATUS_E2E_RESENDS 0 1).resend d y.1.mseq.toNat) s) s

/-- A training ends (R386, R390, R406): fewer than 4 wavelengths, or a far end the layout does not give, leave the link down, and
its messages go again on others (R391, R396). -/
def State.linkTrained (s : State) (x bad device peer : Nat) : State :=
  if s.linkState x = 2 then s
  else
    let passed := ((List.range 8).filter (fun w => !bad.testBit w)).length
    let s := s.put POD_LINK_STATUS_BAD_LAMBDA x bad
    let s := (s.put POD_LINK_STATUS_PEER_DEVICE x device).put POD_LINK_STATUS_PEER_LINK x peer
    if passed < 4 then
      let s := s.linkLost x
      if 30 ≤ x then s.ringState true else s
    else if !s.cabledRight x device peer then
      ((s.linkLost x).put POD_LINK_STATUS_STATE x 3).cablingEvent (s.device * 256 + x) (device * 256 + peer)
    else
      let s := s.linkReady x (if passed = 8 then 2 else 1)
      if 30 ≤ x then
        let s := if s.linkState 30 = 2 ∧ s.linkState 31 = 2 then s.ringState false else s
        if s.flag POD_TOPO_JOINED 0 then s else s.ring .join
      else s

/-! ### Through and in -/

/-- A response leaves with the tag its requester expects (R389). -/
def State.tagBack (s : State) (m : PodMsg) : PodMsg × State :=
  match m.body with
  | .response r =>
    match s.podnet.tags.find? (fun t => t.device == m.dst.val && t.stream == r.stream.toNat && t.seq == r.seq.toNat) with
    | some t =>
      ({ m with tag := BitVec.ofNat 12 t.theirs }, { s with podnet := { s.podnet with tags := s.podnet.tags.erase t } })
    | none => (m, s)
  | _ => (m, s)

/-- What a message was in the module before it left. -/
def bodyMsg (m : PodMsg) : Msg :=
  match m.body with
  | .request opc completion r => .request ⟨opc, completion, r⟩
  | .response r => .response r
  | .part stream p => .partialRecord stream.toNat (m.tag.toNat % 16) p

/-- A core's contribution that enters a stage on its way out (R250). -/
def State.stages (s : State) (b : PodBody) : Bool :=
  match b with
  | .request .redc _ r => decide (r.stream.toNat / 64 = s.device ∧ r.stream.toNat % 64 < 32) && (s.stageFor r.address).isSome
  | _ => false

/-- A message of this module reaches its egress gateway: a core's contribution for a staged context enters the stage (R250), any
other message leaves. -/
def State.toGateway (s : State) (m : PodMsg) : State :=
  match m.body, s.stages m.body with
  | .request _ _ r, true => s.redcArrive r
  | _, _ =>
    let s := s.arrived (bodyMsg m)
    let r := s.tagBack { m with src := Fin.ofNat 64 s.device }
    r.2.leave r.1

/-- A message from link `x`, whose header there held `hop`, goes on (R395): its next header holds one more, and a third link
must end at its destination. -/
def State.transit (s : State) (m : PodMsg) (x hop : Nat) : State :=
  let d := m.dst.val
  if s.deviceDead d then s.bodyDead m.body
  else if s.isSaving d then s.holdSaving m (some (x, hop))
  else
    let ok (y : Nat) : Bool :=
      y != x && decide (hop < 2) && (decide (hop < 1) || s.get POD_LINK_STATUS_PEER_DEVICE y == d)
    match s.pickLink (s.eligibleLinks d ok) with
    | none => s.ring (.refused m.src.val m.mseq.toNat)
    | some y => s.linkSend y m.outing.toNat (podFlits m (hop + 1))

/-- The window rule of R223 with a 16-bit MSEQ (R393). -/
def judge16 (w : Option Window) (q : Nat) : Bool × Window :=
  match w with
  | none => (true, ⟨BitVec.ofNat 32 q, 1⟩)
  | some w =>
    let ahead := (q + 65536 - w.h.toNat) % 65536
    if ahead ≠ 0 ∧ ahead < 32768 then (true, ⟨BitVec.ofNat 32 q, (w.seen <<< ahead) ||| 1⟩)
    else
      let back := (w.h.toNat + 65536 - q) % 65536
      if back < 4096 ∧ w.seen.getLsbD back = false then (true, ⟨w.h, w.seen ||| ((1 : BitVec 4096) <<< back)⟩)
      else (false, w)

/-- The next number not yet received in order. -/
def nextInOrder (w : Window) : Nat → Nat → Nat
  | 0, n => n
  | k + 1, n =>
    let back := (w.h.toNat + 65536 - n) % 65536
    if back < 4096 ∧ w.seen.getLsbD back then nextInOrder w k ((n + 1) % 65536) else n

/-- An add that the gateway of its home's module combines (R228). -/
def combines (opc : Opc) (completion : Bool) (r : Req) : Bool :=
  !completion && (opc == .cairnAdd || (opc == .atomic && r.aop == 0))

/-- The original of a repeated add is still held in the gateways, or on its way to its home. -/
def State.stillPending (s : State) (op : HomeOp) : Bool :=
  let same (o : HomeOp) : Bool := o.req.stream == op.req.stream && o.req.seq == op.req.seq
  s.combining.any (fun w => w.held.any same) || s.combined.any (fun c => c.originals.any same)
    || s.out.any (fun m => match m with | .request o => same o | _ => false) || (s.heldAt (podSite op.req.address)).any same

/-- A message that entered by the gateway of unit `gw` goes on to its sites: as flits of the gateway's launch, under a tag (R248, R266,
R315, R389), and on its way as every message is (log entry 53). -/
def State.sendOn (s : State) (gw tag : Nat) (sites : List Nat) (m : Msg) (body : PodBody) : State :=
  (messageFlits (bodyVc body) (sites.map (2 ^ ·)).sum tag (bodyBytes body)).foldl (fun s f => s.toLaunch (gw - 34) ⟨f, false, none⟩) (s.send m)

/-- A request enters by the gateway of unit `gw`: adds for one line combine, after the gateways' window; the rest goes to its
home under the gateway's tag (R228, R389). A repeat is discarded (R223, R225): a PATOM has its original's old value, unless the original is still on its
way, whose answer is then the repeat's (DESIGN CHOICE, log entry 22). -/
def State.enterRequest (s : State) (gw tag : Nat) (op : HomeOp) : State :=
  let go (s : State) : State := s.sendOn gw tag op.sites (.request op) (.request op.opc op.completion op.req)
  if !combines op.opc op.completion op.req then go s
  else
    let p := s.windowPass 14 0 op.req.stream.toNat op.req.seq
    let line := BitVec.ofNat 64 (op.req.address.toNat / 64 * 64)
    if !p.1 then
      (if op.opc = .cairnAdd then p.2.respond op .done 0 []
       else if s.stillPending op then p.2 else p.2.replayAtomic op (podSite op.req.address))
    else
      let s := p.2
      let mine (w : CombWin) : Bool := w.unit == gw && w.line == line && w.outing == op.req.outing
      if s.combining.any mine then
        { s with combining := s.combining.map (fun w => if mine w then { w with held := w.held ++ [op] } else w) }
      else
        go { s with combining := s.combining ++ [CombWin.mk gw line op.req.outing []] }

/-- The gateway records a request's requester against a tag of its own (R389). -/
def State.tagRequest (s : State) (m : PodMsg) (op : HomeOp) : State :=
  { s with podnet := { s.podnet with
    tags := s.podnet.tags ++ op.parts.map (fun o =>
      ⟨s.podnet.nextTag, m.src.val, m.tag.toNat, o.req.stream.toNat, o.req.seq.toNat⟩)
    nextTag := (s.podnet.nextTag + 1) % 0xF00 } }

/-- A message enters its module (R392, R393). While the module saves, it is left to its sender's resend (R442). -/
def State.ingress (s : State) (m : PodMsg) : State :=
  if s.power.shed then s
  else
    let n := (podBytes m).length
    let b := podBytes m
    let found := s.podnet.arrived.find? (fun a => a.2.take n == b)
    let arrived := match found with
      | some a => s.podnet.arrived.erase a
      | none => s.podnet.arrived
    let gw := match found with | some a => if a.1 < 16 then 48 else 49 | none => 48
    let d := m.src.val
    let g := SMap.get s.podnet.ingress d Ingress.reset
    let j := judge16 g.window m.mseq.toNat
    let next := nextInOrder j.2 4096 g.next
    let s := { s with podnet := { s.podnet with
      arrived := arrived, ingress := SMap.set s.podnet.ingress d ⟨some j.2, next⟩ Ingress.reset } }
    let s := s.ring (.ack d ((next + 65535) % 65536))
    if !j.1 then s.bump GW_STATUS_E2E_DUPS 0 1
    else match m.body with
      | .request opc completion r => (s.tagRequest m ⟨opc, completion, r⟩).enterRequest gw s.podnet.nextTag ⟨opc, completion, r⟩
      | .response r => s.sendOn gw m.tag.toNat [m.site.val] (.response r) m.body
      | .part stream p => s.sendOn gw m.tag.toNat [m.site.val] (.partialRecord stream.toNat (m.tag.toNat % 16) p) m.body

/-- An acknowledgement frees every message up to it (R392). -/
def State.e2eAck (s : State) (d q : Nat) : State :=
  let after (x : PodMsg × Nat) : Bool := decide (32768 ≤ (q + 65536 - x.1.mseq.toNat) % 65536)
  (s.modEgress d (fun e => { e with sent := e.sent.filter after })).leaveWaiting d

/-! ### Meanings -/

/-- LINK_TRAINING_COMPLETE (R390). -/
def execLinkTrainingComplete (link : Fin 32) (bad : BitVec 8) (device : Fin 64) (peer : Fin 32) (s : State) :
    Host.Outcome State Fault Refusal :=
  .next (s.linkTrained link.val bad.toNat device.val peer.val)

/-- LINK_DOWN (R391, R396). -/
def execLinkDown (link : Fin 32) (s : State) : Host.Outcome State Fault Refusal :=
  .next (if s.linkState link.val = 0 then s else s.linkLost link.val)

/-- POD_MESSAGE_INGRESS (R393). -/
def execPodMessageIngress (m : PodMsg) (s : State) : Host.Outcome State Fault Refusal :=
  .next (if m.dst.val = s.device then s.ingress m else s)

/-- E2E_ACK (R392). -/
def execE2eAck (device : Fin 64) (mseq : BitVec 16) (s : State) : Host.Outcome State Fault Refusal :=
  .next (s.e2eAck device.val mseq.toNat)

/-- E2E_RESEND_TIMEOUT (R393). -/
def execE2eResendTimeout (device : Fin 64) (mseq : BitVec 16) (s : State) : Host.Outcome State Fault Refusal :=
  .next (if (s.egress device.val).sent.any (fun x => x.1.mseq == mseq) then
    (s.bump GW_STATUS_E2E_RESENDS 0 1).resend device.val mseq.toNat else s)

/-- GATEWAY_FORWARD (R394, R395): a message of another module in transit, or one of this module on its way out. -/
def execGatewayForward (m : PodMsg) (arrival : Option (Fin 30 × Fin 3)) (s : State) : Host.Outcome State Fault Refusal :=
  .next (if m.dst.val = s.device then s
    else match arrival with
      | none => s.toGateway m
      | some a => s.transit m a.1.val a.2.val)

/-- ROUTE_REFUSED (R395): the first-hop link leaves the active entry, and the message goes again. -/
def execRouteRefused (m : PodMsg) (s : State) : Host.Outcome State Fault Refusal :=
  let d := m.dst.val
  .next (match (s.egress d).sent.find? (fun x => x.1.mseq == m.mseq) with
    | none => s
    | some (_, x) =>
      let s := { s with podnet := { s.podnet with removed := SMap.set s.podnet.removed d (s.removedFor d ++ [x]) [] } }
      (s.bump GW_STATUS_ROUTE_REFUSED 0 1).resend d m.mseq.toNat)

/-- SAVING (R442). -/
def execSaving (device : Fin 64) (s : State) : Host.Outcome State Fault Refusal :=
  .next (s.setWord .POD_SAVING 0 (s.word .POD_SAVING 0 ||| (1 <<< device.val)))

/-- Messages held for a device go on, in the order they were held (R442). -/
def State.releaseSaving (s : State) (d : Nat) : State :=
  let l := SMap.get s.podnet.saving d []
  let s := s.setWord .POD_SAVING 0 (s.word .POD_SAVING 0 &&& ~~~((1 : Word) <<< d))
  l.foldl (fun s x => match x.2 with
    | none => s.leave x.1
    | some a => s.transit x.1 a.1 a.2)
    { s with podnet := { s.podnet with saving := SMap.set s.podnet.saving d [] [] } }

/-- RESUMED (R442). -/
def execResumed (device : Fin 64) (s : State) : Host.Outcome State Fault Refusal := .next (s.releaseSaving device.val)

end Sys2Proof.Machine
end

