-- ==== Sys2Proof/Machine/Summit.lean ====
section
/-! DEFINITION. The management ring and the Summit (R397, R398, R402, R404-R413): deaths, swaps, commands, handover, joins,
outings and teardown. ROLE: 0 MEMBER, 1 SUMMIT, 2 STANDBY, 3 STARTING, 4 OVERLAP, 5 DIAG. -/

namespace Sys2Proof.Machine

/-- Change the fabric manager's and gateways' state. -/
def State.modNet (s : State) (f : PodNet → PodNet) : State := { s with podnet := f s.podnet }

/-- ROLE of this module. -/
def State.role (s : State) : Nat := s.get SUMMIT_STATUS_ROLE 0

/-- ROLE becomes `r`. -/
def State.setRole (s : State) (r : Nat) : State := s.put SUMMIT_STATUS_ROLE 0 r

/-- A record of the fabric manager: class 0x0B, of the steward's die, without values (R518). -/
def State.fabricEvent (s : State) (code sev outing : Nat) : State := s.raise 0x0B code sev 13 0xFF outing 0 0 0

/-- Members that live: joined and not declared dead. -/
def State.living (s : State) : List Nat :=
  devices.filter (fun d => (s.word .POD_MEMBERS 0).getLsbD d && !s.deviceDead d)

/-- A command number is applied once (R407). -/
def State.fabricPass (s : State) (seq : BitVec 32) : Bool × State :=
  let r := Window.judge s.podnet.cmds seq
  let s := s.modNet (fun n => { n with cmds := some r.2 })
  if r.1 then (true, s.put SUMMIT_STATUS_CMD_SEQ 0 seq.toNat) else (false, s)

/-- The Summit's next command number. -/
def State.takeCmd (s : State) : Nat × State :=
  (s.podnet.nextCmd, s.modNet (fun n => { n with nextCmd := (n.nextCmd + 1) % 2 ^ 32 }))

/-- The Summit sends a command to every member. -/
def State.command (s : State) (c : FabricCmd) : State :=
  let q := s.takeCmd
  q.2.ring (.command q.1 c)

/-! ### Deaths (R397, R442) -/

/-- What this module does when a device is declared dead: its POD_DEAD bit; what it held or sent for the device ends. -/
def State.markDead (s : State) (d : Nat) : State :=
  let held := SMap.get s.podnet.saving d []
  let e := s.egress d
  let s := s.setWord .POD_DEAD 0 (s.word .POD_DEAD 0 ||| (1 <<< d))
  let s := s.setWord .POD_SAVING 0 (s.word .POD_SAVING 0 &&& ~~~((1 : Word) <<< d))
  let s := s.modNet (fun n => { n with saving := SMap.set n.saving d [] [] })
  let s := s.modEgress d (fun e => { e with sent := [], waiting := [] })
  let s := held.foldl (fun s x => s.bodyDead x.1.body) s
  let s := e.sent.foldl (fun s x => s.bodyDead x.1.body) s
  (e.waiting.foldl (fun s m => s.bodyDead m.body) s).mergesDead d

/-- A Summit with a swap under way sends SWAP once every living member has reported (R398, R413). -/
def State.swapReady (s : State) : State :=
  match s.podnet.swapping with
  | none => s
  | some epoch =>
    if s.living.all (fun d => s.podnet.drained.contains d) then
      let q := s.takeCmd
      (q.2.modNet (fun n => { n with swapping := none, drained := [] })).ring (.swap q.1 epoch)
    else s

/-- This module declares a device dead: the broadcast, the record, the bit. -/
def State.declareDead (s : State) (d : Nat) : State :=
  if s.deviceDead d then s
  else
    (((s.ring (.dead d)).raise 0x0B 3 3 13 0xFF 0x3FF (BitVec.ofNat 64 d) (BitVec.ofNat 64 s.role) 0).markDead d).swapReady

/-- A heartbeat is missing (R397, R409): the Summit judges any device, the standby the Summit only. -/
def State.heartbeatLost (s : State) (d : Nat) : State :=
  let r := s.role
  if r = 1 ∨ r = 4 then s.declareDead d
  else if r = 2 ∧ d = s.get POD_TOPO_SUMMIT 0 then
    ((s.declareDead d).setRole 3).modNet (fun n => { n with takeover := true })
  else s

/-- A declaration arrives: the record of the module that declared. -/
def State.deathArrives (s : State) (d : Nat) : State :=
  if s.deviceDead d then s
  else
    let ofSummit := d != s.get POD_TOPO_SUMMIT 0
    let by_ := if ofSummit then s.get POD_TOPO_SUMMIT 0 else s.get POD_TOPO_STANDBY 0
    let e : Event := ⟨0x0B, 3, 3, 15, 0xFF, 0x3FF, s.stepCount 4, BitVec.ofNat 64 d, if ofSummit then 1 else 2, 0, some by_⟩
    let s := ({ s with events := s.events ++ [e] }.alert 3).markDead d
    if s.role = 2 ∧ !ofSummit then (s.setRole 3).modNet (fun n => { n with takeover := true }) else s

/-! ### Swaps (R398) -/

/-- PREPARE: messages to changing destinations wait from now on. -/
def State.prepare (s : State) (epoch : Nat) : State :=
  s.modNet (fun n => { n with draining := some epoch, reported := false })

/-- A member's report reaches the Summit. -/
def State.drainedBy (s : State) (d epoch : Nat) : State :=
  if s.podnet.swapping = some epoch ∧ !s.podnet.drained.contains d then
    (s.modNet (fun n => { n with drained := n.drained ++ [d] })).swapReady
  else s

/-- Every message sent on a changing route is acknowledged: DRAINED. -/
def State.reportDrained (s : State) : State :=
  match s.podnet.draining with
  | none => s
  | some epoch =>
    if s.podnet.reported || devices.any (fun d => s.changing d && !(s.egress d).sent.isEmpty) then s
    else ((s.modNet (fun n => { n with reported := true })).ring (.drained epoch)).drainedBy s.device epoch

/-- The Summit starts a swap (R398 step 1). -/
def State.startSwap (s : State) : State :=
  let epoch := (s.get POD_TOPO_EPOCH 0 + 1) % 65536
  let q := s.takeCmd
  ((q.2.modNet (fun n => { n with swapping := some epoch, drained := [] })).ring (.prepare q.1 epoch)).prepare epoch

/-- The windows of a device's 64 streams, and of its pair, are emptied (R226, R410). -/
def State.emptyWindows (s : State) (d : Nat) : State :=
  { s with
    windows := s.windows.filter (fun w => w.1 % 4096 / 64 != d)
    history := s.history.filter (fun w => w.1 % 4096 / 64 != d)
    podnet := { s.podnet with
      ingress := SMap.set s.podnet.ingress d Ingress.reset Ingress.reset
      egress := SMap.set s.podnet.egress d Egress.reset Egress.reset } }

/-- The next JOIN is admitted (R410 steps 2 to 5): the windows of its streams are emptied at every home of the pod, those here among
them (R226). -/
def State.joinStart (s : State) (d : Nat) : State :=
  let s := s.modNet (fun n => { n with joining := some d })
  let s := if s.deviceDead d then
      (s.setWord .POD_DEAD 0 (s.word .POD_DEAD 0 &&& ~~~((1 : Word) <<< d))).command (.alive (Fin.ofNat 64 d)) else s
  let s := s.command (.identity (Fin.ofNat 64 d) (Fin.ofNat 4 (s.get POD_TOPO_LAYOUT 0)) (s.flag POD_CFG_FULL_CLASS 0))
  ((s.emptyWindows d).command (.emptyWindows (Fin.ofNat 64 d))).startSwap

/-- A join is complete: the member's bit, its record, and the next JOIN (R410 step 5). -/
def State.finishJoin (s : State) : State :=
  match s.podnet.joining with
  | none => s
  | some d =>
    let s := s.setWord .POD_MEMBERS 0 (s.word .POD_MEMBERS 0 ||| (1 <<< d))
    let s := (s.command (.joined (Fin.ofNat 64 d))).fabricEvent 7 0 0x3FF
    match s.podnet.joins with
    | [] => s.modNet (fun n => { n with joining := none })
    | j :: t => (s.modNet (fun n => { n with joins := t })).joinStart j

/-- SWAP: staged entries become active, links they name carry messages, waiting messages leave (R396, R398). -/
def State.swapRoutes (s : State) (epoch : Nat) : State :=
  let s := devices.foldl (fun s d => s.setWord .ROUTE d (s.word .ROUTE_STAGE d)) s
  let s := (s.put POD_TOPO_EPOCH 0 epoch).modNet (fun n => { n with draining := none, removed := [] })
  let named (x : Nat) : Bool := devices.any (fun d =>
    (s.word .ROUTE d).getLsbD 63 && ((s.word .ROUTE d).getLsbD x || (s.word .ROUTE d).getLsbD (30 + x)))
  let s := (List.range 30).foldl (fun s x =>
    if named x ∧ s.linkState x = 2 then s.modLink x (fun l => { l with routed := true }) else s) s
  let s := devices.foldl (fun s d => s.leaveWaiting d) s
  if s.role = 1 then s.finishJoin else s

/-! ### Commands at a member (R407) -/

/-- The sum of SHARE over the other outings. -/
def State.otherShares (s : State) (o : Nat) : Nat :=
  (((List.range 256).filter (fun i => i != o)).map (fun i => s.get LINK_RES_SHARE i)).sum

/-- A LINK_RES write (R402). -/
def State.writeLinkRes (s : State) (o : Nat) (v : Word) : State :=
  if 56 < s.otherShares o + bits 5 0 v.toNat then s.regEventAt 1 .LINK_RES o v else s.writeReg .LINK_RES o v

/-- ROLE follows the names in POD_TOPO, except during a handover. -/
def State.nameRole (s : State) : State :=
  if 3 ≤ s.role then s
  else if s.get POD_TOPO_SUMMIT 0 = s.device then s.setRole 1
  else if s.get POD_TOPO_STANDBY 0 = s.device then s.setRole 2
  else s.setRole 0

/-- A fabric-manager command takes effect. -/
def State.fabric (s : State) (c : FabricCmd) : State :=
  match c with
  | .stage n route => s.writeReg .ROUTE_STAGE n.val route
  | .identity d layout full =>
    let s := ((s.put POD_TOPO_DEVICE 0 d.val).put POD_TOPO_LAYOUT 0 layout.val).put POD_CFG_FULL_CLASS 0 (if full then 1 else 0)
    (List.range 4).foldl (fun s i => s.put DIE_DEVICE_DEVICE i d.val) s
  | .joined d =>
    let s := s.setWord .POD_MEMBERS 0 (s.word .POD_MEMBERS 0 ||| (1 <<< d.val))
    if d.val = s.device then s.put POD_TOPO_JOINED 0 1 else s
  | .alive d => s.setWord .POD_DEAD 0 (s.word .POD_DEAD 0 &&& ~~~((1 : Word) <<< d.val))
  | .emptyWindows d => s.emptyWindows d.val
  | .summits a b => ((s.put POD_TOPO_SUMMIT 0 a.val).put POD_TOPO_STANDBY 0 b.val).nameRole
  | .reserve o share => s.writeLinkRes o.val (share.zeroExtend 64)
  | .coreOuting k o => s.writeReg .CORE_OUTING (coreNum k) (o.zeroExtend 64)
  | .granule m n o =>
    s.writeGranule m.val n.val
      ((s.word .GRANULE_OWNER (m.val * 128 + n.val) &&& 0x400) ||| o.zeroExtend 64)
  | .outing o st => s.put OUTING_STATUS_STATE o.val st.val
  | .ring broken => s.ringState broken
  | .wake => if s.power.shed then s.holdRequest (.wake true) else (s.leaveDim).wakeModule

/-! ### Handover (R408, R409) -/

/-- A handover begins: `why` 0 a HANDOVER write, 1 a failed self-check (at the standby: the Summit's word), 2 the other takes
control back. -/
def State.startHandover (s : State) (why : Nat) : State :=
  if s.role = 1 then s.modNet (fun n => { n with handing := true, back := decide (why = 2) })
  else if s.role = 2 ∧ why = 1 then s.setRole 3
  else if why = 0 then s.regEventAt 3 .SUMMIT_STATUS 0 0x100
  else s

/-- A SUMMIT_STATUS write (R408, R414). -/
def State.writeSummit (s : State) (v : Word) : State :=
  let s := s.writeReg .SUMMIT_STATUS 0 v
  if v.getLsbD 8 then s.startHandover 0 else s

/-- The module in control: POD_TOPO.SUMMIT names it. -/
def State.takeControl (s : State) : State :=
  (((s.setRole 1).put POD_TOPO_SUMMIT 0 s.device).bump SUMMIT_STATUS_HANDOVERS 0 1).modNet
    (fun n => { n with takeover := false, back := false, passes := 0 })

/-- The starting manager is ready, or the old Summit goes to OVERLAP. -/
def State.standbyReady (s : State) : State :=
  if s.role = 3 then (if s.podnet.takeover then s.takeControl else s.setRole 4)
  else if s.role = 1 ∧ s.podnet.handing then s.setRole 4
  else s

/-- The overlap ends: the old Summit to DIAG, or back to STANDBY; the new one to SUMMIT. -/
def State.summitOverlapEnd (s : State) : State :=
  if s.role ≠ 4 then s
  else if s.podnet.handing then
    let s := ((s.setRole (if s.podnet.back then 2 else 5)).put SUMMIT_STATUS_TESTS_FAILED 0 0).bump SUMMIT_STATUS_HANDOVERS 0 1
    (s.put POD_TOPO_SUMMIT 0 (s.get POD_TOPO_STANDBY 0)).modNet
      (fun n => { n with handing := false, back := false, passes := 0 })
  else s.takeControl

/-- A self-test in DIAG: three passes in a row take control back, eight failures end in MEMBER. -/
def State.summitTest (s : State) (passes : Bool) : State :=
  if s.role ≠ 5 then s
  else if passes then
    let n := s.podnet.passes + 1
    if 3 ≤ n then (s.setRole 3).modNet (fun x => { x with passes := 0, back := true })
    else s.modNet (fun x => { x with passes := n })
  else
    let s := (s.bump SUMMIT_STATUS_TESTS_FAILED 0 1).modNet (fun x => { x with passes := 0 })
    if 8 ≤ s.get SUMMIT_STATUS_TESTS_FAILED 0 then (s.setRole 0).fabricEvent 4 1 0x3FF else s

/-! ### Joins, outings and teardown (R410-R412) -/

/-- A JOIN reaches the Summit. -/
def State.join (s : State) (d : Nat) (valid : Bool) : State :=
  if s.role ≠ 1 ∨ !valid then s
  else if s.podnet.joining.isSome then s.modNet (fun n => { n with joins := n.joins ++ [d] })
  else s.joinStart d

/-- The Summit writes an outing at this member (R411). -/
def State.createOuting (s : State) (o : Nat) (cores : List CoreRef) (granules : List (Fin 8 × Fin 90)) (share : BitVec 6) :
    State :=
  if 256 ≤ o ∨ s.get OUTING_STATUS_STATE o ≠ 0 then s.fabricEvent 6 0 (if o < 256 then o else 0x3FF)
  else
    let w : Word := BitVec.ofNat 64 o
    let s := cores.foldl (fun s k => s.writeReg .CORE_OUTING (coreNum k) w) s
    let s := granules.foldl (fun s g =>
      let i := g.1.val * 128 + g.2.val
      s.writeGranule g.1.val g.2.val ((s.word .GRANULE_OWNER i &&& 0x400) ||| w)) s
    s.writeLinkRes o (share.zeroExtend 64)

/-- A member core of an outing being torn down: STOP; its copies end ABORTED; nothing of its port remains (R412). -/
def State.tearCore (s : State) (k : Nat) : State :=
  let s := (s.stopCore k).put CORE_OUTING_OUTING k 0x3FF
  let s := (List.range 16).foldl (fun s ch => if ((s.core k).copy ch).status = 1 then s.copyEnd k ch 3 0 else s) s
  s.modCore k (fun c => { c with slots := [], unacked := [], fences := [], merges := [] })

/-- Every reduction context and stage. -/
def allReds : List Red := (List.range 256).map Red.context ++ (List.range 256).map Red.stage

/-- A context or stage returns to UNARMED. -/
def State.unarm (s : State) (t : Red) : State :=
  let waited := s.redWaiting t
  let s := ((s.redClear t).setWord t.reg t.ix 0).redPut t RED_STATUS_STATE RED_STAGE_STATUS_STATE 0
  waited.foldl (fun s x => s.redResume t x.1 [x.2]) s

/-- An outing is torn down at this member (R412 steps 2 to 4). -/
def State.tearOuting (s : State) (o : Nat) : State :=
  let cores := (List.range 36).filter (fun k => s.get CORE_OUTING_OUTING k == o)
  let reds := allReds.filter (fun t => s.redState t != 0 && s.redOuting t == o)
  let s := if s.role = 1 ∧ s.get OUTING_STATUS_STATE o = 1 then s.put OUTING_STATUS_STATE o 2 else s
  let s := cores.foldl (fun s k => s.tearCore k) s
  (reds.foldl (fun s t => s.unarm t) s).ring (.torn o)

/-- A member's TORN report (R412 step 5). -/
def State.tornBy (s : State) (o d : Nat) : State :=
  if s.get OUTING_STATUS_STATE o ≠ 2 then s
  else
    let l := SMap.get s.podnet.torn o []
    let l := if l.contains d then l else l ++ [d]
    let need := if s.living.isEmpty then [s.device] else s.living
    if need.all (fun x => l.contains x) then
      ((s.modNet (fun n => { n with torn := SMap.set n.torn o [] [] })).put OUTING_STATUS_STATE o 3).fabricEvent 5 2 o
    else s.modNet (fun n => { n with torn := SMap.set n.torn o l [] })

/-! ### Meanings -/

/-- HEARTBEAT_SEND (R397). -/
def execHeartbeatSend (s : State) : Host.Outcome State Fault Refusal :=
  .next (if s.pins.resetLow || s.pins.held then s else s.ring .heartbeat)

/-- HEARTBEAT_TIMEOUT (R397). -/
def execHeartbeatTimeout (device : Fin 64) (s : State) : Host.Outcome State Fault Refusal := .next (s.heartbeatLost device.val)

/-- DEVICE_DEAD_DECLARATION (R397). -/
def execDeviceDeadDeclaration (device : Fin 64) (s : State) : Host.Outcome State Fault Refusal :=
  .next (s.deathArrives device.val)

/-- PREPARE (R398). -/
def execPrepare (seq : BitVec 32) (epoch : BitVec 16) (s : State) : Host.Outcome State Fault Refusal :=
  let p := s.fabricPass seq
  .next (if p.1 then p.2.prepare epoch.toNat else p.2)

/-- ROUTE_DRAIN_END (R398). -/
def execRouteDrainEnd (s : State) : Host.Outcome State Fault Refusal := .next s.reportDrained

/-- DRAINED (R398). -/
def execDrained (device : Fin 64) (epoch : BitVec 16) (s : State) : Host.Outcome State Fault Refusal :=
  .next (s.drainedBy device.val epoch.toNat)

/-- SWAP (R398). -/
def execSwap (seq : BitVec 32) (epoch : BitVec 16) (s : State) : Host.Outcome State Fault Refusal :=
  let p := s.fabricPass seq
  .next (if p.1 then p.2.swapRoutes epoch.toNat else p.2)

/-- RING_HOLD_REFRESH (R405): the switches terminate the ring, and the ring links train again. -/
def execRingHoldRefresh (s : State) : Host.Outcome State Fault Refusal :=
  .next (if s.flag POD_TOPO_BYPASSED 0 then
    ((s.put POD_TOPO_BYPASSED 0 0).put POD_LINK_STATUS_STATE 30 1).put POD_LINK_STATUS_STATE 31 1 else s)

/-- RING_BYPASS (R405). -/
def execRingBypass (s : State) : Host.Outcome State Fault Refusal :=
  .next (((s.put POD_TOPO_BYPASSED 0 1).dropLink 30).dropLink 31)

/-- SUMMIT_SNAPSHOT (R407): the Summit keeps and sends its snapshot; the standby keeps the one that arrives. -/
def execSummitSnapshot (image : List Byte) (s : State) : Host.Outcome State Fault Refusal :=
  .next (if s.role = 1 ∨ s.role = 4 then (s.modNet (fun n => { n with snapshot := image })).ring .snapshot
    else if s.role = 2 ∨ s.role = 3 then s.modNet (fun n => { n with snapshot := image }) else s)

/-- FABRIC_COMMAND (R407). -/
def execFabricCommand (seq : BitVec 32) (cmd : FabricCmd) (s : State) : Host.Outcome State Fault Refusal :=
  let p := s.fabricPass seq
  .next (if p.1 then p.2.fabric cmd else p.2)

/-- SUMMIT_HANDOVER (R408). -/
def execSummitHandover (why : Fin 3) (s : State) : Host.Outcome State Fault Refusal := .next (s.startHandover why.val)

/-- STANDBY_STARTED (R408, R409). -/
def execStandbyStarted (s : State) : Host.Outcome State Fault Refusal := .next s.standbyReady

/-- SUMMIT_OVERLAP_END (R408). -/
def execSummitOverlapEnd (s : State) : Host.Outcome State Fault Refusal := .next s.summitOverlapEnd

/-- SUMMIT_SELF_TEST (R408). -/
def execSummitSelfTest (passes : Bool) (s : State) : Host.Outcome State Fault Refusal := .next (s.summitTest passes)

/-- JOIN (R410). -/
def execJoin (device : Fin 64) (valid : Bool) (s : State) : Host.Outcome State Fault Refusal :=
  .next (s.join device.val valid)

/-- OUTING_CREATE (R411). -/
def execOutingCreate (o : BitVec 10) (cores : List CoreRef) (granules : List (Fin 8 × Fin 90)) (share : BitVec 6) (s : State) :
    Host.Outcome State Fault Refusal :=
  .next (s.createOuting o.toNat cores granules share)

/-- OUTING_LIVE (R411). -/
def execOutingLive (o : Fin 256) (s : State) : Host.Outcome State Fault Refusal :=
  .next (if s.get OUTING_STATUS_STATE o.val = 0 then s.put OUTING_STATUS_STATE o.val 1 else s)

/-- TEARDOWN (R412). -/
def execTeardown (seq : BitVec 32) (o : Fin 256) (s : State) : Host.Outcome State Fault Refusal :=
  let p := s.fabricPass seq
  .next (if p.1 then p.2.tearOuting o.val else p.2)

/-- TORN (R412). -/
def execTorn (o : Fin 256) (device : Fin 64) (s : State) : Host.Outcome State Fault Refusal :=
  .next (s.tornBy o.val device.val)

end Sys2Proof.Machine
end

