-- ==== Sys2Proof/Machine/RegAccess.lean ====
section
/-! DEFINITION. Register reads and writes of the steward and the host (R14-R21, R464, R465, R491-R500). -/

namespace Sys2Proof.Machine

/-! ### Reads -/

/-- The instance that a selected register shows: what its SEL register names at the moment (R297, R330, R362, R384, R414,
R460); otherwise its own. -/
def State.selected (s : State) (r : RegName) (i : Nat) : Nat :=
  match r with
  | .CAL_ITEM_STATUS => s.get CAL_SEL_CLASS 0 * 4096 + s.get CAL_SEL_INDEX 0
  | .CAL_ITEM_TIME => s.get CAL_SEL_CLASS 0 * 4096 + s.get CAL_SEL_INDEX 0
  | .RING_STATUS => ringIx (s.get RING_SEL_SITE 0) (s.get RING_SEL_PLANE 0) (s.flag RING_SEL_END 0) (s.get RING_SEL_INDEX 0)
  | .CASOB_STATUS => s.get CASOB_SEL_SITE 0 * 32 + s.get CASOB_SEL_PORT 0
  | .CHAN_STATUS => chanIx i (s.get CHAN_SEL_CHANNEL i)
  | .LAYER_TEMP => layerIx i (s.get LAYER_SEL_LAYER i)
  | .REGION_STATUS => s.get REGION_SEL_DIE 0 * 32 + s.get REGION_SEL_REGION 0
  | .POD_LINK_STATUS => s.get POD_LINK_SEL_LINK 0
  | .SENSOR_STATUS => s.get SENSOR_SEL_DIE 0 * 64 + s.get SENSOR_SEL_LOCATION 0
  | _ => i

/-- THERM_STATUS with the hottest location as it is now (R460). -/
def State.thermStatus (s : State) : Word :=
  let h := s.hottest
  BitVec.ofNat 64 (setBits 55 48 (setBits 47 43 (s.word .THERM_STATUS 0).toNat h.2) (shown8 h.1))

/-- What a read of a register returns: the stored word, or the view of what the register shows. -/
def State.view (s : State) (r : RegName) (i : Nat) : Word :=
  match r with
  | .CORE_STATUS => s.coreStatus i
  | .SELF => s.selfReg i
  | .POD_STATUS => s.podStatus i
  | .FP_FLAGS_SET => s.word .FP_FLAGS i &&& 0xFF
  | .CORE_PWR => if (s.core i).l1 then BitVec.ofNat 64 (setBits 2 0 (s.word .CORE_PWR i).toNat 1) else s.word .CORE_PWR i
  | .SLOT_COUNT => BitVec.ofNat 64 (s.ticks * 35 / 512)
  | .STEP_COUNT => BitVec.ofNat 64 (s.stepCount i)
  | .UPTIME_US => BitVec.ofNat 64 s.uptime
  | .THERM_STATUS => s.thermStatus
  | .GRANULE_OWNER => if s.granuleCount ≤ i % 128 then 0 else s.word r i
  | .CLK_STATUS => if i < 4 then s.word .CLK_STATUS i else 0
  | .RING_STATUS =>
    let k := s.selected r i
    if !s.sitePresent (s.get RING_SEL_SITE 0) then BitVec.ofNat 64 (setBits 2 0 (s.word r k).toNat 5)
    else if s.planeState (s.get RING_SEL_PLANE 0) = 0 then BitVec.ofNat 64 (setBits 2 0 (s.word r k).toNat 0)
    else s.word r k
  | .CAL_ITEM_STATUS =>
    let k := s.selected r i
    let due := decide (0 < s.get TUNE_STATUS_PHASE 0) && s.itemExists k && s.isDue k ((s.item k).temp.getD (4 * s.lastTemp k))
    BitVec.ofNat 64 (setBits 16 16 (s.word r k).toNat (if due then 1 else 0))
  | _ => s.word r (s.selected r i)

/-- A read of the Spur's identity page (R493, R495): what the die reports is its own. -/
def State.readSpur (s : State) (o : Nat) : Word × State :=
  if !s.sitePresent 13 then (0, s)
  else if o / 8 * 8 = 0xFFFF0000 then
    let f := s.fresh
    let w := bits 23 4 f.1.toNat * 16
    (BitVec.ofNat 64 (setBits 31 24 (setBits 7 4 w (max 2 (bits 7 4 w))) 0x80), f.2)
  else if o / 8 * 8 = 0xFFFF0008 then (BitVec.ofNat 64 (s.stepCount 14), s)
  else if o / 8 * 8 = 0xFFFF0010 then s.fresh
  else (0, s)

/-- The status window's word at an offset (R465). -/
def State.windowWord (s : State) (o : Nat) : Word := SMap.get s.steward.window (o / 8) 0

/-- A read that shows a value outside what the manual lists for its register is a device fault, and is reported (R7). -/
def State.listed (s : State) (a : Nat) (r : RegName) (i : Nat) (w : Word) : State :=
  if outsideList r i w then
    let d := regDie a
    s.deviceFault d.1 d.2 (BitVec.ofNat 64 (addrOf r i)) w
  else s

/-- What 8 bytes at an address read as (R491, R493, R496), with what the read does. -/
def State.readPlace (s : State) (a : Nat) : Word × State :=
  match locate a with
  | .reg r i => (s.view r i, s.listed a r i (s.view r i))
  | .store k off =>
    let t := s.storeNow k (off / 8 * 8) 8 none
    (t.hartRead, t)
  | .imem k j => (SMap.get (s.core k).imem j 0, s)
  | .cairn k n => (s.cairnRecord k n, s)
  | .shadow k n =>
    let c := SMap.get (s.core k).shadow n Cairn.zero
    (BitVec.ofNat 64 ((if c.sat then 2 ^ 32 else 0) + c.count.toNat), s)
  | .stewardMem x => (Mem.word s.stewardMem x, s)
  | .flash x => (Mem.word s.flash x, s)
  | .window o => (s.windowWord o, s)
  | .mtime => (BitVec.ofNat 64 s.uptime, s)
  | .mtimecmp h => ((s.hart h).cmp, s)
  | .plic o => s.readPlic o
  | .rom _ => (0, s)
  | .spur o => s.readSpur o
  | .empty _ _ => (0, s)
  | .outside => (0, s)

/-- A read of `n` bytes: of a word that is 64 bits wide, the addressed bytes, with what a full read does (R21). -/
def State.readBytes (s : State) (a n : Nat) : Word × State :=
  let r := s.readPlace a
  let sliced : Bool := match locate a with
    | .stewardMem _ => false
    | .flash _ => false
    | .plic _ => false
    | _ => true
  (if sliced then BitVec.ofNat 64 (r.1.toNat / 256 ^ (a % 8) % 256 ^ n) else r.1, r.2)

/-! ### Writes of registers -/

/-- A SEL write of two fields (R19): the first takes a value that `good` admits, the second one that exists beside it; a field that
does not keeps its value. -/
def State.writeSel (s : State) (r : RegName) (v : Word) (a b : Fld) (good : Nat → Bool) (exist : Nat → Nat → Bool) : State :=
  let x := bits a.hi a.lo v.toNat
  let y := bits b.hi b.lo v.toNat
  let s := if good x then s.put a 0 x else s
  let ok := exist (s.get a 0) y
  let s := if ok then s.put b 0 y else s
  if good x && ok then s else s.regEventAt 1 r 0 v

/-- The armed contexts and stages keep their other registers (R253). -/
def State.writeRedOther (s : State) (r : RegName) (t : Red) (v : Word) : State :=
  if s.redState t = 1 then s.regEventAt 3 r t.ix v else s.writeReg r t.ix v

/-- A BOOT_CTRL write (R489). -/
def State.writeBootCtrl (s : State) (v : Word) : State :=
  let s := s.writeReg .BOOT_CTRL 0 v
  if v.getLsbD 0 then s.setReady else s

/-- A CORE_PWR write (R448): a reserved REQ keeps the field and asks nothing. -/
def State.writeCorePwr (s : State) (k : Nat) (v : Word) : State :=
  let req := bits 6 4 v.toNat
  let s := s.writeReg .CORE_PWR k v
  if 2 ≤ req ∧ req ≤ 4 then s.requestRung k req else s

/-- A MODULE_PWR write (R450). -/
def State.writeModulePwr (s : State) (v : Word) : State :=
  let req := bits 5 4 v.toNat
  if req = 3 then s.regEventAt 1 .MODULE_PWR 0 v else s.requestModule req

/-- A LASER_GROUP write. -/
def State.writeLaser (s : State) (b : Nat) (v : Word) : State :=
  let s := s.writeReg .LASER_GROUP b v
  if v.getLsbD 7 then s.writeHandover b v else s

/-- A CAIRN_DUMP_CTRL write (R199, R200). -/
def State.writeDump (s : State) (k : Nat) (v : Word) : State := if v.getLsbD 0 then s.dumpGo k else s

/-- A register write (R17-R19): the registers with rules of their own by those rules, all others field by field. -/
def State.writeRegister (s : State) (r : RegName) (i : Nat) (v : Word) : State :=
  match r with
  | .CORE_CTRL => s.writeCoreCtrl i v
  | .CORE_MAP => s.writeCoreMap i v
  | .CAIRN_CTRL => s.writeCairnCtrl i v
  | .CAIRN_DUMP_CTRL => s.writeDump i v
  | .SR_SEED_V => s.seed SR_SEED_V_SEED SR_STATE_STATE_V i v
  | .SR_SEED_M => s.seed SR_SEED_M_SEED SR_STATE_STATE_M i v
  | .FP_FLAGS_SET => s.setWord .FP_FLAGS i (s.word .FP_FLAGS i ||| (v &&& 0xFF))
  | .GRANULE_OWNER => s.writeGranule (i / 128) (i % 128) v
  | .POD_SEQ => s.writePodSeq i v
  | .RED_CFG => s.writeRedCfg (.context i) v
  | .RED_OUT => s.writeRedOther r (.context i) v
  | .RED_ADMIT => s.writeRedOther r (.context i) v
  | .RED_DELIVER => s.writeRedOther r (.context i) v
  | .RED_UNITS => s.writeRedOther r (.context i) v
  | .RED_STAGE_CFG => s.writeRedCfg (.stage i) v
  | .RED_STAGE_UNITS => s.writeRedOther r (.stage i) v
  | .LOOP_TEST => s.writeLoopTest i v
  | .CAL_GAP => s.writeCalGap v
  | .CAL_SEL => s.writeSel r v CAL_SEL_CLASS CAL_SEL_INDEX (fun c => decide (c < 7)) (fun c i => s.itemExists (c * 4096 + i))
  | .LASER_GROUP => s.writeLaser i v
  | .CASOB_SEL => s.writeCasobSel v
  | .CASOB_STATUS => s.writeReg r (s.selected r i) v
  | .CHAN_STATUS => s.writeReg r (s.selected r i) v
  | .LAYER_TEMP => s.writeReg r (s.selected r i) v
  | .RING_STATUS => s.writeReg r (s.selected r i) v
  | .CAL_ITEM_STATUS => s.writeReg r (s.selected r i) v
  | .REGION_STATUS => s.writeReg r (s.selected r i) v
  | .POD_LINK_STATUS => s.writeReg r (s.selected r i) v
  | .SENSOR_STATUS => s.writeReg r (s.selected r i) v
  | .RETIRE_CTRL => s.writeRetire i v
  | .CLK_POINT => s.writeClkPoint v
  | .REGION_SEL => s.writeSel r v REGION_SEL_DIE REGION_SEL_REGION (fun d => decide (d < 14)) (fun d i => regionExists (d * 32 + i))
  | .SENSOR_SEL => s.writeSel r v SENSOR_SEL_DIE SENSOR_SEL_LOCATION (fun d => decide (0 < sensorCount d))
      (fun d i => decide (i < sensorCount d))
  | .PWR_CTRL => (s.writeReg r i v).showClock
  | .THERM_CTRL => (s.writeReg r i v).showClock
  | .CORE_PWR => s.writeCorePwr i v
  | .MODULE_PWR => s.writeModulePwr v
  | .CORE_FENCE => s.writeCoreFence i v
  | .LOG_BASE => s.writeLogBase v
  | .ROUTE => s
  | .LINK_RES => s.writeLinkRes i v
  | .SUMMIT_STATUS => s.writeSummit v
  | .BOOT_CTRL => s.writeBootCtrl v
  | .SEC_CMD => s.writeSecCmd v
  | _ => s.writeReg r i v

/-! ### Writes of addresses -/

/-- An event at an address of the module register space. -/
def State.addrEvent (s : State) (code a : Nat) (v : Word) : State :=
  let d := regDie a
  s.regEvent code d.1 d.2 a v

/-- A word that must be written whole: a narrower or misaligned write is discarded and recorded (R21, R496). -/
def State.whole (s : State) (a n : Nat) (v : Word) (f : State → State) : State :=
  if n = 8 ∧ a % 8 = 0 then f s else s.addrEvent 2 a v

/-- The Hamper slot that a flash address lies in, and the offset there (R466). -/
def hamperAt (x : Nat) : Option (Nat × Nat) :=
  if 0x8000000 ≤ x ∧ x < 0x10000000 then some ((x - 0x8000000) / 0x4000000, x % 0x4000000) else none

/-- The list with bytes `l` at offset `o`, zeros before it where it was shorter. -/
def overlay (old : List Byte) (o : Nat) (l : List Byte) : List Byte := padTo o old ++ l ++ old.drop (o + l.length)

/-- Bytes written to the flash. -/
def State.writeFlash (s : State) (x : Nat) (l : List Byte) : State :=
  match hamperAt x with
  | some (i, o) => (s.setSlot i (overlay (s.slot i) o l)).showHamper
  | none => { s with flash := Mem.setBytes s.flash x l }

/-- A machine timer compare register: the pending bit follows it (R462). -/
def State.writeTimeCmp (s : State) (h : Nat) (v : Word) : State :=
  if h < 16 then s.modHart h (fun x => { x with cmp := v, mtip := decide (v.toNat ≤ s.uptime) }) else s

/-- Does a write to the address wake a resting module? Any but those inside the steward's own die (R450). -/
def wakes (a : Nat) : Bool := decide (regBase ≤ a ∧ a < regBase + 0x1000000000) && (a - regBase) / 0x100000000 != 13

/-- A steward or host write (R491-R496). -/
def State.stewardWrite (s : State) (a n : Nat) (v : Word) : State :=
  let s := if wakes a then s.wakeModule else s
  match locate a with
  | .reg r i => s.whole a n v (fun s => s.writeRegister r i v)
  | .store k off => s.storeAccess k off n (some v)
  | .imem k j => s.whole a n v (fun s => s.writeImem k (j / 4) (j % 4) v)
  | .cairn k c => s.whole a n v (fun s => s.stewardAdd k c (BitVec.ofNat 32 v.toNat))
  | .shadow _ _ => s.addrEvent 3 a v
  | .stewardMem x => { s with stewardMem := Mem.setBytes s.stewardMem x (toLE n v.toNat) }
  | .flash x => s.writeFlash x (toLE n v.toNat)
  | .window _ => s
  | .mtime => s
  | .mtimecmp h => if n = 8 ∧ a % 8 = 0 then s.writeTimeCmp h v else s
  | .plic o => if n = 4 ∧ a % 4 = 0 then s.writePlic o v else s
  | .rom _ => s
  | .spur _ => s
  | .empty _ _ => s.addrEvent 1 a v
  | .outside => s

/-! ### The status window (R465) -/

/-- What word `n` of the status window mirrors. -/
def State.mirrored (s : State) (n : Nat) : Word :=
  if n < 36 then s.coreStatus n
  else if n = 36 then s.word .PWR_STATUS 0
  else if n = 37 then s.thermStatus
  else if n = 38 then s.word .LOG_SEQ 0
  else if n = 39 then s.word .POD_TOPO 0
  else if n = 40 then s.word .POD_DEAD 0
  else if n = 41 then s.word .POD_SAVING 0
  else if n < 46 then s.word .FENCE_STATUS (n - 42)
  else if n < 50 then s.word .CLK_STATUS (n - 46)
  else if n = 50 then s.word .TUNE_STATUS 0
  else if n < 59 then s.word .STACK_STATUS (n - 51)
  else if n < 67 then
    BitVec.ofNat 64 ((List.range 32).map (fun j => s.get OUTING_STATUS_STATE (32 * (n - 59) + j) * 4 ^ j)).sum
  else 0

/-! ### Meanings -/

/-- A hart's store (R491): translated below machine mode (R26); outside every region it takes the access fault and makes no
access. -/
def State.hartWrite (s : State) (h va n : Nat) (v : Word) : State :=
  match s.translate (s.hart h) va true with
  | .pageFault => s.trap h 15 va
  | .accessFault => s.accessFault h va true
  | .at_ a => if locate a = .outside then s.accessFault h va true else s.stewardWrite a n v

/-- REGISTER_WRITE (R17), of a hart or, with none, of the host. -/
def execRegisterWrite (addr : WriteAt) (size : AccessSize) (v : BitVec 64) (s : State) : Host.Outcome State Fault Refusal :=
  .next (match addr.hart with
    | some h => s.hartWrite h.val addr.addr.toNat (accessBytes size) v
    | none => s.stewardWrite addr.addr.toNat (accessBytes size) v)

/-- REGISTER_ACCESS_TIMEOUT (R493): only a die of the module register space can fail to answer. Below machine mode the address is
translated first (R26). -/
def execRegisterAccessTimeout (hart : Fin 16) (addr : BitVec 48) (write : Bool) (s : State) : Host.Outcome State Fault Refusal :=
  let va := addr.toNat
  .next (match s.translate (s.hart hart.val) va write with
    | .pageFault => s.trap hart.val (if write then 15 else 13) va
    | .accessFault => s.accessFault hart.val va write
    | .at_ a => if regBase ≤ a ∧ a < regBase + 0x1000000000 then s.accessFault hart.val va write else s)

/-- MACHINE_TIMER (R462). -/
def execMachineTimer (hart : Fin 16) (s : State) : Host.Outcome State Fault Refusal :=
  .next (if (s.hart hart.val).cmp.toNat ≤ s.uptime then s.modHart hart.val (fun x => { x with mtip := true }) else s)

/-- STATUS_WINDOW_PUSH (R465). -/
def execStatusWindowPush (n : Fin 67) (s : State) : Host.Outcome State Fault Refusal :=
  .next (s.modSteward (fun w => { w with window := SMap.set w.window n.val (s.mirrored n.val) 0 }))

end Sys2Proof.Machine
end

