-- ==== Sys2Proof/Machine/HostPort.lean ====
section
/-! DEFINITION. The management port (R463, R480-R484): host frames, frames for firmware, the link. -/

namespace Sys2Proof.Machine

/-! ### Host frames (R484) -/

/-- A host frame that is refused: REFUSED, and a record. -/
def State.refuseHost (s : State) (h : FrameHead) (kind arg : Nat) : State := (s.reply h kind 1 arg []).stewardEvent 10 0

/-- The conditions that every host frame needs. -/
def State.hostAdmits (s : State) (h : FrameHead) : Bool :=
  s.flag HOST_CTRL_EN 0 && h.mac == BitVec.ofNat 48 (s.get HOST_CTRL_HOST_MAC 0)

/-- The module is the Summit in POD_TOPO. -/
def State.isSummit (s : State) : Bool := s.get POD_TOPO_SUMMIT 0 == s.device

/-- A host frame of the Summit's. -/
def State.hostFrame (s : State) (h : FrameHead) (kind arg : Nat) (ok : Bool) (f : State → State) : State :=
  if s.hostAdmits h && s.isSummit && ok then f s else s.refuseHost h kind arg

/-- An address of the module register space. -/
def inRegSpace (a : Nat) : Bool := decide (regBase ≤ a ∧ a < regBase + 0x1000000000)

/-- An address of the security block or the port block (R499). -/
def inStewardBlocks (a : Nat) : Bool :=
  decide (regBase + 0xD00010000 ≤ a ∧ a < regBase + 0xD00030000)

/-- The position and number of the cairn that a pod address of this device names (R183). -/
def State.hostCairn (s : State) (a : Word) : Option (Nat × Nat) :=
  if podDevice a = s.device ∧ podSite a < 4 ∧ !reservedAddr a ∧ a.toNat % 8 = 0 then
    match s.windowOf (podSite a) (podOffset a) with
    | .cairn j n => some (s.logicalCore (podSite a) j, n)
    | _ => none
  else none

/-- HOST_READ. -/
def State.hostRead (s : State) (h : FrameHead) (a : Nat) : State :=
  s.hostFrame h 0x20 a (inRegSpace a) (fun s =>
    let r := s.readBytes a 8
    r.2.reply h 0x20 0 a (toLE 8 r.1.toNat))

/-- HOST_WRITE. -/
def State.hostWrite (s : State) (h : FrameHead) (a : Nat) (v : Word) : State :=
  s.hostFrame h 0x21 a (s.flag HOST_CTRL_WRITE_EN 0 && inRegSpace a && !inStewardBlocks a) (fun s =>
    (s.stewardWrite a 8 v).reply h 0x21 0 a [])

/-- HOST_CAIRN_READ. -/
def State.hostCairnRead (s : State) (h : FrameHead) (a : Word) : State :=
  match s.hostCairn a with
  | none => s.refuseHost h 0x22 a.toNat
  | some (k, n) => s.hostFrame h 0x22 a.toNat true (fun s => s.reply h 0x22 0 a.toNat (toLE 8 (s.cairnRecord k n).toNat))

/-- HOST_CAIRN_ADD: performed once for an XID of the last 64 and otherwise answered from the record. -/
def State.hostCairnAdd (s : State) (h : FrameHead) (a : Word) (amount : BitVec 32) : State :=
  match s.hostCairn a with
  | none => s.refuseHost h 0x23 a.toNat
  | some (k, n) => s.hostFrame h 0x23 a.toNat true (fun s =>
    match s.steward.xids.find? (fun x => x.1 == h.xid) with
    | some x => s.modSteward (fun w => { w with sent := w.sent ++ [x.2] })
    | none =>
      let r : Frame := ⟨h.mac, 0xA3, 0, h.xid, a.toNat, []⟩
      (s.stewardAdd k n amount).modSteward (fun w => { w with
        sent := w.sent ++ [r], xids := (w.xids ++ [(h.xid, r)]).drop (w.xids.length + 1 - 64) }))

/-- `n` bytes of the status window from an offset. -/
def State.windowBytes (s : State) (o n : Nat) : List Byte :=
  (List.range n).map (fun i => BitVec.ofNat 8 ((s.windowWord (o + i)).toNat / 256 ^ ((o + i) % 8)))

/-- HOST_STATUS. -/
def State.hostStatus (s : State) (h : FrameHead) (o : Nat) : State :=
  s.hostFrame h 0x24 o true (fun s => s.reply h 0x24 0 o (s.windowBytes o (min 1024 (4096 - o))))

/-- A frame is queued for firmware (R463). -/
def State.queueFrame (s : State) (l : List Byte) : State :=
  (s.modSteward (fun w => { w with queue := w.queue ++ [l] })).interrupt 15

/-- HOST_MAILBOX. -/
def State.hostMailbox (s : State) (h : FrameHead) (data : List Byte) : State :=
  s.hostFrame h 0x25 0 true (fun s => (s.queueFrame data).reply h 0x25 0 0 [])

/-- The outings that the module knows: not FREE and not TORN, or holding a core or a granule here. -/
def State.knownOutings (s : State) : List Nat :=
  let held := (List.range 36).map (fun k => s.get CORE_OUTING_OUTING k)
    ++ ((List.range 8).map (fun m => (List.range 90).map (fun n => s.get GRANULE_OWNER_OWNER (m * 128 + n)))).flatten
  (List.range 256).filter (fun o =>
    let st := s.get OUTING_STATUS_STATE o
    st == 1 || st == 2 || (st == 0 && held.contains o))

/-- The module becomes Summit with an empty state and tears down every outing (R409). -/
def State.becomeSummit (s : State) : State :=
  let s := (s.setRole 1).put POD_TOPO_SUMMIT 0 s.device
  let s := s.modNet (fun n => { n with
    swapping := none, drained := [], joining := none, joins := [], torn := [], snapshot := [], handing := false
    takeover := false, back := false, passes := 0, nextCmd := 0 })
  s.knownOutings.foldl (fun s o =>
    let q := (s.put OUTING_STATUS_STATE o 2).takeCmd
    q.2.ring (.teardown q.1 o)) s

/-- HOST_NAME_SUMMIT. -/
def State.hostNameSummit (s : State) (h : FrameHead) : State :=
  if s.hostAdmits h && s.flag HOST_CTRL_NAME_EN 0 && s.deviceDead (s.get POD_TOPO_SUMMIT 0)
      && s.deviceDead (s.get POD_TOPO_STANDBY 0) then
    ((s.becomeSummit).stewardEvent 11 1).reply h 0x26 0 0 []
  else s.refuseHost h 0x26 0

/-! ### Meanings -/

/-- HOST_READ (R484). -/
def execHostRead (h : FrameHead) (addr : BitVec 64) (s : State) : Host.Outcome State Fault Refusal :=
  .next (s.hostRead h addr.toNat)

/-- HOST_WRITE (R484). -/
def execHostWrite (h : FrameHead) (addr : BitVec 64) (v : BitVec 64) (s : State) : Host.Outcome State Fault Refusal :=
  .next (s.hostWrite h addr.toNat v)

/-- HOST_CAIRN_READ (R484). -/
def execHostCairnRead (h : FrameHead) (addr : BitVec 64) (s : State) : Host.Outcome State Fault Refusal :=
  .next (s.hostCairnRead h addr)

/-- HOST_CAIRN_ADD (R484). -/
def execHostCairnAdd (h : FrameHead) (addr : BitVec 64) (amount : BitVec 32) (s : State) : Host.Outcome State Fault Refusal :=
  .next (s.hostCairnAdd h addr amount)

/-- HOST_STATUS (R484). -/
def execHostStatus (h : FrameHead) (addr : BitVec 64) (s : State) : Host.Outcome State Fault Refusal :=
  .next (s.hostStatus h addr.toNat)

/-- HOST_MAILBOX (R480, R484). -/
def execHostMailbox (h : FrameHead) (data : List Byte) (s : State) : Host.Outcome State Fault Refusal :=
  .next (s.hostMailbox h data)

/-- HOST_NAME_SUMMIT (R484). -/
def execHostNameSummit (h : FrameHead) (s : State) : Host.Outcome State Fault Refusal := .next (s.hostNameSummit h)

/-- FIRMWARE_FRAME (R480). -/
def execFirmwareFrame (frame : List Byte) (s : State) : Host.Outcome State Fault Refusal := .next (s.queueFrame frame)

/-- BAD_FRAME (R480): BOOT_REQ, BOOT_OFFER and BOOT_DATA are never replied to. -/
def execBadFrame (h : FrameHead) (kind : BitVec 8) (s : State) : Host.Outcome State Fault Refusal :=
  .next (if kind = 1 ∨ kind = 2 ∨ kind = 4 then s else s.reply h (kind.toNat % 128) 3 0 [])

/-- MGMT_LINK_STATE_CHANGE (R463, R481): the link goes up or down, with RS-FEC as firmware has set it (DESIGN CHOICE, log entry
67). -/
def execMgmtLinkStateChange (link : LinkState) (s : State) : Host.Outcome State Fault Refusal :=
  let s := s.modSteward (fun w => { w with fec := link.fec })
  .next (if s.steward.linkUp = link.up then s else (s.modSteward (fun w => { w with linkUp := link.up })).interrupt 16)

end Sys2Proof.Machine
end

