-- ==== Sys2Proof/Machine/MatrixCmds.lean ====
section
/-! DEFINITION. The meanings of the M slot (R92-R96, R140-R143) commands: each runs one cycle of its core with its own slot
instruction and the other three words of the bundle. -/

namespace Sys2Proof.Machine

/-- TINIT (R95). -/
def execTinit (c : CoreRef) (o : Others) (td : BitVec 5) (tag : Bool) (s : State) : Host.Outcome State Fault Refusal :=
  .next (s.slotCommand c 2 o (encMI 0x08 td tag) (fun _ _ => effTinit td tag))

/-- MMA (R92). -/
def execMma (c : CoreRef) (o : Others) (td : BitVec 5) (ra rb : BitVec 6) (fa fb : BitVec 5) (spa : Bool)
    (s : State) : Host.Outcome State Fault Refusal :=
  .next (s.slotCommand c 2 o (encMM 0x10 td ra rb fa fb spa) (effMma td ra rb fa fb spa))

/-- TWR (R96). -/
def execTwr (c : CoreRef) (o : Others) (ts : BitVec 5) (ra : BitVec 6) (fd : BitVec 5) (rnd ovf : Bool)
    (s : State) : Host.Outcome State Fault Refusal :=
  .next (s.slotCommand c 2 o (encMW 0x18 ts ra fd rnd ovf) (effTwr ts ra fd rnd ovf))

end Sys2Proof.Machine
end

