-- ==== Sys2Proof/Machine/Ports.lean ====
section
/-! DEFINITION. The I3C target (R463, R485, R486), reset and start-up from the pins (R437, R504, R505), the test port (R506),
and rate matching (R381). -/

namespace Sys2Proof.Machine

/-! ### The I3C target -/

/-- A write that the target discards. -/
def State.refuseI3c (s : State) : State :=
  s.modSteward (fun w => { w with refused := min 255 (w.refused + 1) })

/-- BMC_CAP: 0, or 1,000 to 3,600 W; other values are discarded (R486). -/
def State.writeCap (s : State) (v : Nat) : State :=
  if v = 0 ∨ (1000 ≤ v ∧ v ≤ 3600) then (s.modSteward (fun w => { w with cap := v })).showClock else s

/-- A byte of page 5 but the cap's. -/
def State.writeControl (s : State) (o : Nat) (b : Byte) : State :=
  if o = 2 then s.modSteward (fun w => { w with mask := b })
  else if o = 3 then s.modSteward (fun w => { w with flags := w.flags &&& ~~~b })
  else if o = 4 then s.modSteward (fun w => { w with request := b })
  else s.refuseI3c

/-- A private write's bytes from a place of page 5; the cap's two bytes are judged together. -/
def State.writePage5 (s : State) (o : Nat) (l : List Byte) : State :=
  let l := (List.range l.length).map (fun i => ((o + i) % 256, l.getD i 0))
  let cap (old : List Byte) : Nat := leNat ((List.range 2).map (fun i =>
    match l.find? (fun x => x.1 == i) with
    | some x => x.2
    | none => old.getD i 0))
  let s := if l.any (fun x => decide (x.1 < 2)) then s.writeCap (cap (toLE 2 s.steward.cap)) else s
  (l.filter (fun x => decide (2 ≤ x.1))).foldl (fun s x => s.writeControl x.1 x.2) s

/-- An I3C private write (R485). -/
def State.i3cWrite (s : State) (page offset : Nat) (l : List Byte) : State :=
  let s := s.modSteward (fun w => { w with i3cAt := (page, (offset + l.length) % 256) })
  if page = 5 then (if l.isEmpty then s else (s.writePage5 offset l).interrupt 17)
  else l.foldl (fun s _ => s.refuseI3c) s

/-- Role as page 3 shows it: a module that is handing over, or takes over, by the names in POD_TOPO (DESIGN CHOICE, log entry 67). -/
def State.i3cRole (s : State) : Nat :=
  if s.role ≤ 2 then s.role
  else if s.get POD_TOPO_SUMMIT 0 = s.device then 1
  else if s.get POD_TOPO_STANDBY 0 = s.device then 2
  else 0

/-- The highest working temperature of a die (R454, R359). -/
def State.dieHottest (s : State) (d : Nat) : Int :=
  ((s.allTemps.filter (fun x => x.2 == d)).map (·.1)).foldl max (s.working (d * 64))

/-- The bytes of a page from its first, without what follows the last one listed (table "I3C pages"). -/
def State.i3cPage (s : State) (page : Nat) : List Byte :=
  let w := s.steward
  match page with
  | 0 => toLE 16 w.fuses.serial.toNat ++ toLE 6 w.fuses.mac.toNat ++ [0, 0] ++ toLE 8 (s.word .PKG_CAPS 0).toNat
      ++ s.regImage .DIE_CAPS 14 ++ s.svnBytes
  | 1 => [BitVec.ofNat 8 (bits 55 48 s.thermStatus.toNat)] ++ (List.range 14).map (fun d => BitVec.ofNat 8 (shown8 (s.dieHottest d)))
      ++ [0] ++ (List.range 8).map (fun b => BitVec.ofNat 8 (s.get SENSOR_STATUS_WORKING (16 * 64 + b)))
  | 2 => toLE 8 (s.word .PWR_STATUS 0).toNat ++ toLE 8 (s.word .PWR_COUNTS 0).toNat ++ toLE 2 s.powerLimit
  | 3 => toLE 8 (s.word .BOOT_STATUS 0).toNat ++ toLE 1 (s.get MODULE_PWR_RUNG 0)
      ++ toLE 1 (s.get BOOT_CTRL_READY 0 + 2 * s.i3cRole) ++ toLE 1 s.device
  | 4 => toLE 8 (s.word .LOG_SEQ 0).toNat ++ ((List.range 4).map (fun i => toLE 4 (w.bySev.getD i 0))).flatten
      ++ toLE 2 w.lastFatal ++ ((List.range 4).map (fun i => toLE 2 (w.lastErrors.getD i 0))).flatten
  | 5 => toLE 2 w.cap ++ [w.mask, w.flags, w.request, BitVec.ofNat 8 w.refused]
  | _ => []

/-- What an I3C private read of `n` bytes returns: from PAGE and OFFSET onward, the offset wrapping at 256 (R485). A byte that no page
lists reads zero (DESIGN CHOICE, log entry 67). -/
def State.i3cRead (s : State) (n : Nat) : List Byte :=
  let l := s.i3cPage s.steward.i3cAt.1
  (List.range n).map (fun i => l.getD ((s.steward.i3cAt.2 + i) % 256) 0)

/-- ALERT_N is asserted: an unmasked flag is set (R485); when the module is held after a shutdown or an overvoltage it stays
asserted (R452, R457). -/
def State.alertLow (s : State) : Bool := (s.steward.flags &&& ~~~s.steward.mask) != 0 || s.powerState == 5

/-! ### Reset and start-up -/

/-- RESET_N rises: start-up begins, or the module holds itself until its supply and reference are ready (R504). -/
def State.releaseReset (s : State) (ready : Bool) (vias : List (Nat × Nat × Nat)) : State :=
  let s := { s with
    pins := { s.pins with resetLow := false }, power := { s.power with resetWaits := false } }
  if s.pins.up then s
  else if ready ∧ s.pins.ir ≠ .extest then s.startUp vias
  else { s with pins := { s.pins with held := true } }

/-- The vias found bad at start-up (R345). -/
def viaList (l : List (Fin 8 × Fin 64 × Fin 72)) : List (Nat × Nat × Nat) := l.map (fun v => (v.1.val, v.2.1.val, v.2.2.val))

/-! ### The test access port (R506) -/

/-- What a boundary capture reads: bit n - 1 is land F4.n (R502); the I3C lands are the bus's, lands without a signal are
GND. -/
def State.boundary (s : State) : BitVec 32 × State :=
  let f := s.fresh
  let bit (n : Nat) (b : Bool) : BitVec 32 := if b then 1 <<< (n - 1) else 0
  (bit 3 (!s.pins.resetLow) ||| bit 5 (s.flag BOOT_CTRL_READY 0) ||| bit 7 (!s.alertLow) ||| bit 9 s.pins.pfsave
    ||| bit 17 (f.1.getLsbD 0) ||| bit 19 (f.1.getLsbD 1), f.2)

/-- The test port's instruction changes; leaving EXTEST frees the logic it held in reset. -/
def State.setIr (s : State) (ir : JtagIr) (shift : BitVec 32) : State :=
  { s with pins := { s.pins with ir := ir, shift := shift } }

/-! ### Meanings -/

/-- I3C_DYNAMIC_ADDRESS (R485). -/
def execI3cDynamicAddress (addr : BitVec 7) (s : State) : Host.Outcome State Fault Refusal :=
  .next (s.modSteward (fun w => { w with dynamic := some addr }))

/-- I3C_PRIVATE_WRITE (R485). -/
def execI3cPrivateWrite (page offset : BitVec 8) (data : List Byte) (s : State) : Host.Outcome State Fault Refusal :=
  .next (s.i3cWrite page.toNat offset.toNat data)

/-- I3C_COMMON_COMMAND (R463): whichever code is addressed to the target. -/
def execI3cCommonCommand (_code : BitVec 8) (s : State) : Host.Outcome State Fault Refusal := .next (s.interrupt 17)

/-- RESET_N_ASSERT (R505). -/
def execResetNAssert (s : State) : Host.Outcome State Fault Refusal := .next s.assertReset

/-- RESET_N_RELEASE (R504). -/
def execResetNRelease (ready : Bool) (vias : List (Fin 8 × Fin 64 × Fin 72)) (s : State) : Host.Outcome State Fault Refusal :=
  .next (s.releaseReset ready (viaList vias))

/-- POWER_ON_RESET_RELEASE (R504): not after a shutdown, which waits for RESET_N (R457), nor under EXTEST (R506). -/
def execPowerOnResetRelease (vias : List (Fin 8 × Fin 64 × Fin 72)) (s : State) : Host.Outcome State Fault Refusal :=
  .next (if !s.pins.resetLow ∧ !s.pins.up ∧ s.powerState ≠ 5 ∧ s.pins.ir ≠ .extest then s.startUp (viaList vias) else s)

/-- INRUSH (R437). -/
def execInrush (s : State) : Host.Outcome State Fault Refusal := .next { s with power := { s.power with inrush := true } }

/-- BYPASS (R506): one bit that captures 0 (IEEE 1149.1, log entry 12). -/
def execBypass (s : State) : Host.Outcome State Fault Refusal := .next (s.setIr .bypass 0)

/-- SAMPLE_PRELOAD (R506): captures the lands and loads the update register. -/
def execSamplePreload (load : BitVec 32) (s : State) : Host.Outcome State Fault Refusal :=
  let b := s.boundary
  .next ({ b.2 with pins := { b.2.pins with update := load } }.setIr .samplePreload b.1)

/-- EXTEST (R506): the update register drives the lands, and the logic is in reset as under RESET_N. -/
def execExtest (load : Option (BitVec 32)) (s : State) : Host.Outcome State Fault Refusal :=
  let b := s.boundary
  let s := b.2.selfReset true
  .next ({ s with pins := { s.pins with update := load.getD s.pins.update } }.setIr .extest b.1)

/-- IDCODE (R506). -/
def execIdcode (s : State) : Host.Outcome State Fault Refusal := .next (s.setIr .idcode 0x1B960ABD)

/-- JTAG_TRST_N (R506): the port's reset selects IDCODE (IEEE 1149.1, log entry 12). -/
def execJtagTrstN (s : State) : Host.Outcome State Fault Refusal := .next (s.setIr .idcode 0x1B960ABD)

/-- RATE_MATCH_IDLE (R381): a sender inserts an IDLE flit while any die is in HOLDOVER or INTERNAL. -/
def execRateMatchIdle (p : PortRef) (ridge : Bool) (s : State) : Host.Outcome State Fault Refusal :=
  let ix := p.site.val * 32 + p.port.val
  .next (if s.portExists ix ∧ (List.range 14).any (fun d => s.get REF_STATUS_STATE d == 1 || s.get REF_STATUS_STATE d == 2) then
    s.modEnd ix (if ridge then 1 else 0) (·.putIdle) else s)

end Sys2Proof.Machine
end

