-- ==== Sys2Proof/Machine/ScalarCmds.lean ====
section
/-! DEFINITION. The meanings of the S slot (R130-R135, R148) commands: each runs one cycle of its core with its own slot
instruction and the other three words of the bundle. -/

namespace Sys2Proof.Machine

/-- HALT (R148). -/
def execHalt (c : CoreRef) (o : Others) (s : State) : Host.Outcome State Fault Refusal :=
  .next (s.slotCommand c 0 o (encSR 0x01 0 0 0) (fun _ _ => effHalt))

/-- ADD (R131). -/
def execAdd (c : CoreRef) (o : Others) (rd ra rb : BitVec 6) (s : State) : Host.Outcome State Fault Refusal :=
  .next (s.slotCommand c 0 o (encSR 0x08 rd ra rb) (sBinary (· + ·) 1 rd ra rb))

/-- SUB (R131). -/
def execSub (c : CoreRef) (o : Others) (rd ra rb : BitVec 6) (s : State) : Host.Outcome State Fault Refusal :=
  .next (s.slotCommand c 0 o (encSR 0x09 rd ra rb) (sBinary (· - ·) 1 rd ra rb))

/-- AND (R131). -/
def execAnd (c : CoreRef) (o : Others) (rd ra rb : BitVec 6) (s : State) : Host.Outcome State Fault Refusal :=
  .next (s.slotCommand c 0 o (encSR 0x0A rd ra rb) (sBinary (· &&& ·) 1 rd ra rb))

/-- OR (R131). -/
def execOr (c : CoreRef) (o : Others) (rd ra rb : BitVec 6) (s : State) : Host.Outcome State Fault Refusal :=
  .next (s.slotCommand c 0 o (encSR 0x0B rd ra rb) (sBinary (· ||| ·) 1 rd ra rb))

/-- XOR (R131). -/
def execXor (c : CoreRef) (o : Others) (rd ra rb : BitVec 6) (s : State) : Host.Outcome State Fault Refusal :=
  .next (s.slotCommand c 0 o (encSR 0x0C rd ra rb) (sBinary (· ^^^ ·) 1 rd ra rb))

/-- SLL (R131). -/
def execSll (c : CoreRef) (o : Others) (rd ra rb : BitVec 6) (s : State) : Host.Outcome State Fault Refusal :=
  .next (s.slotCommand c 0 o (encSR 0x0D rd ra rb) (sBinary aluSll 1 rd ra rb))

/-- SRL (R131). -/
def execSrl (c : CoreRef) (o : Others) (rd ra rb : BitVec 6) (s : State) : Host.Outcome State Fault Refusal :=
  .next (s.slotCommand c 0 o (encSR 0x0E rd ra rb) (sBinary aluSrl 1 rd ra rb))

/-- SRA (R131). -/
def execSra (c : CoreRef) (o : Others) (rd ra rb : BitVec 6) (s : State) : Host.Outcome State Fault Refusal :=
  .next (s.slotCommand c 0 o (encSR 0x0F rd ra rb) (sBinary aluSra 1 rd ra rb))

/-- SLT (R131). -/
def execSlt (c : CoreRef) (o : Others) (rd ra rb : BitVec 6) (s : State) : Host.Outcome State Fault Refusal :=
  .next (s.slotCommand c 0 o (encSR 0x10 rd ra rb) (sBinary aluSlt 1 rd ra rb))

/-- SLTU (R131). -/
def execSltu (c : CoreRef) (o : Others) (rd ra rb : BitVec 6) (s : State) : Host.Outcome State Fault Refusal :=
  .next (s.slotCommand c 0 o (encSR 0x11 rd ra rb) (sBinary aluSltu 1 rd ra rb))

/-- SEQ (R131). -/
def execSeq (c : CoreRef) (o : Others) (rd ra rb : BitVec 6) (s : State) : Host.Outcome State Fault Refusal :=
  .next (s.slotCommand c 0 o (encSR 0x12 rd ra rb) (sBinary aluSeq 1 rd ra rb))

/-- MIN (R131). -/
def execMin (c : CoreRef) (o : Others) (rd ra rb : BitVec 6) (s : State) : Host.Outcome State Fault Refusal :=
  .next (s.slotCommand c 0 o (encSR 0x13 rd ra rb) (sBinary aluMin 1 rd ra rb))

/-- MAX (R131). -/
def execMax (c : CoreRef) (o : Others) (rd ra rb : BitVec 6) (s : State) : Host.Outcome State Fault Refusal :=
  .next (s.slotCommand c 0 o (encSR 0x14 rd ra rb) (sBinary aluMax 1 rd ra rb))

/-- MINU (R131). -/
def execMinu (c : CoreRef) (o : Others) (rd ra rb : BitVec 6) (s : State) : Host.Outcome State Fault Refusal :=
  .next (s.slotCommand c 0 o (encSR 0x15 rd ra rb) (sBinary aluMinu 1 rd ra rb))

/-- MAXU (R131). -/
def execMaxu (c : CoreRef) (o : Others) (rd ra rb : BitVec 6) (s : State) : Host.Outcome State Fault Refusal :=
  .next (s.slotCommand c 0 o (encSR 0x16 rd ra rb) (sBinary aluMaxu 1 rd ra rb))

/-- ADDI (R131). -/
def execAddi (c : CoreRef) (o : Others) (rd ra : BitVec 6) (imm : BitVec 32)
    (s : State) : Host.Outcome State Fault Refusal :=
  .next (s.slotCommand c 0 o (encSI 0x18 rd ra imm) (sImm (· + ·) rd ra imm))

/-- SUBI (R131). -/
def execSubi (c : CoreRef) (o : Others) (rd ra : BitVec 6) (imm : BitVec 32)
    (s : State) : Host.Outcome State Fault Refusal :=
  .next (s.slotCommand c 0 o (encSI 0x19 rd ra imm) (sImm (· - ·) rd ra imm))

/-- ANDI (R131). -/
def execAndi (c : CoreRef) (o : Others) (rd ra : BitVec 6) (imm : BitVec 32)
    (s : State) : Host.Outcome State Fault Refusal :=
  .next (s.slotCommand c 0 o (encSI 0x1A rd ra imm) (sImm (· &&& ·) rd ra imm))

/-- ORI (R131). -/
def execOri (c : CoreRef) (o : Others) (rd ra : BitVec 6) (imm : BitVec 32)
    (s : State) : Host.Outcome State Fault Refusal :=
  .next (s.slotCommand c 0 o (encSI 0x1B rd ra imm) (sImm (· ||| ·) rd ra imm))

/-- XORI (R131). -/
def execXori (c : CoreRef) (o : Others) (rd ra : BitVec 6) (imm : BitVec 32)
    (s : State) : Host.Outcome State Fault Refusal :=
  .next (s.slotCommand c 0 o (encSI 0x1C rd ra imm) (sImm (· ^^^ ·) rd ra imm))

/-- SLLI (R131). -/
def execSlli (c : CoreRef) (o : Others) (rd ra : BitVec 6) (imm : BitVec 32)
    (s : State) : Host.Outcome State Fault Refusal :=
  .next (s.slotCommand c 0 o (encSI 0x1D rd ra imm) (sImm aluSll rd ra imm))

/-- SRLI (R131). -/
def execSrli (c : CoreRef) (o : Others) (rd ra : BitVec 6) (imm : BitVec 32)
    (s : State) : Host.Outcome State Fault Refusal :=
  .next (s.slotCommand c 0 o (encSI 0x1E rd ra imm) (sImm aluSrl rd ra imm))

/-- SRAI (R131). -/
def execSrai (c : CoreRef) (o : Others) (rd ra : BitVec 6) (imm : BitVec 32)
    (s : State) : Host.Outcome State Fault Refusal :=
  .next (s.slotCommand c 0 o (encSI 0x1F rd ra imm) (sImm aluSra rd ra imm))

/-- SLTI (R131). -/
def execSlti (c : CoreRef) (o : Others) (rd ra : BitVec 6) (imm : BitVec 32)
    (s : State) : Host.Outcome State Fault Refusal :=
  .next (s.slotCommand c 0 o (encSI 0x20 rd ra imm) (sImm aluSlt rd ra imm))

/-- SLTUI (R131). -/
def execSltui (c : CoreRef) (o : Others) (rd ra : BitVec 6) (imm : BitVec 32)
    (s : State) : Host.Outcome State Fault Refusal :=
  .next (s.slotCommand c 0 o (encSI 0x21 rd ra imm) (sImm aluSltu rd ra imm))

/-- SEQI (R131). -/
def execSeqi (c : CoreRef) (o : Others) (rd ra : BitVec 6) (imm : BitVec 32)
    (s : State) : Host.Outcome State Fault Refusal :=
  .next (s.slotCommand c 0 o (encSI 0x22 rd ra imm) (sImm aluSeq rd ra imm))

/-- MINI (R131). -/
def execMini (c : CoreRef) (o : Others) (rd ra : BitVec 6) (imm : BitVec 32)
    (s : State) : Host.Outcome State Fault Refusal :=
  .next (s.slotCommand c 0 o (encSI 0x23 rd ra imm) (sImm aluMin rd ra imm))

/-- MAXI (R131). -/
def execMaxi (c : CoreRef) (o : Others) (rd ra : BitVec 6) (imm : BitVec 32)
    (s : State) : Host.Outcome State Fault Refusal :=
  .next (s.slotCommand c 0 o (encSI 0x24 rd ra imm) (sImm aluMax rd ra imm))

/-- MINUI (R131). -/
def execMinui (c : CoreRef) (o : Others) (rd ra : BitVec 6) (imm : BitVec 32)
    (s : State) : Host.Outcome State Fault Refusal :=
  .next (s.slotCommand c 0 o (encSI 0x25 rd ra imm) (sImm aluMinu rd ra imm))

/-- MAXUI (R131). -/
def execMaxui (c : CoreRef) (o : Others) (rd ra : BitVec 6) (imm : BitVec 32)
    (s : State) : Host.Outcome State Fault Refusal :=
  .next (s.slotCommand c 0 o (encSI 0x26 rd ra imm) (sImm aluMaxu rd ra imm))

/-- SETHI (R131). -/
def execSethi (c : CoreRef) (o : Others) (rd ra : BitVec 6) (imm : BitVec 32)
    (s : State) : Host.Outcome State Fault Refusal :=
  .next (s.slotCommand c 0 o (encSI 0x27 rd ra imm) (effSethi rd ra imm))

/-- MUL (R131). -/
def execMul (c : CoreRef) (o : Others) (rd ra rb : BitVec 6) (s : State) : Host.Outcome State Fault Refusal :=
  .next (s.slotCommand c 0 o (encSR 0x28 rd ra rb) (sBinary (· * ·) 3 rd ra rb))

/-- MULH (R131). -/
def execMulh (c : CoreRef) (o : Others) (rd ra rb : BitVec 6) (s : State) : Host.Outcome State Fault Refusal :=
  .next (s.slotCommand c 0 o (encSR 0x29 rd ra rb) (sBinary aluMulh 3 rd ra rb))

/-- MULHU (R131). -/
def execMulhu (c : CoreRef) (o : Others) (rd ra rb : BitVec 6) (s : State) : Host.Outcome State Fault Refusal :=
  .next (s.slotCommand c 0 o (encSR 0x2A rd ra rb) (sBinary aluMulhu 3 rd ra rb))

/-- CRR (R134). -/
def execCrr (c : CoreRef) (o : Others) (rd : BitVec 6) (cr : BitVec 12)
    (s : State) : Host.Outcome State Fault Refusal :=
  .next (s.slotCommand c 0 o (encSC 0x30 rd 0 cr) (effCrr rd cr))

/-- CRW (R134). -/
def execCrw (c : CoreRef) (o : Others) (ra : BitVec 6) (cr : BitVec 12)
    (s : State) : Host.Outcome State Fault Refusal :=
  .next (s.slotCommand c 0 o (encSC 0x31 0 ra cr) (effCrw ra cr))

/-- LD (R131). -/
def execLd (c : CoreRef) (o : Others) (rd ra : BitVec 6) (imm : BitVec 32)
    (s : State) : Host.Outcome State Fault Refusal :=
  .next (s.slotCommand c 0 o (encSI 0x38 rd ra imm) (effLd rd ra imm))

/-- ST (R131). -/
def execSt (c : CoreRef) (o : Others) (rd ra : BitVec 6) (imm : BitVec 32)
    (s : State) : Host.Outcome State Fault Refusal :=
  .next (s.slotCommand c 0 o (encSI 0x39 rd ra imm) (effSt rd ra imm))

/-- BEQ (R89). -/
def execBeq (c : CoreRef) (o : Others) (ra rb : BitVec 6) (tgt : BitVec 15)
    (s : State) : Host.Outcome State Fault Refusal :=
  .next (s.slotCommand c 0 o (encSB 0x40 ra rb 0 tgt) (effBranch (· == ·) ra rb tgt))

/-- BNE (R89). -/
def execBne (c : CoreRef) (o : Others) (ra rb : BitVec 6) (tgt : BitVec 15)
    (s : State) : Host.Outcome State Fault Refusal :=
  .next (s.slotCommand c 0 o (encSB 0x41 ra rb 0 tgt) (effBranch (· != ·) ra rb tgt))

/-- BLT (R89). -/
def execBlt (c : CoreRef) (o : Others) (ra rb : BitVec 6) (tgt : BitVec 15)
    (s : State) : Host.Outcome State Fault Refusal :=
  .next (s.slotCommand c 0 o (encSB 0x42 ra rb 0 tgt) (effBranch BitVec.slt ra rb tgt))

/-- BGE (R89). -/
def execBge (c : CoreRef) (o : Others) (ra rb : BitVec 6) (tgt : BitVec 15)
    (s : State) : Host.Outcome State Fault Refusal :=
  .next (s.slotCommand c 0 o (encSB 0x43 ra rb 0 tgt) (effBranch (fun a b => !a.slt b) ra rb tgt))

/-- BLTU (R89). -/
def execBltu (c : CoreRef) (o : Others) (ra rb : BitVec 6) (tgt : BitVec 15)
    (s : State) : Host.Outcome State Fault Refusal :=
  .next (s.slotCommand c 0 o (encSB 0x44 ra rb 0 tgt) (effBranch BitVec.ult ra rb tgt))

/-- BGEU (R89). -/
def execBgeu (c : CoreRef) (o : Others) (ra rb : BitVec 6) (tgt : BitVec 15)
    (s : State) : Host.Outcome State Fault Refusal :=
  .next (s.slotCommand c 0 o (encSB 0x45 ra rb 0 tgt) (effBranch (fun a b => !a.ult b) ra rb tgt))

/-- J (R89). -/
def execJ (c : CoreRef) (o : Others) (tgt : BitVec 15) (s : State) : Host.Outcome State Fault Refusal :=
  .next (s.slotCommand c 0 o (encSB 0x46 0 0 0 tgt) (fun _ _ => effJ tgt))

/-- JAL (R133). -/
def execJal (c : CoreRef) (o : Others) (rd : BitVec 6) (tgt : BitVec 15)
    (s : State) : Host.Outcome State Fault Refusal :=
  .next (s.slotCommand c 0 o (encSB 0x47 0 0 rd tgt) (effJal rd tgt))

/-- JR (R133). -/
def execJr (c : CoreRef) (o : Others) (ra : BitVec 6) (s : State) : Host.Outcome State Fault Refusal :=
  .next (s.slotCommand c 0 o (encSB 0x48 ra 0 0 0) (effJr ra))

/-- JALR (R133). -/
def execJalr (c : CoreRef) (o : Others) (rd ra : BitVec 6) (s : State) : Host.Outcome State Fault Refusal :=
  .next (s.slotCommand c 0 o (encSB 0x49 ra 0 rd 0) (effJalr rd ra))

/-- NOP (R124): an all-zero slot in any position. -/
def execNop (c : CoreRef) (o : Others) (slot : Fin 4) (s : State) : Host.Outcome State Fault Refusal :=
  .next (s.slotCommand c slot.val o 0 (fun _ _ => .nop))

end Sys2Proof.Machine
end

