-- ==== Sys2Proof/Machine/VectorCmds.lean ====
section
/-! DEFINITION. The meanings of the V slot (R136-R139, R159) commands: each runs one cycle of its core with its own slot
instruction and the other three words of the bundle. -/

namespace Sys2Proof.Machine

/-- VADD (R137). -/
def execVadd (c : CoreRef) (o : Others) (vd va vb : BitVec 6) (pr : BitVec 4) (et : BitVec 2)
    (s : State) : Host.Outcome State Fault Refusal :=
  .next (s.slotCommand c 1 o (encVR 0x08 ⟨vd, va, vb, 0, pr, 0, 0, false, false, 0, et⟩) (vInt vAddE vd va vb pr et))

/-- VSUB (R137). -/
def execVsub (c : CoreRef) (o : Others) (vd va vb : BitVec 6) (pr : BitVec 4) (et : BitVec 2)
    (s : State) : Host.Outcome State Fault Refusal :=
  .next (s.slotCommand c 1 o (encVR 0x09 ⟨vd, va, vb, 0, pr, 0, 0, false, false, 0, et⟩) (vInt vSubE vd va vb pr et))

/-- VAND (R137). -/
def execVand (c : CoreRef) (o : Others) (vd va vb : BitVec 6) (pr : BitVec 4) (et : BitVec 2)
    (s : State) : Host.Outcome State Fault Refusal :=
  .next (s.slotCommand c 1 o (encVR 0x0A ⟨vd, va, vb, 0, pr, 0, 0, false, false, 0, et⟩) (vInt vAndE vd va vb pr et))

/-- VOR (R137). -/
def execVor (c : CoreRef) (o : Others) (vd va vb : BitVec 6) (pr : BitVec 4) (et : BitVec 2)
    (s : State) : Host.Outcome State Fault Refusal :=
  .next (s.slotCommand c 1 o (encVR 0x0B ⟨vd, va, vb, 0, pr, 0, 0, false, false, 0, et⟩) (vInt vOrE vd va vb pr et))

/-- VXOR (R137). -/
def execVxor (c : CoreRef) (o : Others) (vd va vb : BitVec 6) (pr : BitVec 4) (et : BitVec 2)
    (s : State) : Host.Outcome State Fault Refusal :=
  .next (s.slotCommand c 1 o (encVR 0x0C ⟨vd, va, vb, 0, pr, 0, 0, false, false, 0, et⟩) (vInt vXorE vd va vb pr et))

/-- VSLL (R137). -/
def execVsll (c : CoreRef) (o : Others) (vd va vb : BitVec 6) (pr : BitVec 4) (et : BitVec 2)
    (s : State) : Host.Outcome State Fault Refusal :=
  .next (s.slotCommand c 1 o (encVR 0x0D ⟨vd, va, vb, 0, pr, 0, 0, false, false, 0, et⟩) (vInt vSllE vd va vb pr et))

/-- VSRL (R137). -/
def execVsrl (c : CoreRef) (o : Others) (vd va vb : BitVec 6) (pr : BitVec 4) (et : BitVec 2)
    (s : State) : Host.Outcome State Fault Refusal :=
  .next (s.slotCommand c 1 o (encVR 0x0E ⟨vd, va, vb, 0, pr, 0, 0, false, false, 0, et⟩) (vInt vSrlE vd va vb pr et))

/-- VSRA (R137). -/
def execVsra (c : CoreRef) (o : Others) (vd va vb : BitVec 6) (pr : BitVec 4) (et : BitVec 2)
    (s : State) : Host.Outcome State Fault Refusal :=
  .next (s.slotCommand c 1 o (encVR 0x0F ⟨vd, va, vb, 0, pr, 0, 0, false, false, 0, et⟩) (vInt vSraE vd va vb pr et))

/-- VMIN (R137). -/
def execVmin (c : CoreRef) (o : Others) (vd va vb : BitVec 6) (pr : BitVec 4) (et : BitVec 2)
    (s : State) : Host.Outcome State Fault Refusal :=
  .next (s.slotCommand c 1 o (encVR 0x10 ⟨vd, va, vb, 0, pr, 0, 0, false, false, 0, et⟩) (vInt vMinE vd va vb pr et))

/-- VMAX (R137). -/
def execVmax (c : CoreRef) (o : Others) (vd va vb : BitVec 6) (pr : BitVec 4) (et : BitVec 2)
    (s : State) : Host.Outcome State Fault Refusal :=
  .next (s.slotCommand c 1 o (encVR 0x11 ⟨vd, va, vb, 0, pr, 0, 0, false, false, 0, et⟩) (vInt vMaxE vd va vb pr et))

/-- VSEL (R137). -/
def execVsel (c : CoreRef) (o : Others) (vd va vb : BitVec 6) (vc pr : BitVec 4)
    (s : State) : Host.Outcome State Fault Refusal :=
  .next (s.slotCommand c 1 o (encVR 0x12 ⟨vd, va, vb, vc.zeroExtend 6, pr, 0, 0, false, false, 0, 0⟩)
    (effVsel vd va vb vc pr))

/-- VMOV (R137). -/
def execVmov (c : CoreRef) (o : Others) (vd va : BitVec 6) (pr : BitVec 4)
    (s : State) : Host.Outcome State Fault Refusal :=
  .next (s.slotCommand c 1 o (encVR 0x13 ⟨vd, va, 0, 0, pr, 0, 0, false, false, 0, 0⟩) (effVmov vd va pr))

/-- VBCAST (R137). -/
def execVbcast (c : CoreRef) (o : Others) (vd va : BitVec 6) (pr : BitVec 4)
    (s : State) : Host.Outcome State Fault Refusal :=
  .next (s.slotCommand c 1 o (encVR 0x14 ⟨vd, va, 0, 0, pr, 0, 0, false, false, 0, 0⟩) (effVbcast vd va pr))

/-- VFADD (R137). -/
def execVfadd (c : CoreRef) (o : Others) (vd va vb : BitVec 6) (pr : BitVec 4) (rnd : Bool)
    (s : State) : Host.Outcome State Fault Refusal :=
  .next (s.slotCommand c 1 o (encVR 0x20 ⟨vd, va, vb, 0, pr, 0, 0, rnd, false, 0, 0⟩) (vFp add32 vd va vb pr rnd))

/-- VFSUB (R137). -/
def execVfsub (c : CoreRef) (o : Others) (vd va vb : BitVec 6) (pr : BitVec 4) (rnd : Bool)
    (s : State) : Host.Outcome State Fault Refusal :=
  .next (s.slotCommand c 1 o (encVR 0x21 ⟨vd, va, vb, 0, pr, 0, 0, rnd, false, 0, 0⟩) (vFp sub32 vd va vb pr rnd))

/-- VFMUL (R137). -/
def execVfmul (c : CoreRef) (o : Others) (vd va vb : BitVec 6) (pr : BitVec 4) (rnd : Bool)
    (s : State) : Host.Outcome State Fault Refusal :=
  .next (s.slotCommand c 1 o (encVR 0x22 ⟨vd, va, vb, 0, pr, 0, 0, rnd, false, 0, 0⟩) (vFp mul32 vd va vb pr rnd))

/-- VFMA (R137). -/
def execVfma (c : CoreRef) (o : Others) (vd va vb vc : BitVec 6) (pr : BitVec 4) (rnd : Bool)
    (s : State) : Host.Outcome State Fault Refusal :=
  .next (s.slotCommand c 1 o (encVR 0x23 ⟨vd, va, vb, vc, pr, 0, 0, rnd, false, 0, 0⟩) (effVfma vd va vb vc pr rnd))

/-- VFMIN (R139). -/
def execVfmin (c : CoreRef) (o : Others) (vd va vb : BitVec 6) (pr : BitVec 4)
    (s : State) : Host.Outcome State Fault Refusal :=
  .next (s.slotCommand c 1 o (encVR 0x24 ⟨vd, va, vb, 0, pr, 0, 0, false, false, 0, 0⟩) (vMinMax false vd va vb pr))

/-- VFMAX (R139). -/
def execVfmax (c : CoreRef) (o : Others) (vd va vb : BitVec 6) (pr : BitVec 4)
    (s : State) : Host.Outcome State Fault Refusal :=
  .next (s.slotCommand c 1 o (encVR 0x25 ⟨vd, va, vb, 0, pr, 0, 0, false, false, 0, 0⟩) (vMinMax true vd va vb pr))

/-- VCMPEQ (R137). -/
def execVcmpeq (c : CoreRef) (o : Others) (pd : BitVec 4) (va vb : BitVec 6)
    (s : State) : Host.Outcome State Fault Refusal :=
  .next (s.slotCommand c 1 o (encVR 0x28 ⟨pd.zeroExtend 6, va, vb, 0, 0, 0, 0, false, false, 0, 0⟩)
    (vCompare cmpEq pd va vb))

/-- VCMPLT (R137). -/
def execVcmplt (c : CoreRef) (o : Others) (pd : BitVec 4) (va vb : BitVec 6)
    (s : State) : Host.Outcome State Fault Refusal :=
  .next (s.slotCommand c 1 o (encVR 0x29 ⟨pd.zeroExtend 6, va, vb, 0, 0, 0, 0, false, false, 0, 0⟩)
    (vCompare cmpLt pd va vb))

/-- VCMPLE (R137). -/
def execVcmple (c : CoreRef) (o : Others) (pd : BitVec 4) (va vb : BitVec 6)
    (s : State) : Host.Outcome State Fault Refusal :=
  .next (s.slotCommand c 1 o (encVR 0x2A ⟨pd.zeroExtend 6, va, vb, 0, 0, 0, 0, false, false, 0, 0⟩)
    (vCompare cmpLe pd va vb))

/-- VFCMPEQ (R137). -/
def execVfcmpeq (c : CoreRef) (o : Others) (pd : BitVec 4) (va vb : BitVec 6)
    (s : State) : Host.Outcome State Fault Refusal :=
  .next (s.slotCommand c 1 o (encVR 0x2B ⟨pd.zeroExtend 6, va, vb, 0, 0, 0, 0, false, false, 0, 0⟩)
    (vCompare fcmpEq pd va vb))

/-- VFCMPLT (R137). -/
def execVfcmplt (c : CoreRef) (o : Others) (pd : BitVec 4) (va vb : BitVec 6)
    (s : State) : Host.Outcome State Fault Refusal :=
  .next (s.slotCommand c 1 o (encVR 0x2C ⟨pd.zeroExtend 6, va, vb, 0, 0, 0, 0, false, false, 0, 0⟩)
    (vCompare fcmpLt pd va vb))

/-- VFCMPLE (R137). -/
def execVfcmple (c : CoreRef) (o : Others) (pd : BitVec 4) (va vb : BitVec 6)
    (s : State) : Host.Outcome State Fault Refusal :=
  .next (s.slotCommand c 1 o (encVR 0x2D ⟨pd.zeroExtend 6, va, vb, 0, 0, 0, 0, false, false, 0, 0⟩)
    (vCompare fcmpLe pd va vb))

/-- PAND (R137). -/
def execPand (c : CoreRef) (o : Others) (pd pa pb : BitVec 4) (s : State) : Host.Outcome State Fault Refusal :=
  .next (s.slotCommand c 1 o (encVR 0x30 ⟨pd.zeroExtend 6, pa.zeroExtend 6, pb.zeroExtend 6, 0, 0, 0, 0, false, false, 0, 0⟩)
    (pLogic (· &&& ·) pd pa pb))

/-- POR (R137). -/
def execPor (c : CoreRef) (o : Others) (pd pa pb : BitVec 4) (s : State) : Host.Outcome State Fault Refusal :=
  .next (s.slotCommand c 1 o (encVR 0x31 ⟨pd.zeroExtend 6, pa.zeroExtend 6, pb.zeroExtend 6, 0, 0, 0, 0, false, false, 0, 0⟩)
    (pLogic (· ||| ·) pd pa pb))

/-- PXOR (R137). -/
def execPxor (c : CoreRef) (o : Others) (pd pa pb : BitVec 4) (s : State) : Host.Outcome State Fault Refusal :=
  .next (s.slotCommand c 1 o (encVR 0x32 ⟨pd.zeroExtend 6, pa.zeroExtend 6, pb.zeroExtend 6, 0, 0, 0, 0, false, false, 0, 0⟩)
    (pLogic (· ^^^ ·) pd pa pb))

/-- PNOT (R137). -/
def execPnot (c : CoreRef) (o : Others) (pd pa : BitVec 4) (s : State) : Host.Outcome State Fault Refusal :=
  .next (s.slotCommand c 1 o (encVR 0x33 ⟨pd.zeroExtend 6, pa.zeroExtend 6, 0, 0, 0, 0, 0, false, false, 0, 0⟩)
    (effPnot pd pa))

/-- VCVT (R138). -/
def execVcvt (c : CoreRef) (o : Others) (vd va vb vc : BitVec 6) (pr : BitVec 4) (fd fs : BitVec 5) (rnd ovf : Bool) (part : BitVec 2)
    (s : State) : Host.Outcome State Fault Refusal :=
  .next (s.slotCommand c 1 o (encVR 0x38 ⟨vd, va, vb, vc, pr, fd, fs, rnd, ovf, part, 0⟩)
    (effVcvt vd va vb vc pr fd fs rnd ovf part))

/-- VEXP2 (R159). -/
def execVexp2 (c : CoreRef) (o : Others) (vd va : BitVec 6) (pr : BitVec 4)
    (s : State) : Host.Outcome State Fault Refusal :=
  .next (s.slotCommand c 1 o (encVR 0x40 ⟨vd, va, 0, 0, pr, 0, 0, false, false, 0, 0⟩) (vExp exp2_32 vd va pr))

/-- VRCP (R159). -/
def execVrcp (c : CoreRef) (o : Others) (vd va : BitVec 6) (pr : BitVec 4)
    (s : State) : Host.Outcome State Fault Refusal :=
  .next (s.slotCommand c 1 o (encVR 0x41 ⟨vd, va, 0, 0, pr, 0, 0, false, false, 0, 0⟩) (vExp rcp32 vd va pr))

/-- VRSQRT (R159). -/
def execVrsqrt (c : CoreRef) (o : Others) (vd va : BitVec 6) (pr : BitVec 4)
    (s : State) : Host.Outcome State Fault Refusal :=
  .next (s.slotCommand c 1 o (encVR 0x42 ⟨vd, va, 0, 0, pr, 0, 0, false, false, 0, 0⟩) (vExp rsqrt32 vd va pr))

/-- VREDSUM (R139). -/
def execVredsum (c : CoreRef) (o : Others) (vd va : BitVec 6) (pr : BitVec 4) (rnd : Bool)
    (s : State) : Host.Outcome State Fault Refusal :=
  .next (s.slotCommand c 1 o (encVR 0x48 ⟨vd, va, 0, 0, pr, 0, 0, rnd, false, 0, 0⟩) (effVredsum vd va pr rnd))

/-- VREDMAX (R139). -/
def execVredmax (c : CoreRef) (o : Others) (vd va : BitVec 6) (pr : BitVec 4)
    (s : State) : Host.Outcome State Fault Refusal :=
  .next (s.slotCommand c 1 o (encVR 0x49 ⟨vd, va, 0, 0, pr, 0, 0, false, false, 0, 0⟩) (effVredmax vd va pr))

/-- VPERM (R137). -/
def execVperm (c : CoreRef) (o : Others) (vd va vb : BitVec 6) (pr : BitVec 4)
    (s : State) : Host.Outcome State Fault Refusal :=
  .next (s.slotCommand c 1 o (encVR 0x4A ⟨vd, va, vb, 0, pr, 0, 0, false, false, 0, 0⟩) (effVperm vd va vb pr))

/-- VTRD (R137). -/
def execVtrd (c : CoreRef) (o : Others) (vd ra : BitVec 6) (ts : BitVec 5) (half : Bool) (row : BitVec 8)
    (s : State) : Host.Outcome State Fault Refusal :=
  .next (s.slotCommand c 1 o (encVT 0x50 vd ra ts half row) (effVtrd vd ra ts half row))

/-- VLD (R137). -/
def execVld (c : CoreRef) (o : Others) (vd ra : BitVec 6) (pr : BitVec 4) (imm : BitVec 18)
    (s : State) : Host.Outcome State Fault Refusal :=
  .next (s.slotCommand c 1 o (encVM 0x58 vd ra pr imm) (effVld vd ra pr imm))

/-- VST (R137). -/
def execVst (c : CoreRef) (o : Others) (vd ra : BitVec 6) (pr : BitVec 4) (imm : BitVec 18)
    (s : State) : Host.Outcome State Fault Refusal :=
  .next (s.slotCommand c 1 o (encVM 0x59 vd ra pr imm) (effVst vd ra pr imm))

end Sys2Proof.Machine
end

