-- ==== Sys2Proof/Machine/XCmds.lean ====
section
/-! DEFINITION. The meanings of the X slot (R144-R147) commands: each runs one cycle of its core with its own slot
instruction and the other three words of the bundle. -/

namespace Sys2Proof.Machine

/-- CADD (R181). -/
def execCadd (c : CoreRef) (o : Others) (rb : BitVec 6) (cn : BitVec 12) (imm : BitVec 16)
    (s : State) : Host.Outcome State Fault Refusal :=
  .next (s.slotCommand c 3 o (encXC 0x08 0 0 rb cn false false imm) (effCadd rb cn imm))

/-- CREAD (R181). -/
def execCread (c : CoreRef) (o : Others) (rd : BitVec 6) (cn : BitVec 12)
    (s : State) : Host.Outcome State Fault Refusal :=
  .next (s.slotCommand c 3 o (encXC 0x09 rd 0 0 cn false false 0) (effCread rd cn))

/-- CWAIT (R186). -/
def execCwait (c : CoreRef) (o : Others) (rb : BitVec 6) (cn : BitVec 12) (cons : Bool) (imm : BitVec 16)
    (s : State) : Host.Outcome State Fault Refusal :=
  .next (s.slotCommand c 3 o (encXC 0x0A 0 0 rb cn cons false imm) (effCwait rb cn cons imm))

/-- CSET (R181). -/
def execCset (c : CoreRef) (o : Others) (rb : BitVec 6) (cn : BitVec 12) (imm : BitVec 16)
    (s : State) : Host.Outcome State Fault Refusal :=
  .next (s.slotCommand c 3 o (encXC 0x0B 0 0 rb cn false false imm) (effCset rb cn imm))

/-- RCADD (R181). -/
def execRcadd (c : CoreRef) (o : Others) (ra rb : BitVec 6) (af : Bool) (imm : BitVec 16)
    (s : State) : Host.Outcome State Fault Refusal :=
  .next (s.slotCommand c 3 o (encXC 0x10 0 ra rb 0 false af imm) (effRcadd ra rb af imm))

/-- PLD (R97). -/
def execPld (c : CoreRef) (o : Others) (rd ra : BitVec 6) (cn : BitVec 12)
    (s : State) : Host.Outcome State Fault Refusal :=
  .next (s.slotCommand c 3 o (encXP 0x18 rd ra 0 cn 0) (effPld rd ra cn))

/-- PLDV (R97). -/
def execPldv (c : CoreRef) (o : Others) (rd ra : BitVec 6) (cn : BitVec 12)
    (s : State) : Host.Outcome State Fault Refusal :=
  .next (s.slotCommand c 3 o (encXP 0x19 rd ra 0 cn 0) (effPldv rd ra cn))

/-- PST (R211). -/
def execPst (c : CoreRef) (o : Others) (rd ra : BitVec 6) (cn : BitVec 12)
    (s : State) : Host.Outcome State Fault Refusal :=
  .next (s.slotCommand c 3 o (encXP 0x1A rd ra 0 cn 0) (effPst rd ra cn))

/-- PSTV (R211). -/
def execPstv (c : CoreRef) (o : Others) (rd ra : BitVec 6) (cn : BitVec 12)
    (s : State) : Host.Outcome State Fault Refusal :=
  .next (s.slotCommand c 3 o (encXP 0x1B rd ra 0 cn 0) (effPstv rd ra cn))

/-- PATOM (R146). -/
def execPatom (c : CoreRef) (o : Others) (rd ra rb : BitVec 6) (cn : BitVec 12) (aop : BitVec 4)
    (s : State) : Host.Outcome State Fault Refusal :=
  .next (s.slotCommand c 3 o (encXP 0x1C rd ra rb cn aop) (effPatom rd ra rb cn aop))

/-- FENCE (R216). -/
def execFence (c : CoreRef) (o : Others) (s : State) : Host.Outcome State Fault Refusal :=
  .next (s.slotCommand c 3 o (encXF 0x20 0) (fun _ _ => effFence .all))

/-- FENCE_W (R216). -/
def execFenceW (c : CoreRef) (o : Others) (s : State) : Host.Outcome State Fault Refusal :=
  .next (s.slotCommand c 3 o (encXF 0x20 1) (fun _ _ => effFence .w))

/-- FENCE_R (R216). -/
def execFenceR (c : CoreRef) (o : Others) (s : State) : Host.Outcome State Fault Refusal :=
  .next (s.slotCommand c 3 o (encXF 0x20 2) (fun _ _ => effFence .r))

/-- COPY (R231). -/
def execCopy (c : CoreRef) (o : Others) (rd ra rb : BitVec 6) (cn : BitVec 12) (ch : BitVec 4) (ck : BitVec 2)
    (s : State) : Host.Outcome State Fault Refusal :=
  .next (s.slotCommand c 3 o (encXK 0x28 rd ra rb cn ch ck) (effCopy rd ra rb cn ch ck))

/-- CABORT (R234). -/
def execCabort (c : CoreRef) (o : Others) (ch : BitVec 4) (s : State) : Host.Outcome State Fault Refusal :=
  .next (s.slotCommand c 3 o (encXK 0x29 0 0 0 0 ch 0) (fun _ _ => effCabort ch))

/-- CSTAT (R232). -/
def execCstat (c : CoreRef) (o : Others) (rd : BitVec 6) (ch : BitVec 4)
    (s : State) : Host.Outcome State Fault Refusal :=
  .next (s.slotCommand c 3 o (encXK 0x2A rd 0 0 0 ch 0) (effCstat rd ch))

/-- MSG (R211). -/
def execMsg (c : CoreRef) (o : Others) (rd ra : BitVec 6) (cn : BitVec 12)
    (s : State) : Host.Outcome State Fault Refusal :=
  .next (s.slotCommand c 3 o (encXP 0x30 rd ra 0 cn 0) (effMsg rd ra cn))

/-- REDC (R241). -/
def execRedc (c : CoreRef) (o : Others) (rd ra : BitVec 6) (s : State) : Host.Outcome State Fault Refusal :=
  .next (s.slotCommand c 3 o (encXP 0x38 rd ra 0 0 0) (effRedc rd ra))

/-- ATTN (R165). -/
def execAttn (c : CoreRef) (o : Others) (ra : BitVec 6) (cn : BitVec 12)
    (s : State) : Host.Outcome State Fault Refusal :=
  .next (s.slotCommand c 3 o (encXP 0x3C 0 ra 0 cn 0) (effAttn ra cn))

/-- MVSV (R145). -/
def execMvsv (c : CoreRef) (o : Others) (rd ra : BitVec 6) (ln : BitVec 7)
    (s : State) : Host.Outcome State Fault Refusal :=
  .next (s.slotCommand c 3 o (encXM 0x40 rd ra ln) (effMvsv rd ra ln))

/-- MVVS (R145). -/
def execMvvs (c : CoreRef) (o : Others) (rd ra : BitVec 6) (ln : BitVec 7)
    (s : State) : Host.Outcome State Fault Refusal :=
  .next (s.slotCommand c 3 o (encXM 0x41 rd ra ln) (effMvvs rd ra ln))

end Sys2Proof.Machine
end

