-- ==== Sys2Proof/Machine/Dispatch.lean ====
section
/-! DEFINITION. exec: one arm per command, each one call of its meaning. -/

namespace Sys2Proof.Machine

/-- What a command does to everything but the queue. -/
def exec (i : Instr) (s : State) : Host.Outcome State Fault Refusal :=
  match i with
  | .registerWrite addr size v => Sys2Proof.Machine.execRegisterWrite addr size v s
  | .registerAccessTimeout hart addr write => Sys2Proof.Machine.execRegisterAccessTimeout hart addr write s
  | .nop c o slot => Sys2Proof.Machine.execNop c o slot s
  | .halt c o => Sys2Proof.Machine.execHalt c o s
  | .add c o rd ra rb => Sys2Proof.Machine.execAdd c o rd ra rb s
  | .sub c o rd ra rb => Sys2Proof.Machine.execSub c o rd ra rb s
  | .and c o rd ra rb => Sys2Proof.Machine.execAnd c o rd ra rb s
  | .or c o rd ra rb => Sys2Proof.Machine.execOr c o rd ra rb s
  | .xor c o rd ra rb => Sys2Proof.Machine.execXor c o rd ra rb s
  | .sll c o rd ra rb => Sys2Proof.Machine.execSll c o rd ra rb s
  | .srl c o rd ra rb => Sys2Proof.Machine.execSrl c o rd ra rb s
  | .sra c o rd ra rb => Sys2Proof.Machine.execSra c o rd ra rb s
  | .slt c o rd ra rb => Sys2Proof.Machine.execSlt c o rd ra rb s
  | .sltu c o rd ra rb => Sys2Proof.Machine.execSltu c o rd ra rb s
  | .seq c o rd ra rb => Sys2Proof.Machine.execSeq c o rd ra rb s
  | .min c o rd ra rb => Sys2Proof.Machine.execMin c o rd ra rb s
  | .max c o rd ra rb => Sys2Proof.Machine.execMax c o rd ra rb s
  | .minu c o rd ra rb => Sys2Proof.Machine.execMinu c o rd ra rb s
  | .maxu c o rd ra rb => Sys2Proof.Machine.execMaxu c o rd ra rb s
  | .addi c o rd ra imm => Sys2Proof.Machine.execAddi c o rd ra imm s
  | .subi c o rd ra imm => Sys2Proof.Machine.execSubi c o rd ra imm s
  | .andi c o rd ra imm => Sys2Proof.Machine.execAndi c o rd ra imm s
  | .ori c o rd ra imm => Sys2Proof.Machine.execOri c o rd ra imm s
  | .xori c o rd ra imm => Sys2Proof.Machine.execXori c o rd ra imm s
  | .slli c o rd ra imm => Sys2Proof.Machine.execSlli c o rd ra imm s
  | .srli c o rd ra imm => Sys2Proof.Machine.execSrli c o rd ra imm s
  | .srai c o rd ra imm => Sys2Proof.Machine.execSrai c o rd ra imm s
  | .slti c o rd ra imm => Sys2Proof.Machine.execSlti c o rd ra imm s
  | .sltui c o rd ra imm => Sys2Proof.Machine.execSltui c o rd ra imm s
  | .seqi c o rd ra imm => Sys2Proof.Machine.execSeqi c o rd ra imm s
  | .mini c o rd ra imm => Sys2Proof.Machine.execMini c o rd ra imm s
  | .maxi c o rd ra imm => Sys2Proof.Machine.execMaxi c o rd ra imm s
  | .minui c o rd ra imm => Sys2Proof.Machine.execMinui c o rd ra imm s
  | .maxui c o rd ra imm => Sys2Proof.Machine.execMaxui c o rd ra imm s
  | .sethi c o rd ra imm => Sys2Proof.Machine.execSethi c o rd ra imm s
  | .mul c o rd ra rb => Sys2Proof.Machine.execMul c o rd ra rb s
  | .mulh c o rd ra rb => Sys2Proof.Machine.execMulh c o rd ra rb s
  | .mulhu c o rd ra rb => Sys2Proof.Machine.execMulhu c o rd ra rb s
  | .crr c o rd cr => Sys2Proof.Machine.execCrr c o rd cr s
  | .crw c o ra cr => Sys2Proof.Machine.execCrw c o ra cr s
  | .ld c o rd ra imm => Sys2Proof.Machine.execLd c o rd ra imm s
  | .st c o rd ra imm => Sys2Proof.Machine.execSt c o rd ra imm s
  | .beq c o ra rb tgt => Sys2Proof.Machine.execBeq c o ra rb tgt s
  | .bne c o ra rb tgt => Sys2Proof.Machine.execBne c o ra rb tgt s
  | .blt c o ra rb tgt => Sys2Proof.Machine.execBlt c o ra rb tgt s
  | .bge c o ra rb tgt => Sys2Proof.Machine.execBge c o ra rb tgt s
  | .bltu c o ra rb tgt => Sys2Proof.Machine.execBltu c o ra rb tgt s
  | .bgeu c o ra rb tgt => Sys2Proof.Machine.execBgeu c o ra rb tgt s
  | .j c o tgt => Sys2Proof.Machine.execJ c o tgt s
  | .jal c o rd tgt => Sys2Proof.Machine.execJal c o rd tgt s
  | .jr c o ra => Sys2Proof.Machine.execJr c o ra s
  | .jalr c o rd ra => Sys2Proof.Machine.execJalr c o rd ra s
  | .vadd c o vd va vb pr et => Sys2Proof.Machine.execVadd c o vd va vb pr et s
  | .vsub c o vd va vb pr et => Sys2Proof.Machine.execVsub c o vd va vb pr et s
  | .vand c o vd va vb pr et => Sys2Proof.Machine.execVand c o vd va vb pr et s
  | .vor c o vd va vb pr et => Sys2Proof.Machine.execVor c o vd va vb pr et s
  | .vxor c o vd va vb pr et => Sys2Proof.Machine.execVxor c o vd va vb pr et s
  | .vsll c o vd va vb pr et => Sys2Proof.Machine.execVsll c o vd va vb pr et s
  | .vsrl c o vd va vb pr et => Sys2Proof.Machine.execVsrl c o vd va vb pr et s
  | .vsra c o vd va vb pr et => Sys2Proof.Machine.execVsra c o vd va vb pr et s
  | .vmin c o vd va vb pr et => Sys2Proof.Machine.execVmin c o vd va vb pr et s
  | .vmax c o vd va vb pr et => Sys2Proof.Machine.execVmax c o vd va vb pr et s
  | .vsel c o vd va vb vc pr => Sys2Proof.Machine.execVsel c o vd va vb vc pr s
  | .vmov c o vd va pr => Sys2Proof.Machine.execVmov c o vd va pr s
  | .vbcast c o vd va pr => Sys2Proof.Machine.execVbcast c o vd va pr s
  | .vfadd c o vd va vb pr rnd => Sys2Proof.Machine.execVfadd c o vd va vb pr rnd s
  | .vfsub c o vd va vb pr rnd => Sys2Proof.Machine.execVfsub c o vd va vb pr rnd s
  | .vfmul c o vd va vb pr rnd => Sys2Proof.Machine.execVfmul c o vd va vb pr rnd s
  | .vfma c o vd va vb vc pr rnd => Sys2Proof.Machine.execVfma c o vd va vb vc pr rnd s
  | .vfmin c o vd va vb pr => Sys2Proof.Machine.execVfmin c o vd va vb pr s
  | .vfmax c o vd va vb pr => Sys2Proof.Machine.execVfmax c o vd va vb pr s
  | .vcmpeq c o pd va vb => Sys2Proof.Machine.execVcmpeq c o pd va vb s
  | .vcmplt c o pd va vb => Sys2Proof.Machine.execVcmplt c o pd va vb s
  | .vcmple c o pd va vb => Sys2Proof.Machine.execVcmple c o pd va vb s
  | .vfcmpeq c o pd va vb => Sys2Proof.Machine.execVfcmpeq c o pd va vb s
  | .vfcmplt c o pd va vb => Sys2Proof.Machine.execVfcmplt c o pd va vb s
  | .vfcmple c o pd va vb => Sys2Proof.Machine.execVfcmple c o pd va vb s
  | .pand c o pd pa pb => Sys2Proof.Machine.execPand c o pd pa pb s
  | .por c o pd pa pb => Sys2Proof.Machine.execPor c o pd pa pb s
  | .pxor c o pd pa pb => Sys2Proof.Machine.execPxor c o pd pa pb s
  | .pnot c o pd pa => Sys2Proof.Machine.execPnot c o pd pa s
  | .vcvt c o vd va vb vc pr fd fs rnd ovf part => Sys2Proof.Machine.execVcvt c o vd va vb vc pr fd fs rnd ovf part s
  | .vexp2 c o vd va pr => Sys2Proof.Machine.execVexp2 c o vd va pr s
  | .vrcp c o vd va pr => Sys2Proof.Machine.execVrcp c o vd va pr s
  | .vrsqrt c o vd va pr => Sys2Proof.Machine.execVrsqrt c o vd va pr s
  | .vredsum c o vd va pr rnd => Sys2Proof.Machine.execVredsum c o vd va pr rnd s
  | .vredmax c o vd va pr => Sys2Proof.Machine.execVredmax c o vd va pr s
  | .vperm c o vd va vb pr => Sys2Proof.Machine.execVperm c o vd va vb pr s
  | .vtrd c o vd ra ts half row => Sys2Proof.Machine.execVtrd c o vd ra ts half row s
  | .vld c o vd ra pr imm => Sys2Proof.Machine.execVld c o vd ra pr imm s
  | .vst c o vd ra pr imm => Sys2Proof.Machine.execVst c o vd ra pr imm s
  | .tinit c o td tag => Sys2Proof.Machine.execTinit c o td tag s
  | .mma c o td ra rb fa fb spa => Sys2Proof.Machine.execMma c o td ra rb fa fb spa s
  | .twr c o ts ra fd rnd ovf => Sys2Proof.Machine.execTwr c o ts ra fd rnd ovf s
  | .cadd c o rb cn imm => Sys2Proof.Machine.execCadd c o rb cn imm s
  | .cread c o rd cn => Sys2Proof.Machine.execCread c o rd cn s
  | .cwait c o rb cn cons imm => Sys2Proof.Machine.execCwait c o rb cn cons imm s
  | .cwaitSatisfied c => Sys2Proof.Machine.execCwaitSatisfied c s
  | .cset c o rb cn imm => Sys2Proof.Machine.execCset c o rb cn imm s
  | .rcadd c o ra rb af imm => Sys2Proof.Machine.execRcadd c o ra rb af imm s
  | .pld c o rd ra cn => Sys2Proof.Machine.execPld c o rd ra cn s
  | .pldv c o rd ra cn => Sys2Proof.Machine.execPldv c o rd ra cn s
  | .pst c o rd ra cn => Sys2Proof.Machine.execPst c o rd ra cn s
  | .pstv c o rd ra cn => Sys2Proof.Machine.execPstv c o rd ra cn s
  | .patom c o rd ra rb cn aop => Sys2Proof.Machine.execPatom c o rd ra rb cn aop s
  | .fence c o => Sys2Proof.Machine.execFence c o s
  | .fenceW c o => Sys2Proof.Machine.execFenceW c o s
  | .fenceR c o => Sys2Proof.Machine.execFenceR c o s
  | .copy c o rd ra rb cn ch ck => Sys2Proof.Machine.execCopy c o rd ra rb cn ch ck s
  | .cabort c o ch => Sys2Proof.Machine.execCabort c o ch s
  | .cstat c o rd ch => Sys2Proof.Machine.execCstat c o rd ch s
  | .msg c o rd ra cn => Sys2Proof.Machine.execMsg c o rd ra cn s
  | .redc c o rd ra => Sys2Proof.Machine.execRedc c o rd ra s
  | .attn c o ra cn => Sys2Proof.Machine.execAttn c o ra cn s
  | .mvsv c o rd ra ln => Sys2Proof.Machine.execMvsv c o rd ra ln s
  | .mvvs c o rd ra ln => Sys2Proof.Machine.execMvvs c o rd ra ln s
  | .podResultReturn c seq => Sys2Proof.Machine.execPodResultReturn c seq s
  | .copyClassBeat c bank => Sys2Proof.Machine.execCopyClassBeat c bank s
  | .frozenBank c => Sys2Proof.Machine.execFrozenBank c s
  | .coreStoreScrub c upsets => Sys2Proof.Machine.execCoreStoreScrub c upsets s
  | .start c startPc clr => Sys2Proof.Machine.execStart c startPc clr s
  | .stop c startPc start clr => Sys2Proof.Machine.execStop c startPc start clr s
  | .clrFault c startPc => Sys2Proof.Machine.execClrFault c startPc s
  | .stopDrainComplete c => Sys2Proof.Machine.execStopDrainComplete c s
  | .haltDrainComplete c => Sys2Proof.Machine.execHaltDrainComplete c s
  | .faultDrainComplete c => Sys2Proof.Machine.execFaultDrainComplete c s
  | .coreMapWrite die v => Sys2Proof.Machine.execCoreMapWrite die v s
  | .srSeedVWrite c v => Sys2Proof.Machine.execSrSeedVWrite c v s
  | .srSeedMWrite c v => Sys2Proof.Machine.execSrSeedMWrite c v s
  | .stewardImemWrite c bundle slot v => Sys2Proof.Machine.execStewardImemWrite c bundle slot v s
  | .stewardStoreAccess c offset size write => Sys2Proof.Machine.execStewardStoreAccess c offset size write s
  | .stewardCairnAdd c cn v => Sys2Proof.Machine.execStewardCairnAdd c cn v s
  | .programLoad c image answers => Sys2Proof.Machine.execProgramLoad c image answers s
  | .l1EntryRequest c grant => Sys2Proof.Machine.execL1EntryRequest c grant s
  | .l1Wake c => Sys2Proof.Machine.execL1Wake c s
  | .cairnCtrlWrite c v => Sys2Proof.Machine.execCairnCtrlWrite c v s
  | .watchdogFire c => Sys2Proof.Machine.execWatchdogFire c s
  | .cairnDumpGo c => Sys2Proof.Machine.execCairnDumpGo c s
  | .cairnDumpComplete c => Sys2Proof.Machine.execCairnDumpComplete c s
  | .load8 r => Sys2Proof.Machine.execLoad8 r s
  | .load512 r => Sys2Proof.Machine.execLoad512 r s
  | .store8 r => Sys2Proof.Machine.execStore8 r s
  | .store512 r => Sys2Proof.Machine.execStore512 r s
  | .atomic r => Sys2Proof.Machine.execAtomic r s
  | .cairnAdd r completion => Sys2Proof.Machine.execCairnAdd r completion s
  | .copyRead r => Sys2Proof.Machine.execCopyRead r s
  | .copyWrite r => Sys2Proof.Machine.execCopyWrite r s
  | .msgArrival r => Sys2Proof.Machine.execMsgArrival r s
  | .podResponse c r => Sys2Proof.Machine.execPodResponse c r s
  | .responseTimerExpiry c seq => Sys2Proof.Machine.execResponseTimerExpiry c seq s
  | .homeHoldTimer site stream seq => Sys2Proof.Machine.execHomeHoldTimer site stream seq s
  | .sendSlotRelease c => Sys2Proof.Machine.execSendSlotRelease c s
  | .combineWindowClose line => Sys2Proof.Machine.execCombineWindowClose line s
  | .copyComplete c ch => Sys2Proof.Machine.execCopyComplete c ch s
  | .granuleOwnerWrite stack n v => Sys2Proof.Machine.execGranuleOwnerWrite stack n v s
  | .podSeqWrite c v => Sys2Proof.Machine.execPodSeqWrite c v s
  | .podCfgWrite v => Sys2Proof.Machine.execPodCfgWrite v s
  | .streamLimitRaise c => Sys2Proof.Machine.execStreamLimitRaise c s
  | .redcContribution r => Sys2Proof.Machine.execRedcContribution r s
  | .reductionRoundDelivery site ctx chunk => Sys2Proof.Machine.execReductionRoundDelivery site ctx chunk s
  | .stageForward stage chunk => Sys2Proof.Machine.execStageForward stage chunk s
  | .reductionArm t v => Sys2Proof.Machine.execReductionArm t v s
  | .reductionDisarm t v => Sys2Proof.Machine.execReductionDisarm t v s
  | .reductionKill t v => Sys2Proof.Machine.execReductionKill t v s
  | .attnSegment r => Sys2Proof.Machine.execAttnSegment r s
  | .segmentPartialComplete stack => Sys2Proof.Machine.execSegmentPartialComplete stack s
  | .partialRecord c ctx p => Sys2Proof.Machine.execPartialRecord c ctx p s
  | .attnCompletion c ctx => Sys2Proof.Machine.execAttnCompletion c ctx s
  | .saddleFlit site plane lambda slot flit => Sys2Proof.Machine.execSaddleFlit site plane lambda slot flit s
  | .saddleReplayRequest src dst => Sys2Proof.Machine.execSaddleReplayRequest src dst s
  | .creditReturn src dst cls more => Sys2Proof.Machine.execCreditReturn src dst cls more s
  | .multicastReserve src cls => Sys2Proof.Machine.execMulticastReserve src cls s
  | .identityFlitDue site plane lambda => Sys2Proof.Machine.execIdentityFlitDue site plane lambda s
  | .idleFlit site plane lambda flit => Sys2Proof.Machine.execIdleFlit site plane lambda flit s
  | .identityTimeout site plane lambda => Sys2Proof.Machine.execIdentityTimeout site plane lambda s
  | .planeStateChange plane st position partner => Sys2Proof.Machine.execPlaneStateChange plane st position partner s
  | .loopTestGo site v => Sys2Proof.Machine.execLoopTestGo site v s
  | .loopTestComplete site lit errors delay => Sys2Proof.Machine.execLoopTestComplete site lit errors delay s
  | .ringSearchComplete r temp crossings => Sys2Proof.Machine.execRingSearchComplete r temp crossings s
  | .ringTrackUpdate r heater temp low => Sys2Proof.Machine.execRingTrackUpdate r heater temp low s
  | .ridgeStartupPhase phase => Sys2Proof.Machine.execRidgeStartupPhase phase s
  | .calRunStart id temp primary check => Sys2Proof.Machine.execCalRunStart id temp primary check s
  | .calRunComplete id temp values => Sys2Proof.Machine.execCalRunComplete id temp values s
  | .calRunTimeout plane => Sys2Proof.Machine.execCalRunTimeout plane s
  | .calGapWrite v => Sys2Proof.Machine.execCalGapWrite v s
  | .calGapExpiry => Sys2Proof.Machine.execCalGapExpiry s
  | .overdue id => Sys2Proof.Machine.execOverdue id s
  | .fadeMeasurement bay fade => Sys2Proof.Machine.execFadeMeasurement bay fade s
  | .handover bay => Sys2Proof.Machine.execHandover bay s
  | .warmupComplete bay => Sys2Proof.Machine.execWarmupComplete bay s
  | .warmupTimeout bay => Sys2Proof.Machine.execWarmupTimeout bay s
  | .overlapEnd bay => Sys2Proof.Machine.execOverlapEnd bay s
  | .laserSelfTest bay clean => Sys2Proof.Machine.execLaserSelfTest bay clean s
  | .lossOfSignal site plane lambda => Sys2Proof.Machine.execLossOfSignal site plane lambda s
  | .laserInsertion bay => Sys2Proof.Machine.execLaserInsertion bay s
  | .laserRemoval bay => Sys2Proof.Machine.execLaserRemoval bay s
  | .latchOpen bay => Sys2Proof.Machine.execLatchOpen bay s
  | .casobDataFlit p ridge flit => Sys2Proof.Machine.execCasobDataFlit p ridge flit s
  | .nak p ridge flit => Sys2Proof.Machine.execNak p ridge flit s
  | .sync p ridge flit => Sys2Proof.Machine.execSync p ridge flit s
  | .remap p ridge flit => Sys2Proof.Machine.execRemap p ridge flit s
  | .retrain p ridge flit => Sys2Proof.Machine.execRetrain p ridge flit s
  | .linkCommandRepeat p ridge => Sys2Proof.Machine.execLinkCommandRepeat p ridge s
  | .casobIdleFlit p ridge flit => Sys2Proof.Machine.execCasobIdleFlit p ridge flit s
  | .forcedIdleFlit p ridge => Sys2Proof.Machine.execForcedIdleFlit p ridge s
  | .trainingComplete p die ridge => Sys2Proof.Machine.execTrainingComplete p die ridge s
  | .trainingTimeout p => Sys2Proof.Machine.execTrainingTimeout p s
  | .portRetryTimer p => Sys2Proof.Machine.execPortRetryTimer p s
  | .casobRetrainWrite v => Sys2Proof.Machine.execCasobRetrainWrite v s
  | .laneFail p ridge lane => Sys2Proof.Machine.execLaneFail p ridge lane s
  | .partialReset site => Sys2Proof.Machine.execPartialReset site s
  | .spurResetRelease => Sys2Proof.Machine.execSpurResetRelease s
  | .spurPowerTrip => Sys2Proof.Machine.execSpurPowerTrip s
  | .spurTrainingDeadline => Sys2Proof.Machine.execSpurTrainingDeadline s
  | .spurOutboundMessage m => Sys2Proof.Machine.execSpurOutboundMessage m s
  | .spurInboundRequest tag opc r => Sys2Proof.Machine.execSpurInboundRequest tag opc r s
  | .firewallRateRelease flits => Sys2Proof.Machine.execFirewallRateRelease flits s
  | .viaTest stack fails => Sys2Proof.Machine.execViaTest stack fails s
  | .retireGo stack v => Sys2Proof.Machine.execRetireGo stack v s
  | .retirementComplete stack => Sys2Proof.Machine.execRetirementComplete stack s
  | .stackScrub stack upsets => Sys2Proof.Machine.execStackScrub stack upsets s
  | .refresh stack layer => Sys2Proof.Machine.execRefresh stack layer s
  | .layerTemperatureCheck stack sensors power base lid => Sys2Proof.Machine.execLayerTemperatureCheck stack sensors power base lid s
  | .stressCorrection stack layer correction => Sys2Proof.Machine.execStressCorrection stack layer correction s
  | .marginSample stack layer margin => Sys2Proof.Machine.execMarginSample stack layer margin s
  | .droopDetect r => Sys2Proof.Machine.execDroopDetect r s
  | .stretchTokenApply r => Sys2Proof.Machine.execStretchTokenApply r s
  | .heldDetectionRetry r fires => Sys2Proof.Machine.execHeldDetectionRetry r fires s
  | .colAlarm writer reader occupancy => Sys2Proof.Machine.execColAlarm writer reader occupancy s
  | .stepCountCheck die count => Sys2Proof.Machine.execStepCountCheck die count s
  | .rootStep => Sys2Proof.Machine.execRootStep s
  | .regionStop r => Sys2Proof.Machine.execRegionStop r s
  | .regionRestart r => Sys2Proof.Machine.execRegionRestart r s
  | .clkPointWrite v => Sys2Proof.Machine.execClkPointWrite v s
  | .marginWarning r margin => Sys2Proof.Machine.execMarginWarning r margin s
  | .marginWarningClear r margin => Sys2Proof.Machine.execMarginWarningClear r margin s
  | .marginLowerStep r => Sys2Proof.Machine.execMarginLowerStep r s
  | .referenceLoss die => Sys2Proof.Machine.execReferenceLoss die s
  | .referenceFallback die => Sys2Proof.Machine.execReferenceFallback die s
  | .referenceRelock die => Sys2Proof.Machine.execReferenceRelock die s
  | .referenceRelockComplete die => Sys2Proof.Machine.execReferenceRelockComplete die s
  | .linkDataFlit link flit => Sys2Proof.Machine.execLinkDataFlit link flit s
  | .linkTrainingComplete link bad device peer => Sys2Proof.Machine.execLinkTrainingComplete link bad device peer s
  | .linkDown link => Sys2Proof.Machine.execLinkDown link s
  | .linkRetryTimer link => Sys2Proof.Machine.execLinkRetryTimer link s
  | .podMessageIngress m => Sys2Proof.Machine.execPodMessageIngress m s
  | .e2eAck device mseq => Sys2Proof.Machine.execE2eAck device mseq s
  | .e2eResendTimeout device mseq => Sys2Proof.Machine.execE2eResendTimeout device mseq s
  | .gatewayForward m arrival => Sys2Proof.Machine.execGatewayForward m arrival s
  | .routeRefused m => Sys2Proof.Machine.execRouteRefused m s
  | .heartbeatSend => Sys2Proof.Machine.execHeartbeatSend s
  | .heartbeatTimeout device => Sys2Proof.Machine.execHeartbeatTimeout device s
  | .deviceDeadDeclaration device => Sys2Proof.Machine.execDeviceDeadDeclaration device s
  | .prepare seq epoch => Sys2Proof.Machine.execPrepare seq epoch s
  | .routeDrainEnd => Sys2Proof.Machine.execRouteDrainEnd s
  | .drained device epoch => Sys2Proof.Machine.execDrained device epoch s
  | .swap seq epoch => Sys2Proof.Machine.execSwap seq epoch s
  | .ringHoldRefresh => Sys2Proof.Machine.execRingHoldRefresh s
  | .ringBypass => Sys2Proof.Machine.execRingBypass s
  | .summitSnapshot image => Sys2Proof.Machine.execSummitSnapshot image s
  | .fabricCommand seq cmd => Sys2Proof.Machine.execFabricCommand seq cmd s
  | .summitHandover why => Sys2Proof.Machine.execSummitHandover why s
  | .standbyStarted => Sys2Proof.Machine.execStandbyStarted s
  | .summitOverlapEnd => Sys2Proof.Machine.execSummitOverlapEnd s
  | .summitSelfTest passes => Sys2Proof.Machine.execSummitSelfTest passes s
  | .join device valid => Sys2Proof.Machine.execJoin device valid s
  | .outingCreate o cores granules share => Sys2Proof.Machine.execOutingCreate o cores granules share s
  | .outingLive o => Sys2Proof.Machine.execOutingLive o s
  | .teardown seq o => Sys2Proof.Machine.execTeardown seq o s
  | .torn o device => Sys2Proof.Machine.execTorn o device s
  | .eventRecordAppend die unit => Sys2Proof.Machine.execEventRecordAppend die unit s
  | .suppressionIntervalEnd => Sys2Proof.Machine.execSuppressionIntervalEnd s
  | .logBaseWrite v => Sys2Proof.Machine.execLogBaseWrite v s
  | .fenceWrite die target => Sys2Proof.Machine.execFenceWrite die target s
  | .substWrite die target fence => Sys2Proof.Machine.execSubstWrite die target fence s
  | .regionPowerFail c => Sys2Proof.Machine.execRegionPowerFail c s
  | .substDrainComplete die => Sys2Proof.Machine.execSubstDrainComplete die s
  | .substCopyComplete die => Sys2Proof.Machine.execSubstCopyComplete die s
  | .triplicateCheck addr copies => Sys2Proof.Machine.execTriplicateCheck addr copies s
  | .vinOvervoltage => Sys2Proof.Machine.execVinOvervoltage s
  | .vinLowBand vin => Sys2Proof.Machine.execVinLowBand vin s
  | .vinLowBandExit vin => Sys2Proof.Machine.execVinLowBandExit vin s
  | .powerWarning => Sys2Proof.Machine.execPowerWarning s
  | .shedComplete => Sys2Proof.Machine.execShedComplete s
  | .warningClear => Sys2Proof.Machine.execWarningClear s
  | .brownOut => Sys2Proof.Machine.execBrownOut s
  | .saving device => Sys2Proof.Machine.execSaving device s
  | .resumed device => Sys2Proof.Machine.execResumed device s
  | .saveComplete vinHeld area => Sys2Proof.Machine.execSaveComplete vinHeld area s
  | .saveWaitTimeout => Sys2Proof.Machine.execSaveWaitTimeout s
  | .restoreStart => Sys2Proof.Machine.execRestoreStart s
  | .restoreComplete => Sys2Proof.Machine.execRestoreComplete s
  | .powerSample vin iin pin avg settled => Sys2Proof.Machine.execPowerSample vin iin pin avg settled s
  | .currentTrip => Sys2Proof.Machine.execCurrentTrip s
  | .sensorCheck die diode ring => Sys2Proof.Machine.execSensorCheck die diode ring s
  | .thermalLowerStep => Sys2Proof.Machine.execThermalLowerStep s
  | .thermalShutdown spur => Sys2Proof.Machine.execThermalShutdown spur s
  | .corePwrL2 c => Sys2Proof.Machine.execCorePwrL2 c s
  | .corePwrL3 c => Sys2Proof.Machine.execCorePwrL3 c s
  | .corePwrL4 c => Sys2Proof.Machine.execCorePwrL4 c s
  | .positionWakeComplete c => Sys2Proof.Machine.execPositionWakeComplete c s
  | .modulePwrRun => Sys2Proof.Machine.execModulePwrRun s
  | .modulePwrL5 => Sys2Proof.Machine.execModulePwrL5 s
  | .modulePwrL6 => Sys2Proof.Machine.execModulePwrL6 s
  | .moduleWake => Sys2Proof.Machine.execModuleWake s
  | .bootRoundStart readErrorA readErrorB => Sys2Proof.Machine.execBootRoundStart readErrorA readErrorB s
  | .bootRetryTimer readErrorA readErrorB => Sys2Proof.Machine.execBootRetryTimer readErrorA readErrorB s
  | .stage2Timeout readErrorB => Sys2Proof.Machine.execStage2Timeout readErrorB s
  | .ready => Sys2Proof.Machine.execReady s
  | .kick => Sys2Proof.Machine.execKick s
  | .stewardWatchdogExpiry => Sys2Proof.Machine.execStewardWatchdogExpiry s
  | .extend => Sys2Proof.Machine.execExtend s
  | .setUserData => Sys2Proof.Machine.execSetUserData s
  | .enrol slot fuses => Sys2Proof.Machine.execEnrol slot fuses s
  | .revoke slot fuses => Sys2Proof.Machine.execRevoke slot fuses s
  | .advance stage2 target fuses => Sys2Proof.Machine.execAdvance stage2 target fuses s
  | .secCommandComplete => Sys2Proof.Machine.execSecCommandComplete s
  | .machineTimer hart => Sys2Proof.Machine.execMachineTimer hart s
  | .bootOffer h length => Sys2Proof.Machine.execBootOffer h length s
  | .bootData h offset data => Sys2Proof.Machine.execBootData h offset data s
  | .bootOfferTimeout => Sys2Proof.Machine.execBootOfferTimeout s
  | .bootDataTimeout => Sys2Proof.Machine.execBootDataTimeout s
  | .attestReq h nonce => Sys2Proof.Machine.execAttestReq h nonce s
  | .attestReply => Sys2Proof.Machine.execAttestReply s
  | .hostRead h addr => Sys2Proof.Machine.execHostRead h addr s
  | .hostWrite h addr v => Sys2Proof.Machine.execHostWrite h addr v s
  | .hostCairnRead h addr => Sys2Proof.Machine.execHostCairnRead h addr s
  | .hostCairnAdd h addr amount => Sys2Proof.Machine.execHostCairnAdd h addr amount s
  | .hostStatus h addr => Sys2Proof.Machine.execHostStatus h addr s
  | .hostMailbox h data => Sys2Proof.Machine.execHostMailbox h data s
  | .hostNameSummit h => Sys2Proof.Machine.execHostNameSummit h s
  | .firmwareFrame frame => Sys2Proof.Machine.execFirmwareFrame frame s
  | .i3cDynamicAddress addr => Sys2Proof.Machine.execI3cDynamicAddress addr s
  | .i3cPrivateWrite page offset data => Sys2Proof.Machine.execI3cPrivateWrite page offset data s
  | .i3cCommonCommand code => Sys2Proof.Machine.execI3cCommonCommand code s
  | .resetNAssert => Sys2Proof.Machine.execResetNAssert s
  | .resetNRelease ready vias => Sys2Proof.Machine.execResetNRelease ready vias s
  | .bypass => Sys2Proof.Machine.execBypass s
  | .samplePreload load => Sys2Proof.Machine.execSamplePreload load s
  | .extest load => Sys2Proof.Machine.execExtest load s
  | .idcode => Sys2Proof.Machine.execIdcode s
  | .inrush => Sys2Proof.Machine.execInrush s
  | .powerOnResetRelease vias => Sys2Proof.Machine.execPowerOnResetRelease vias s
  | .mgmtLinkStateChange link => Sys2Proof.Machine.execMgmtLinkStateChange link s
  | .rateMatchIdle p ridge => Sys2Proof.Machine.execRateMatchIdle p ridge s
  | .statusWindowPush n => Sys2Proof.Machine.execStatusWindowPush n s
  | .supplyMargin die => Sys2Proof.Machine.execSupplyMargin die s
  | .badFrame h kind => Sys2Proof.Machine.execBadFrame h kind s
  | .jtagTrstN => Sys2Proof.Machine.execJtagTrstN s

end Sys2Proof.Machine
end

