-- ==== Sys2Proof/Machine/Tick.lean ====
section
/-! DEFINITION. What a tick does: the step of an empty queue is one cycle of CCLK (DESIGN CHOICE, log entry 2). -/

namespace Sys2Proof.Machine

/-- One cycle of a position's pipelines: it fetches and issues, waits, drains, or serves the banks in a forced freeze; every bank
that no footprint claims serves a beat (R86, R98, R103, R109, R186). -/
def State.cycleCore (s : State) (k : Nat) : State :=
  let c := s.core k
  if c.force ∧ c.issuing then s.freezeBank k
  else if c.force ∧ c.st ≠ .frozenWait then s.forcedCycle k
  else
    let t := if c.issuing then s.fetchCycle k
      else if c.st = .frozenWait then s.waitCycle k
      else s.drainCycles k 1
    if (t.core k).st = .frozenWait then (t.serveFree k 0).modCore k (fun c => { c with force := false })
    else t.serveFree k c.claimedNow

/-- One cycle of a position whose clock runs: its pipelines, its port (R217, R234), and a dump's read, which takes one cycle in
four, of SCLK (R200, log entry 2). -/
def State.tickCore (s : State) (k : Nat) : State :=
  if !s.clocked k then s
  else
    let s := (s.reachAborts k).modCore k (fun c => { c with sentNow := false })
    let s := s.cycleCore k
    let s := if (s.core k).sentNow then s else s.pump k
    if s.ticks % 4 = 0 then s.dumpRecord k else s

/-- One cycle of the module: every position that has left its reset state, in order, then the Ridge and the pod links. -/
def State.tick (s : State) : State :=
  let t := s.ticks
  (((s.cores.map (·.1)).foldl (fun (u : State) k => u.tickCore k) { s with ticks := t + 1 }).ridgeCycle t).linksCycle t

end Sys2Proof.Machine
end

