-- ==== Sys2Proof/Machine/Slots.lean ====
section
/-! DEFINITION. The slot word of each slot command (R122-R147): the core, the slot, the rest of the bundle, and the word that the
manual's encodings give the instruction. -/

namespace Sys2Proof.Machine

/-- Core, slot, other words and slot word of a slot command; none for a command that is no slot instruction. -/
def slotWord (i : Instr) : Option (CoreRef × Nat × Others × Word) :=
  match i with
  | .halt c o => some (c, 0, o, encSR 0x01 0 0 0)
  | .add c o rd ra rb => some (c, 0, o, encSR 0x08 rd ra rb)
  | .sub c o rd ra rb => some (c, 0, o, encSR 0x09 rd ra rb)
  | .and c o rd ra rb => some (c, 0, o, encSR 0x0A rd ra rb)
  | .or c o rd ra rb => some (c, 0, o, encSR 0x0B rd ra rb)
  | .xor c o rd ra rb => some (c, 0, o, encSR 0x0C rd ra rb)
  | .sll c o rd ra rb => some (c, 0, o, encSR 0x0D rd ra rb)
  | .srl c o rd ra rb => some (c, 0, o, encSR 0x0E rd ra rb)
  | .sra c o rd ra rb => some (c, 0, o, encSR 0x0F rd ra rb)
  | .slt c o rd ra rb => some (c, 0, o, encSR 0x10 rd ra rb)
  | .sltu c o rd ra rb => some (c, 0, o, encSR 0x11 rd ra rb)
  | .seq c o rd ra rb => some (c, 0, o, encSR 0x12 rd ra rb)
  | .min c o rd ra rb => some (c, 0, o, encSR 0x13 rd ra rb)
  | .max c o rd ra rb => some (c, 0, o, encSR 0x14 rd ra rb)
  | .minu c o rd ra rb => some (c, 0, o, encSR 0x15 rd ra rb)
  | .maxu c o rd ra rb => some (c, 0, o, encSR 0x16 rd ra rb)
  | .addi c o rd ra imm => some (c, 0, o, encSI 0x18 rd ra imm)
  | .subi c o rd ra imm => some (c, 0, o, encSI 0x19 rd ra imm)
  | .andi c o rd ra imm => some (c, 0, o, encSI 0x1A rd ra imm)
  | .ori c o rd ra imm => some (c, 0, o, encSI 0x1B rd ra imm)
  | .xori c o rd ra imm => some (c, 0, o, encSI 0x1C rd ra imm)
  | .slli c o rd ra imm => some (c, 0, o, encSI 0x1D rd ra imm)
  | .srli c o rd ra imm => some (c, 0, o, encSI 0x1E rd ra imm)
  | .srai c o rd ra imm => some (c, 0, o, encSI 0x1F rd ra imm)
  | .slti c o rd ra imm => some (c, 0, o, encSI 0x20 rd ra imm)
  | .sltui c o rd ra imm => some (c, 0, o, encSI 0x21 rd ra imm)
  | .seqi c o rd ra imm => some (c, 0, o, encSI 0x22 rd ra imm)
  | .mini c o rd ra imm => some (c, 0, o, encSI 0x23 rd ra imm)
  | .maxi c o rd ra imm => some (c, 0, o, encSI 0x24 rd ra imm)
  | .minui c o rd ra imm => some (c, 0, o, encSI 0x25 rd ra imm)
  | .maxui c o rd ra imm => some (c, 0, o, encSI 0x26 rd ra imm)
  | .sethi c o rd ra imm => some (c, 0, o, encSI 0x27 rd ra imm)
  | .mul c o rd ra rb => some (c, 0, o, encSR 0x28 rd ra rb)
  | .mulh c o rd ra rb => some (c, 0, o, encSR 0x29 rd ra rb)
  | .mulhu c o rd ra rb => some (c, 0, o, encSR 0x2A rd ra rb)
  | .crr c o rd cr => some (c, 0, o, encSC 0x30 rd 0 cr)
  | .crw c o ra cr => some (c, 0, o, encSC 0x31 0 ra cr)
  | .ld c o rd ra imm => some (c, 0, o, encSI 0x38 rd ra imm)
  | .st c o rd ra imm => some (c, 0, o, encSI 0x39 rd ra imm)
  | .beq c o ra rb tgt => some (c, 0, o, encSB 0x40 ra rb 0 tgt)
  | .bne c o ra rb tgt => some (c, 0, o, encSB 0x41 ra rb 0 tgt)
  | .blt c o ra rb tgt => some (c, 0, o, encSB 0x42 ra rb 0 tgt)
  | .bge c o ra rb tgt => some (c, 0, o, encSB 0x43 ra rb 0 tgt)
  | .bltu c o ra rb tgt => some (c, 0, o, encSB 0x44 ra rb 0 tgt)
  | .bgeu c o ra rb tgt => some (c, 0, o, encSB 0x45 ra rb 0 tgt)
  | .j c o tgt => some (c, 0, o, encSB 0x46 0 0 0 tgt)
  | .jal c o rd tgt => some (c, 0, o, encSB 0x47 0 0 rd tgt)
  | .jr c o ra => some (c, 0, o, encSB 0x48 ra 0 0 0)
  | .jalr c o rd ra => some (c, 0, o, encSB 0x49 ra 0 rd 0)
  | .nop c o slot => some (c, slot.val, o, 0)
  | .vadd c o vd va vb pr et => some (c, 1, o, encVR 0x08 ⟨vd, va, vb, 0, pr, 0, 0, false, false, 0, et⟩)
  | .vsub c o vd va vb pr et => some (c, 1, o, encVR 0x09 ⟨vd, va, vb, 0, pr, 0, 0, false, false, 0, et⟩)
  | .vand c o vd va vb pr et => some (c, 1, o, encVR 0x0A ⟨vd, va, vb, 0, pr, 0, 0, false, false, 0, et⟩)
  | .vor c o vd va vb pr et => some (c, 1, o, encVR 0x0B ⟨vd, va, vb, 0, pr, 0, 0, false, false, 0, et⟩)
  | .vxor c o vd va vb pr et => some (c, 1, o, encVR 0x0C ⟨vd, va, vb, 0, pr, 0, 0, false, false, 0, et⟩)
  | .vsll c o vd va vb pr et => some (c, 1, o, encVR 0x0D ⟨vd, va, vb, 0, pr, 0, 0, false, false, 0, et⟩)
  | .vsrl c o vd va vb pr et => some (c, 1, o, encVR 0x0E ⟨vd, va, vb, 0, pr, 0, 0, false, false, 0, et⟩)
  | .vsra c o vd va vb pr et => some (c, 1, o, encVR 0x0F ⟨vd, va, vb, 0, pr, 0, 0, false, false, 0, et⟩)
  | .vmin c o vd va vb pr et => some (c, 1, o, encVR 0x10 ⟨vd, va, vb, 0, pr, 0, 0, false, false, 0, et⟩)
  | .vmax c o vd va vb pr et => some (c, 1, o, encVR 0x11 ⟨vd, va, vb, 0, pr, 0, 0, false, false, 0, et⟩)
  | .vsel c o vd va vb vc pr => some (c, 1, o, encVR 0x12 ⟨vd, va, vb, vc.zeroExtend 6, pr, 0, 0, false, false, 0, 0⟩)
  | .vmov c o vd va pr => some (c, 1, o, encVR 0x13 ⟨vd, va, 0, 0, pr, 0, 0, false, false, 0, 0⟩)
  | .vbcast c o vd va pr => some (c, 1, o, encVR 0x14 ⟨vd, va, 0, 0, pr, 0, 0, false, false, 0, 0⟩)
  | .vfadd c o vd va vb pr rnd => some (c, 1, o, encVR 0x20 ⟨vd, va, vb, 0, pr, 0, 0, rnd, false, 0, 0⟩)
  | .vfsub c o vd va vb pr rnd => some (c, 1, o, encVR 0x21 ⟨vd, va, vb, 0, pr, 0, 0, rnd, false, 0, 0⟩)
  | .vfmul c o vd va vb pr rnd => some (c, 1, o, encVR 0x22 ⟨vd, va, vb, 0, pr, 0, 0, rnd, false, 0, 0⟩)
  | .vfma c o vd va vb vc pr rnd => some (c, 1, o, encVR 0x23 ⟨vd, va, vb, vc, pr, 0, 0, rnd, false, 0, 0⟩)
  | .vfmin c o vd va vb pr => some (c, 1, o, encVR 0x24 ⟨vd, va, vb, 0, pr, 0, 0, false, false, 0, 0⟩)
  | .vfmax c o vd va vb pr => some (c, 1, o, encVR 0x25 ⟨vd, va, vb, 0, pr, 0, 0, false, false, 0, 0⟩)
  | .vcmpeq c o pd va vb => some (c, 1, o, encVR 0x28 ⟨pd.zeroExtend 6, va, vb, 0, 0, 0, 0, false, false, 0, 0⟩)
  | .vcmplt c o pd va vb => some (c, 1, o, encVR 0x29 ⟨pd.zeroExtend 6, va, vb, 0, 0, 0, 0, false, false, 0, 0⟩)
  | .vcmple c o pd va vb => some (c, 1, o, encVR 0x2A ⟨pd.zeroExtend 6, va, vb, 0, 0, 0, 0, false, false, 0, 0⟩)
  | .vfcmpeq c o pd va vb => some (c, 1, o, encVR 0x2B ⟨pd.zeroExtend 6, va, vb, 0, 0, 0, 0, false, false, 0, 0⟩)
  | .vfcmplt c o pd va vb => some (c, 1, o, encVR 0x2C ⟨pd.zeroExtend 6, va, vb, 0, 0, 0, 0, false, false, 0, 0⟩)
  | .vfcmple c o pd va vb => some (c, 1, o, encVR 0x2D ⟨pd.zeroExtend 6, va, vb, 0, 0, 0, 0, false, false, 0, 0⟩)
  | .pand c o pd pa pb =>
      some (c, 1, o, encVR 0x30 ⟨pd.zeroExtend 6, pa.zeroExtend 6, pb.zeroExtend 6, 0, 0, 0, 0, false, false, 0, 0⟩)
  | .por c o pd pa pb =>
      some (c, 1, o, encVR 0x31 ⟨pd.zeroExtend 6, pa.zeroExtend 6, pb.zeroExtend 6, 0, 0, 0, 0, false, false, 0, 0⟩)
  | .pxor c o pd pa pb =>
      some (c, 1, o, encVR 0x32 ⟨pd.zeroExtend 6, pa.zeroExtend 6, pb.zeroExtend 6, 0, 0, 0, 0, false, false, 0, 0⟩)
  | .pnot c o pd pa => some (c, 1, o, encVR 0x33 ⟨pd.zeroExtend 6, pa.zeroExtend 6, 0, 0, 0, 0, 0, false, false, 0, 0⟩)
  | .vcvt c o vd va vb vc pr fd fs rnd ovf part =>
      some (c, 1, o, encVR 0x38 ⟨vd, va, vb, vc, pr, fd, fs, rnd, ovf, part, 0⟩)
  | .vexp2 c o vd va pr => some (c, 1, o, encVR 0x40 ⟨vd, va, 0, 0, pr, 0, 0, false, false, 0, 0⟩)
  | .vrcp c o vd va pr => some (c, 1, o, encVR 0x41 ⟨vd, va, 0, 0, pr, 0, 0, false, false, 0, 0⟩)
  | .vrsqrt c o vd va pr => some (c, 1, o, encVR 0x42 ⟨vd, va, 0, 0, pr, 0, 0, false, false, 0, 0⟩)
  | .vredsum c o vd va pr rnd => some (c, 1, o, encVR 0x48 ⟨vd, va, 0, 0, pr, 0, 0, rnd, false, 0, 0⟩)
  | .vredmax c o vd va pr => some (c, 1, o, encVR 0x49 ⟨vd, va, 0, 0, pr, 0, 0, false, false, 0, 0⟩)
  | .vperm c o vd va vb pr => some (c, 1, o, encVR 0x4A ⟨vd, va, vb, 0, pr, 0, 0, false, false, 0, 0⟩)
  | .vtrd c o vd ra ts half row => some (c, 1, o, encVT 0x50 vd ra ts half row)
  | .vld c o vd ra pr imm => some (c, 1, o, encVM 0x58 vd ra pr imm)
  | .vst c o vd ra pr imm => some (c, 1, o, encVM 0x59 vd ra pr imm)
  | .tinit c o td tag => some (c, 2, o, encMI 0x08 td tag)
  | .mma c o td ra rb fa fb spa => some (c, 2, o, encMM 0x10 td ra rb fa fb spa)
  | .twr c o ts ra fd rnd ovf => some (c, 2, o, encMW 0x18 ts ra fd rnd ovf)
  | .cadd c o rb cn imm => some (c, 3, o, encXC 0x08 0 0 rb cn false false imm)
  | .cread c o rd cn => some (c, 3, o, encXC 0x09 rd 0 0 cn false false 0)
  | .cwait c o rb cn cons imm => some (c, 3, o, encXC 0x0A 0 0 rb cn cons false imm)
  | .cset c o rb cn imm => some (c, 3, o, encXC 0x0B 0 0 rb cn false false imm)
  | .rcadd c o ra rb af imm => some (c, 3, o, encXC 0x10 0 ra rb 0 false af imm)
  | .pld c o rd ra cn => some (c, 3, o, encXP 0x18 rd ra 0 cn 0)
  | .pldv c o rd ra cn => some (c, 3, o, encXP 0x19 rd ra 0 cn 0)
  | .pst c o rd ra cn => some (c, 3, o, encXP 0x1A rd ra 0 cn 0)
  | .pstv c o rd ra cn => some (c, 3, o, encXP 0x1B rd ra 0 cn 0)
  | .patom c o rd ra rb cn aop => some (c, 3, o, encXP 0x1C rd ra rb cn aop)
  | .fence c o => some (c, 3, o, encXF 0x20 0)
  | .fenceW c o => some (c, 3, o, encXF 0x20 1)
  | .fenceR c o => some (c, 3, o, encXF 0x20 2)
  | .copy c o rd ra rb cn ch ck => some (c, 3, o, encXK 0x28 rd ra rb cn ch ck)
  | .cabort c o ch => some (c, 3, o, encXK 0x29 0 0 0 0 ch 0)
  | .cstat c o rd ch => some (c, 3, o, encXK 0x2A rd 0 0 0 ch 0)
  | .msg c o rd ra cn => some (c, 3, o, encXP 0x30 rd ra 0 cn 0)
  | .redc c o rd ra => some (c, 3, o, encXP 0x38 rd ra 0 0 0)
  | .attn c o ra cn => some (c, 3, o, encXP 0x3C 0 ra 0 cn 0)
  | .mvsv c o rd ra ln => some (c, 3, o, encXM 0x40 rd ra ln)
  | .mvvs c o rd ra ln => some (c, 3, o, encXM 0x41 rd ra ln)
  | _ => none

/-- The four words of the bundle that a slot command gives its core (R122). -/
def bundleOf (i : Instr) : Option (CoreRef × List Word) := (slotWord i).map (fun x => (x.1, bundleWords x.2.1 x.2.2.1 x.2.2.2))

end Sys2Proof.Machine
end

