-- ==== Sys2Proof/Safety.lean ====
section
/-! DEFINITION. What a safe run is, and what the statements speak of: a bundle that can issue, an operation in a pipeline, what a
cycle leaves unchanged, and the canonical form of every memory. -/

namespace Sys2Proof.Machine

/-! ### Safe runs -/

/-- The step from `s` stops with neither a fault nor a refusal. -/
def State.steps (s : State) : Prop := ∃ t, step s = .next t

/-- `n` steps from `s` all answer a next state. -/
def State.safeFor : Nat → State → Prop
  | 0, _ => True
  | n + 1, s => ∃ t, step s = .next t ∧ State.safeFor n t

/-! ### Issue -/

/-- Position `k` as an issue cycle finds it: RUNNING. -/
def State.cycleStart (s : State) (k : Nat) : State := s.modCore k (fun c => { c with st := .running })

/-- The bundle of four slot words, as position `k` reads it this cycle. -/
def State.bundleAt (s : State) (k : Nat) (ws : List Word) : Bundle := (s.cycleStart k).decodeBundle k ws

/-- The words issue on position `k` this cycle: its clock runs, it issues, no forced freeze is due, a wait is satisfied, no
slot has a fault, and no accumulator read meets a parity error. -/
def State.canIssueWords (s : State) (k : Nat) (ws : List Word) : Bool :=
  s.clocked k && (s.core k).issuing && !(s.core k).force
    && (s.cycleStart k).satisfied k (s.bundleAt k ws)
    && ((s.cycleStart k).bundleFaults k (s.bundleAt k ws)).isEmpty
    && (((s.cycleStart k).core k).badTiles (s.bundleAt k ws)).isEmpty

/-- The bundle of a slot command issues on its core this cycle. -/
def State.canIssue (s : State) (i : Instr) : Bool :=
  match bundleOf i with
  | some (c, ws) => s.canIssueWords (coreNum c) ws
  | none => false

/-- The other slots of a bundle, all NOP. -/
def nopOthers : Others := ⟨0, 0, 0⟩

/-- Nothing in flight comes due in this pipeline cycle. -/
def Core.nothingDue (c : Core) : Bool := c.pipe.all (fun it => it.due != c.cyc)

/-- The bundle address after an issue cycle: a redirect's target when it takes effect, otherwise the next bundle. -/
def Core.nextPc (c : Core) : Nat :=
  match c.redirect with
  | some (due, t) => if due = c.cyc + 1 then t else (c.pc + 1) % 32768
  | none => (c.pc + 1) % 32768

/-- From `c` to `d`, slot `slot` put an operation in flight that acts at the end of the pipeline cycle `late` cycles on. -/
def Core.putsInFlight (c d : Core) (slot late : Nat) (a : Act) : Prop :=
  Item.mk (c.cyc + late) c.cyc c.pc slot a ∈ d.pipe

/-! ### Frames -/

/-- Everything outside core `k` and the registers is unchanged. -/
def State.sameElsewhere (k : Nat) (s t : State) : Prop :=
  (∀ j, j ≠ k → t.core j = s.core j) ∧ t.part = s.part ∧ t.ticks = s.ticks ∧ t.out = s.out ∧ t.windows = s.windows
    ∧ t.stackMem = s.stackMem ∧ t.stackSts = s.stackSts ∧ t.stewardMem = s.stewardMem ∧ t.flash = s.flash
    ∧ t.ridge = s.ridge ∧ t.clk = s.clk ∧ t.power = s.power ∧ t.podnet = s.podnet ∧ t.steward = s.steward
    ∧ t.pins = s.pins ∧ t.events = s.events ∧ t.pending = s.pending

/-- Every register word is unchanged but those listed for position `k`. -/
def State.sameWords (k : Nat) (l : List RegName) (s t : State) : Prop :=
  ∀ r i, ¬ (i = k ∧ r ∈ l) → t.word r i = s.word r i

/-- Every register of the core file is unchanged: scalars but those in `l`, vectors, predicates, tiles. -/
def Core.sameFiles (l : List Nat) (c d : Core) : Prop :=
  (∀ r, r ∉ l → d.readS r = c.readS r) ∧ (∀ r, d.readV r = c.readV r) ∧ (∀ r, d.readP r = c.readP r)
    ∧ (∀ r, d.readT r = c.readT r)

/-- Every memory of the core is unchanged, byte by byte and slot by slot. -/
def Core.sameMemories (c d : Core) : Prop :=
  (∀ a, Mem.byte d.store a = Mem.byte c.store a) ∧ (∀ i, SMap.get d.imem i 0 = SMap.get c.imem i 0)
    ∧ (∀ n, d.cairn n = c.cairn n)

/-- All 64 bits of a register, as one field. -/
def RegName.whole (r : RegName) : Fld := ⟨r, 63, 0, .ro, 0⟩

/-- Every bit of every register word is unchanged but those of the fields listed. -/
def State.sameBits (l : List (Fld × Nat)) (s t : State) : Prop :=
  ∀ r i b, (∀ x ∈ l, ¬ (x.1.reg = r ∧ x.2 = i ∧ x.1.lo ≤ b ∧ b ≤ x.1.hi)) → (t.word r i).getLsbD b = (s.word r i).getLsbD b

/-- Beside the fields listed nothing differs. -/
def State.onlyFields (l : List (Fld × Nat)) (s t : State) : Prop := { t with regs := s.regs } = s ∧ State.sameBits l s t

/-- Beside position `k` and the fields listed nothing differs. -/
def State.onlyCore (k : Nat) (l : List (Fld × Nat)) (s t : State) : Prop :=
  { t with regs := s.regs, cores := s.cores } = s ∧ (∀ j, j ≠ k → t.core j = s.core j) ∧ State.sameBits l s t

/-- From `s` to `t` one event was raised, with this class, code, severity, source and data. -/
def State.recorded (s t : State) (cls code sev die unit outing : Nat) (d0 d1 d2 : Word) : Prop :=
  t.events = s.events ++ [⟨cls, code, sev, die, unit, outing, s.stepCount die, d0, d1, d2, none⟩]

/-! ### Commands on a core and its port -/

/-- The scalar register that an S slot instruction writes in its own cycle. -/
def writtenAtOnce (n : Nat) (w : Word) : List Nat :=
  let op := fld 63 56 w
  if n = 0 ∧ 0x08 ≤ op ∧ op ≤ 0x27 then [fld 55 50 w] else if n = 0 ∧ (op = 0x47 ∨ op = 0x49) then [fld 43 38 w] else []

/-- The register words that an instruction of slot `n` may write in its own cycle. -/
def wordsAtOnce (n : Nat) (w : Word) : List RegName :=
  if n = 0 ∧ fld 63 56 w = 0x31 then [.CYCLE_ISSUE, .FP_FLAGS, .SR_SEED_V, .SR_SEED_M, .SR_STATE]
  else if n = 1 ∨ n = 2 then [.CYCLE_ISSUE, .SR_STATE] else [.CYCLE_ISSUE]

/-- A held bundle that waits and does nothing else: NOPs beside the CWAIT. -/
def State.heldWait (s : State) (k : Nat) (rb : BitVec 6) (cn : BitVec 12) (cons : Bool) (imm : BitVec 16) : Prop :=
  ∃ w c, (s.core k).held = some w ∧ coreNum c = k ∧ s.clocked k = true
    ∧ slotWord (.cwait c nopOthers rb cn cons imm) = some (c, 3, nopOthers, (heldWords w).getD 3 0)
    ∧ (heldWords w).take 3 = [0, 0, 0] ∧ (s.core k).st = .frozenWait ∧ (s.core k).pc < 32767 ∧ (s.core k).nothingDue = true
    ∧ (s.core k).parityOf 0 rb.toNat = 0 ∧ (s.core k).redirect = none ∧ (s.core k).drain = .none ∧ (s.core k).aborts = []

/-- No landing and no gateway of this module awaits the answer to this operation: the answer goes to a port. -/
def State.answersPort (s : State) (r : Req) : Prop :=
  (∀ x ∈ s.unitSends, ¬ (r.stream.toNat = s.device * 64 + x.unit ∧ r.seq = x.seq))
    ∧ ∀ c ∈ s.combined, ¬ (r.stream.toNat = s.device * 64 + c.unit ∧ r.seq.toNat = c.seq)

/-- The operation names this module, whose homes are at work: it does not shed, is not in L5, and the region that serves the
operation runs. -/
def State.atWork (s : State) (op : HomeOp) : Prop :=
  podDevice op.req.address = s.device ∧ s.power.shed = false ∧ s.get MODULE_PWR_RUNG 0 ≠ 5 ∧ s.siteStopped op = false

/-- The operation names offset `o` of the core store of position `k` of this module, whose home serves it at once. -/
def State.servesStore (s : State) (op : HomeOp) (k o : Nat) : Prop :=
  s.atWork op ∧ podSite op.req.address < 4
    ∧ (∃ j, s.windowOf (podSite op.req.address) (podOffset op.req.address) = .store j o ∧ s.logicalCore (podSite op.req.address) j = k
        ∧ s.gate (podSite op.req.address) j = .pass)
    ∧ s.get CORE_PWR_RUNG k < 3 ∧ s.homeRefusal op = none ∧ (beatBanks o op.size).all (fun b => (s.core k).bankFree b) = true
    ∧ s.answersPort op.req

/-- A response that names an operation is on its way, with this status, code and data. -/
def State.answered (t : State) (r : Req) (st : RespStatus) (code : Nat) (data : List Byte) : Prop :=
  ∃ m, Msg.response ⟨r.stream, r.seq, st, BitVec.ofNat 8 code, m, data⟩ ∈ t.out

/-- Beside messages on their way and messages at their receivers nothing differs. -/
def State.onlyMessages (s t : State) : Prop :=
  { t with out := s.out, ridge := { t.ridge with inbox := s.ridge.inbox } } = s

/-- Beside end `e` of Casob port `ix` and the fields listed nothing differs. -/
def State.onlyEnd (ix e : Nat) (l : List (Fld × Nat)) (s t : State) : Prop :=
  { t with regs := s.regs, ridge := { t.ridge with ends := s.ridge.ends } } = s ∧ State.sameBits l s t
    ∧ ∀ j d, d < 2 → (j ≠ ix ∨ d ≠ e) → t.portEnd j d = s.portEnd j d

/-- Beside the fields listed, nothing differs but that one event was raised, with what its alert did. -/
def State.onlyRecord (l : List (Fld × Nat)) (s t : State) (cls code sev die unit outing : Nat) (d0 d1 d2 : Word) : Prop :=
  s.recorded t cls code sev die unit outing d0 d1 d2 ∧ { t with regs := s.regs, events := s.events, steward := s.steward } = s
    ∧ State.sameBits l s t

/-- The fields of CLK_STATUS that follow the clocks of the four compute dies. -/
def clockFields : List (Fld × Nat) :=
  (List.range 4).flatMap (fun d => [(CLK_STATUS_POINT, d), (CLK_STATUS_MOVING, d), (CLK_STATUS_HELD_MARGIN, d), (CLK_STATUS_HELD_REF, d),
    (CLK_STATUS_HELD_LIMIT, d)])

/-- One root step of the four compute dies, to `root`. -/
def State.stepsTo (s t : State) (root : Nat) : Prop :=
  ∀ d < 4, t.get CLK_STATUS_ROOT d = root ∧ t.get CLK_STATUS_STEPS d = (s.get CLK_STATUS_STEPS d + 1) % 2 ^ 32
    ∧ t.get CLK_STATUS_DIV d = s.get CLK_STATUS_DIV d

/-- Beside pod link `x` and the fields listed nothing differs. -/
def State.onlyLink (x : Nat) (l : List (Fld × Nat)) (s t : State) : Prop :=
  { t with regs := s.regs, podnet := { t.podnet with links := s.podnet.links } } = s ∧ State.sameBits l s t
    ∧ ∀ y, y ≠ x → t.link y = s.link y

/-! ### The canonical form -/

/-- Every memory of the module is in its canonical form. -/
def State.memoriesWf (s : State) : Prop :=
  (∀ k, Mem.wf (s.core k).store = true) ∧ (∀ m, Mem.wf (s.stack m) = true) ∧ Mem.wf s.stewardMem = true
    ∧ Mem.wf s.flash = true ∧ Mem.wf s.early = true

/-- The command at the front of the queue is a slot instruction, or the queue is empty. -/
def State.runsCore (s : State) : Prop :=
  match s.pending with
  | [] => True
  | i :: _ => (slotWord i).isSome = true

end Sys2Proof.Machine
end

