-- ==== Sys2Proof/Certificates/Slice0/Obligations.lean ====
section
/-! DEFINITION. The obligations: what the spec's rules say of the commands, stated of exec and step. -/

open Sys2Proof Sys2Proof.Machine

/-! ### The queue and reset -/

/-- A step of a queue that is not empty is exec of its front command on the state with the rest of the queue; and every command, in
every state, answers a next state: none faults and none is refused. -/
def Obligations.StepRunsTheFrontCommand : Prop :=
  (∀ (c : Instr) (rest : List Instr) (s : State), s.pending = c :: rest → step s = exec c { s with pending := rest })
    ∧ ∀ (c : Instr) (s : State), ∃ t, exec c s = .next t

/-- A step of an empty queue is one cycle of the module (DESIGN CHOICE, log entry 2): the cycle count goes up by one, every position
in turn has its cycle, with its port's, and then the Ridge and the pod links have theirs. -/
def Obligations.IdleStepIsOneCycle : Prop :=
  ∀ s : State, s.pending = [] →
    step s = .next ((((s.cores.map (fun (x : Nat × Core) => x.1)).foldl (fun (u : State) k => u.tickCore k) { s with ticks := s.ticks + 1 }).ridgeCycle
      s.ticks).linksCycle s.ticks)

/-- Right after reset every memory is in its canonical form and no command waits.
The model's choices in it: log entry 1. -/
def Obligations.ResetIsCanonical : Prop := State.reset.memoriesWf ∧ State.reset.pending = []

/-- The reset values of the table "Architectural state of one core" (R83), of every position; and s0 and p0 whatever has been
written to them. Instruction memory and core store are not cleared; that they list nothing here is DESIGN CHOICE, log entry
1. -/
def Obligations.CoreFileAtReset : Prop :=
  (∀ k, let c := State.reset.core k
    (∀ r, c.readS r = 0) ∧ (∀ r, c.readV r = 0) ∧ (∀ r, c.readP r = BitVec.allOnes 128) ∧ (∀ r, c.readT r = Tile.zero)
      ∧ c.pc = 0 ∧ c.st = .stopped ∧ (∀ n, c.cairn n = Cairn.zero) ∧ (∀ n, c.copy n = Copy.idle)
      ∧ State.reset.word .FP_FLAGS k = 0 ∧ State.reset.word .CYCLE_ISSUE k = 0 ∧ State.reset.word .CYCLE_FROZEN k = 0)
  ∧ (∀ (c : Core) (v : Word), (c.setS 0 v).readS 0 = 0)
  ∧ (∀ (c : Core) (v : BitVec 128), (c.setP 0 v).readP 0 = BitVec.allOnes 128)

/-! ### Slot words -/

/-- Every slot command does what its slot word, built from the manual's encodings, decodes to: its cycle is the cycle of the
bundle that holds that word. No operand at any value is dropped or misread between the two.
The model's choices in it: log entry 4. -/
def Obligations.SlotWordsDecodeToTheirInstruction : Prop :=
  ∀ (i : Instr) (c : CoreRef) (ws : List Word), bundleOf i = some (c, ws) →
    ∀ s : State, exec i s = .next (s.runBundle (coreNum c) (fun t => t.decodeBundle (coreNum c) ws))

/-- The words of the manual's worked bundle (chapter "Otash Instruction Encoding and Program Image", "A bundle, bit by bit"),
and its ill-formed CADD. -/
def Obligations.WorkedBundleWords : Prop :=
  ∀ (c : CoreRef) (o : Others),
    slotWord (.add c o 3 1 2) = some (c, 0, o, 0x080C108000000000)
    ∧ slotWord (.mma c o 4 8 10 0x0A 0x0A false) = some (c, 2, o, 0x1021052940000000)
    ∧ slotWord (.copy c o 20 21 22 5 2 0) = some (c, 3, o, 0x2851558014800000)
    ∧ slotWord (.nop c o 1) = some (c, 1, o, 0)
    ∧ ∀ (s : State) (k : Nat), effX 0x0804000014000000 s k = .bad

/-- A slot whose 64 bits are all zero is NOP in every slot: no fault, no register read or written, no bank, no effect. With
OP = 0x00 and any other bit set the slot is an illegal encoding. -/
def Obligations.ZeroSlotIsNop : Prop :=
  ∀ (s : State) (k : Nat),
    (∀ eff ∈ [effS, effV, effM, effX], eff 0 s k = .nop)
    ∧ (∀ w : Word, w ≠ 0 → fld 63 56 w = 0 → ∀ eff ∈ [effS, effV, effM, effX], (eff w s k).illegal = true)
    ∧ SlotEff.nop.items = [] ∧ SlotEff.nop.dests = [] ∧ SlotEff.nop.banks = [] ∧ SlotEff.nop.reads = []

/-! ### The S slot -/

/-- The scalar operations of latency 1 (R131, R132, R83): the result is in s[RD] when the next bundle issues, s0 staying 0;
PC and CYCLE_ISSUE move on.
The model's choices in it: log entry 4. -/
def Obligations.ScalarResults : Prop :=
  ∀ (c : CoreRef) (o : Others) (rd ra rb : BitVec 6) (imm : BitVec 32) (s : State),
    let k := coreNum c
    let x := (s.core k).readS ra.toNat
    let y := (s.core k).readS rb.toNat
    let z : Word := imm.signExtend 64
    let truth (b : Bool) : Word := if b then 1 else 0
    ∀ p ∈ ([(.add c o rd ra rb, x + y), (.sub c o rd ra rb, x - y), (.and c o rd ra rb, x &&& y),
        (.or c o rd ra rb, x ||| y), (.xor c o rd ra rb, x ^^^ y), (.sll c o rd ra rb, x <<< (y.toNat % 64)),
        (.srl c o rd ra rb, x >>> (y.toNat % 64)), (.sra c o rd ra rb, x.sshiftRight (y.toNat % 64)),
        (.slt c o rd ra rb, truth (decide (x.toInt < y.toInt))), (.sltu c o rd ra rb, truth (decide (x.toNat < y.toNat))),
        (.seq c o rd ra rb, truth (decide (x = y))),
        (.min c o rd ra rb, if x.toInt < y.toInt then x else y), (.max c o rd ra rb, if x.toInt < y.toInt then y else x),
        (.minu c o rd ra rb, if x.toNat < y.toNat then x else y), (.maxu c o rd ra rb, if x.toNat < y.toNat then y else x),
        (.addi c o rd ra imm, x + z), (.subi c o rd ra imm, x - z), (.andi c o rd ra imm, x &&& z),
        (.ori c o rd ra imm, x ||| z), (.xori c o rd ra imm, x ^^^ z), (.slli c o rd ra imm, x <<< (z.toNat % 64)),
        (.srli c o rd ra imm, x >>> (z.toNat % 64)), (.srai c o rd ra imm, x.sshiftRight (z.toNat % 64)),
        (.slti c o rd ra imm, truth (decide (x.toInt < z.toInt))),
        (.sltui c o rd ra imm, truth (decide (x.toNat < z.toNat))), (.seqi c o rd ra imm, truth (decide (x = z))),
        (.mini c o rd ra imm, if x.toInt < z.toInt then x else z), (.maxi c o rd ra imm, if x.toInt < z.toInt then z else x),
        (.minui c o rd ra imm, if x.toNat < z.toNat then x else z),
        (.maxui c o rd ra imm, if x.toNat < z.toNat then z else x),
        (.sethi c o rd ra imm, imm ++ x.extractLsb' 0 32)] : List (Instr × Word)),
      s.canIssue p.1 = true →
        ∃ t, exec p.1 s = .next t ∧ (t.core k).readS rd.toNat = (if rd = 0 then 0 else p.2)
          ∧ (t.core k).pc = (s.core k).nextPc ∧ t.word .CYCLE_ISSUE k = s.word .CYCLE_ISSUE k + 1

/-- Operations of longer latency (R91, R101, R131, R132, R134, R137): at issue the result is fixed, and it is in flight to land so many
cycles on. A multiply of latency 3 lands at the end of the second cycle after its issue, a control-register move after the first; CRR reads
as the registers stand at issue. The address of a load or a store is the sum modulo 2^64, taken at issue; a load reads its bank in the
second cycle after issue, a store writes in the third. The data and predicate of a store are those of its issue.
The model's choices in it: log entry 4. -/
def Obligations.LongOperationsInFlight : Prop :=
  ∀ (c : CoreRef) (o : Others) (rd ra rb : BitVec 6) (cr : BitVec 12) (pr : BitVec 4) (imm : BitVec 32) (im : BitVec 18) (s : State),
    let k := coreNum c
    let h := s.core k
    let x := h.readS ra.toNat
    let y := h.readS rb.toNat
    let a := (x + imm.signExtend 64).toNat
    let av := (x + im.signExtend 64 * 256).toNat
    (∀ p ∈ ([(.mul c o rd ra rb, x * y), (.mulh c o rd ra rb, BitVec.ofInt 64 (x.toInt * y.toInt / 2 ^ 64)),
        (.mulhu c o rd ra rb, BitVec.ofNat 64 (x.toNat * y.toNat / 2 ^ 64))] : List (Instr × Word)),
      s.canIssue p.1 = true →
        ∃ t, exec p.1 s = .next t ∧ h.putsInFlight (t.core k) 0 2 (.s rd.toNat p.2) ∧ (t.core k).pc = h.nextPc)
    ∧ (∀ v, crRead (s.cycleStart k) k cr.toNat = some v → s.canIssue (.crr c o rd cr) = true →
        ∃ t, exec (.crr c o rd cr) s = .next t ∧ h.putsInFlight (t.core k) 0 1 (.s rd.toNat v) ∧ (t.core k).pc = h.nextPc)
    ∧ ∀ p ∈ ([(.ld c o rd ra imm, 0, 2, .readS rd.toNat a),
        (.st c o rd ra imm, 0, 3, .write a ((toLE 8 (h.readS rd.toNat).toNat).map (fun b => (b, true)))),
        (.vld c o rd ra pr im, 1, 2, .readV rd.toNat av (h.readP pr.toNat)),
        (.vst c o rd ra pr im, 1, 3, .write av (((List.range 512).zip (toLE 512 (h.readV rd.toNat).toNat)).map
          (fun x => (x.2, (h.readP pr.toNat).getLsbD (x.1 / 4)))))] : List (Instr × Nat × Nat × Act)),
      s.canIssue p.1 = true →
        ∃ t, exec p.1 s = .next t ∧ h.putsInFlight (t.core k) p.2.1 p.2.2.1 p.2.2.2 ∧ (t.core k).pc = h.nextPc

/-- Branches and jumps (R89, R131, R133): a redirect takes effect three cycles after issue, so two delay bundles issue; JAL and
JALR have PC + 3 in s[RD]. A fault of the same cycle wins over the redirect (R115). HALT ends issue
with PC at its bundle, and NOP beside NOPs only moves PC (R124, R148).
The model's choices in it: log entry 4. -/
def Obligations.BranchesHaltAndNop : Prop :=
  ∀ (c : CoreRef) (o : Others) (n : Fin 4) (rd ra rb : BitVec 6) (tgt : BitVec 15) (s : State),
    let k := coreNum c
    let x := (s.core k).readS ra.toNat
    let y := (s.core k).readS rb.toNat
    let low := x.toNat % 32768
    let link : Word := BitVec.ofNat 64 ((s.core k).pc + 3)
    (∀ p ∈ ([(.beq c o ra rb tgt, decide (x = y), tgt.toNat, none), (.bne c o ra rb tgt, decide (x ≠ y), tgt.toNat, none),
        (.blt c o ra rb tgt, decide (x.toInt < y.toInt), tgt.toNat, none),
        (.bge c o ra rb tgt, decide (y.toInt ≤ x.toInt), tgt.toNat, none),
        (.bltu c o ra rb tgt, decide (x.toNat < y.toNat), tgt.toNat, none),
        (.bgeu c o ra rb tgt, decide (y.toNat ≤ x.toNat), tgt.toNat, none),
        (.j c o tgt, true, tgt.toNat, none), (.jal c o rd tgt, true, tgt.toNat, some rd),
        (.jr c o ra, true, low, none), (.jalr c o rd ra, true, low, some rd)]
        : List (Instr × Bool × Nat × Option (BitVec 6))),
      s.canIssue p.1 = true →
        ∃ t, exec p.1 s = .next t ∧ (t.core k).pc = ((s.core k).pc + 1) % 32768
          ∧ (∀ r, p.2.2.2 = some r → (t.core k).readS r.toNat = if r = 0 then 0 else link)
          ∧ ((t.core k).st = .running →
              (t.core k).redirect = if p.2.1 then some ((s.core k).cyc + 3, p.2.2.1) else none))
    ∧ (s.canIssue (.halt c o) = true →
      ∃ t, exec (.halt c o) s = .next t ∧
        ((t.core k).st = .running → (t.core k).drain = .halt ∧ (t.core k).pc = (s.core k).pc ∧ (t.core k).redirect = none))
    ∧ (s.canIssue (.nop c o n) = true →
      ∃ t, exec (.nop c o n) s = .next t ∧ (o = nopOthers → (t.core k).pc = (s.core k).nextPc
        ∧ t.word .CYCLE_ISSUE k = s.word .CYCLE_ISSUE k + 1))

/-- CRW (R66, R134): a one in bits [7:0] clears that sticky flag unless a flag landed in the same cycle (R20); a seed is kept and
loads its generator, zero loading the fixed start.
The model's choices in it: log entry 4. -/
def Obligations.ControlWritesLand : Prop :=
  ∀ (c : CoreRef) (o : Others) (ra : BitVec 6) (cr : BitVec 12) (s : State),
    let k := coreNum c
    let v := (s.core k).readS ra.toNat
    let seed := v.toNat % 2 ^ 32
    s.canIssue (.crw c o ra cr) = true → (s.core k).nothingDue = true → (s.core k).landed = 0 →
    o = nopOthers →
      ∃ t, exec (.crw c o ra cr) s = .next t ∧ (cr = 1 ∨ cr = 2 ∨ cr = 3)
        ∧ (cr = 1 → t.word .FP_FLAGS k = s.word .FP_FLAGS k &&& ~~~(v &&& 0xFF))
        ∧ (cr = 2 → t.get SR_SEED_V_SEED k = seed ∧ t.get SR_STATE_STATE_V k = (if seed = 0 then 0x9E3779B9 else seed))
        ∧ (cr = 3 → t.get SR_SEED_M_SEED k = seed ∧ t.get SR_STATE_STATE_M k = (if seed = 0 then 0x9E3779B9 else seed))

/-! ### The V slot -/

/-- Integer vector operations on INT32 lanes (R137, R60, R84): the vector in flight to land at the end of the next cycle, under
predicate PR, holds in each governed lane the operation on the lanes of VA and VB; sums and differences saturate. On INT8
elements the same holds of each byte of a governed lane, saturating to 8 bits.
The model's choices in it: log entry 4. -/
def Obligations.VectorIntegerResults : Prop :=
  ∀ (c : CoreRef) (o : Others) (vd va vb : BitVec 6) (pr : BitVec 4) (s : State),
    let k := coreNum c
    let h := s.core k
    (let clamp (n : Int) : Nat := if n < -2147483648 then 0x80000000 else if 2147483647 < n then 0x7FFFFFFF
        else (n % 4294967296).toNat
      let sg (n : Nat) : Int := if n < 2 ^ 31 then n else (n : Int) - 2 ^ 32
      ∀ p ∈ ([(.vadd c o vd va vb pr 0, fun a b => clamp (sg a + sg b)), (.vsub c o vd va vb pr 0, fun a b => clamp (sg a - sg b)),
          (.vand c o vd va vb pr 0, fun a b => a &&& b), (.vor c o vd va vb pr 0, fun a b => a ||| b),
          (.vxor c o vd va vb pr 0, fun a b => a ^^^ b), (.vsll c o vd va vb pr 0, fun a b => a * 2 ^ (b % 32) % 2 ^ 32),
          (.vsrl c o vd va vb pr 0, fun a b => a / 2 ^ (b % 32)),
          (.vsra c o vd va vb pr 0, fun a b => ((sg a / 2 ^ (b % 32)) % 4294967296).toNat),
          (.vmin c o vd va vb pr 0, fun a b => if sg a ≤ sg b then a else b),
          (.vmax c o vd va vb pr 0, fun a b => if sg a ≤ sg b then b else a)] : List (Instr × (Nat → Nat → Nat))),
        s.canIssue p.1 = true →
          ∃ t v, exec p.1 s = .next t ∧ h.putsInFlight (t.core k) 1 1 (.v vd.toNat v (h.readP pr.toNat))
            ∧ ∀ i < 128, (h.readP pr.toNat).getLsbD i = true →
                lane v i = p.2 (lane (h.readV va.toNat) i) (lane (h.readV vb.toNat) i))
    ∧ (let clamp (n : Int) : Nat := if n < -128 then 0x80 else if 127 < n then 0x7F else (n % 256).toNat
      let sg (n : Nat) : Int := if n < 128 then n else (n : Int) - 256
      let byteOf (x : Nat) (j : Nat) : Nat := x / 256 ^ j % 256
      ∀ p ∈ ([(.vadd c o vd va vb pr 1, fun a b => clamp (sg a + sg b)), (.vsub c o vd va vb pr 1, fun a b => clamp (sg a - sg b)),
          (.vmin c o vd va vb pr 1, fun a b => if sg a ≤ sg b then a else b),
          (.vmax c o vd va vb pr 1, fun a b => if sg a ≤ sg b then b else a),
          (.vand c o vd va vb pr 1, fun a b => a &&& b), (.vor c o vd va vb pr 1, fun a b => a ||| b),
          (.vxor c o vd va vb pr 1, fun a b => a ^^^ b), (.vsll c o vd va vb pr 1, fun a b => a * 2 ^ (b % 8) % 256),
          (.vsrl c o vd va vb pr 1, fun a b => a / 2 ^ (b % 8)),
          (.vsra c o vd va vb pr 1, fun a b => ((sg a / 2 ^ (b % 8)) % 256).toNat)] : List (Instr × (Nat → Nat → Nat))),
        s.canIssue p.1 = true →
          ∃ t v, exec p.1 s = .next t ∧ h.putsInFlight (t.core k) 1 1 (.v vd.toNat v (h.readP pr.toNat))
            ∧ ∀ i < 128, ∀ j < 4, (h.readP pr.toNat).getLsbD i = true →
                byteOf (lane v i) j = p.2 (byteOf (lane (h.readV va.toNat) i) j) (byteOf (lane (h.readV vb.toNat) i) j))

/-- Lane moves of the V slot (R137, R139): select, move, broadcast, permute, and the read of half a tile row.
The model's choices in it: log entry 4. -/
def Obligations.VectorMoves : Prop :=
  ∀ (c : CoreRef) (o : Others) (vd va vb : BitVec 6) (vc pr : BitVec 4) (ts : BitVec 5) (half : Bool) (row : BitVec 8)
    (s : State),
    let k := coreNum c
    let h := s.core k
    let a := h.readV va.toNat
    let b := h.readV vb.toNat
    (∀ p ∈ ([(.vsel c o vd va vb vc pr, 1, fun i => if (h.readP vc.toNat).getLsbD i then lane a i else lane b i),
        (.vmov c o vd va pr, 1, fun i => lane a i), (.vbcast c o vd va pr, 1, fun _ => (h.readS va.toNat).toNat % 2 ^ 32),
        (.vperm c o vd va vb pr, 5, fun i => lane a (lane b i % 128))] : List (Instr × Nat × (Nat → Nat))),
      s.canIssue p.1 = true →
        ∃ t v, exec p.1 s = .next t ∧ h.putsInFlight (t.core k) 1 p.2.1 (.v vd.toNat v (h.readP pr.toNat))
          ∧ ∀ i < 128, (h.readP pr.toNat).getLsbD i = true → lane v i = p.2.2 i)
    ∧ (s.canIssue (.vtrd c o vd va ts half row) = true →
        ∃ t v, exec (.vtrd c o vd va ts half row) s = .next t
          ∧ h.putsInFlight (t.core k) 1 3 (.v vd.toNat v (BitVec.allOnes 128))
          ∧ ∀ i < 128, lane v i = ((h.readT ts.toNat).at (((h.readS va.toNat).toNat + row.toNat) % 256)
              ((if half then 128 else 0) + i)).toNat)

/-- FP32 vector operations with RND = 0 (R137, R139): one RNE rounding per lane, the vector in flight to land three cycles on;
no draw is taken.
The model's choices in it: log entry 4. -/
def Obligations.VectorFloatResults : Prop :=
  ∀ (c : CoreRef) (o : Others) (vd va vb vc : BitVec 6) (pr : BitVec 4) (s : State),
    let k := coreNum c
    let h := s.core k
    let x (r : BitVec 6) (i : Nat) : Nat := lane (h.readV r.toNat) i
    ∀ p ∈ ([(.vfadd c o vd va vb pr false, fun i => (add32 false 0 (x va i) (x vb i)).bits),
        (.vfsub c o vd va vb pr false, fun i => (sub32 false 0 (x va i) (x vb i)).bits),
        (.vfmul c o vd va vb pr false, fun i => (mul32 false 0 (x va i) (x vb i)).bits),
        (.vfma c o vd va vb vc pr false, fun i => (fma32 false 0 (x va i) (x vb i) (x vc i)).bits),
        (.vfmin c o vd va vb pr, fun i => (minmax32 false (x va i) (x vb i)).1),
        (.vfmax c o vd va vb pr, fun i => (minmax32 true (x va i) (x vb i)).1)] : List (Instr × (Nat → Nat))),
      s.canIssue p.1 = true →
        ∃ t v, exec p.1 s = .next t ∧ h.putsInFlight (t.core k) 1 3 (.v vd.toNat v (h.readP pr.toNat))
          ∧ t.get SR_STATE_STATE_V k = s.get SR_STATE_STATE_V k
          ∧ ∀ i < 128, (h.readP pr.toNat).getLsbD i = true → lane v i = p.2 i % 2 ^ 32

/-- Compares and predicate logic (R137): the predicate in flight to land at the end of the next cycle; every lane is compared.
The model's choices in it: log entry 4. -/
def Obligations.ComparesAndPredicates : Prop :=
  ∀ (c : CoreRef) (o : Others) (pd pa pb : BitVec 4) (va vb : BitVec 6) (s : State),
    let k := coreNum c
    let h := s.core k
    let x (i : Nat) : Nat := lane (h.readV va.toNat) i
    let y (i : Nat) : Nat := lane (h.readV vb.toNat) i
    let sg (n : Nat) : Int := if n < 2 ^ 31 then n else (n : Int) - 2 ^ 32
    ∀ p ∈ ([(.vcmpeq c o pd va vb, fun i => decide (x i = y i)), (.vcmplt c o pd va vb, fun i => decide (sg (x i) < sg (y i))),
        (.vcmple c o pd va vb, fun i => decide (sg (x i) ≤ sg (y i))),
        (.vfcmpeq c o pd va vb, fun i => (dec32 (x i)).cmp (dec32 (y i)) == some .eq),
        (.vfcmplt c o pd va vb, fun i => (dec32 (x i)).cmp (dec32 (y i)) == some .lt),
        (.vfcmple c o pd va vb, fun i => (dec32 (x i)).cmp (dec32 (y i)) == some .lt
          || (dec32 (x i)).cmp (dec32 (y i)) == some .eq),
        (.pand c o pd pa pb, fun i => (h.readP pa.toNat).getLsbD i && (h.readP pb.toNat).getLsbD i),
        (.por c o pd pa pb, fun i => (h.readP pa.toNat).getLsbD i || (h.readP pb.toNat).getLsbD i),
        (.pxor c o pd pa pb, fun i => (h.readP pa.toNat).getLsbD i != (h.readP pb.toNat).getLsbD i),
        (.pnot c o pd pa, fun i => !(h.readP pa.toNat).getLsbD i)] : List (Instr × (Nat → Bool))),
      s.canIssue p.1 = true →
        ∃ t v, exec p.1 s = .next t ∧ h.putsInFlight (t.core k) 1 1 (.p pd.toNat v) ∧ ∀ i < 128, v.getLsbD i = p.2 i

/-- Conversions, exponent unit and reductions (R138, R139, R159): a reduction has one value in every lane; the exponent unit rounds to
nearest even whatever RND; a conversion of FP32 to INT32 saturates. Each is in flight for its latency.
The model's choices in it: log entries 4, 13. -/
def Obligations.ConversionsAndReductions : Prop :=
  ∀ (c : CoreRef) (o : Others) (vd va : BitVec 6) (pr : BitVec 4) (s : State),
    let k := coreNum c
    let h := s.core k
    let x (i : Nat) : Nat := lane (h.readV va.toNat) i
    (∀ p ∈ ([(.vexp2 c o vd va pr, 7, fun i => (exp2_32 (x i)).bits), (.vrcp c o vd va pr, 7, fun i => (rcp32 (x i)).bits),
        (.vrsqrt c o vd va pr, 7, fun i => (rsqrt32 (x i)).bits),
        (.vcvt c o vd va 0 0 pr 12 0 false false 0, 5,
          fun i => (NumFmt.int32.encodeElem false false 0 (dec32 (x i))).bits)] : List (Instr × Nat × (Nat → Nat))),
      s.canIssue p.1 = true →
        ∃ t v, exec p.1 s = .next t ∧ h.putsInFlight (t.core k) 1 p.2.1 (.v vd.toNat v (h.readP pr.toNat))
          ∧ ∀ i < 128, (h.readP pr.toNat).getLsbD i = true → lane v i = p.2.2 i % 2 ^ 32)
    ∧ (∀ p ∈ ([(.vredsum c o vd va pr false, fun a b (_ : BitVec 32) => add32 false 0 a b),
        (.vredmax c o vd va pr, fun a b g => ⟨(minmax32 true a b).1, (minmax32 true a b).2, g⟩)]
        : List (Instr × (Nat → Nat → BitVec 32 → Conv))),
      s.canIssue p.1 = true →
        ∃ t v, exec p.1 s = .next t ∧ h.putsInFlight (t.core k) 1 5 (.v vd.toNat v (h.readP pr.toNat))
          ∧ ∀ i < 128, lane v i = (tree p.2 (lanesOf (h.readV va.toNat)) 0).lanes.getD 0 0 % 2 ^ 32)

/-! ### The M slot and the X slot -/

/-- TINIT, MMA and TWR (R76, R92, R94, R96, R140, R142, R143): the tile of TINIT lands two cycles after issue; an MMA fetches the
planes of its operands from the next cycle on, reading A first, onto its tile as it stands at issue, forwarded or visible, and its
result comes due D + 7 cycles after issue; TWR writes its planes at the end of cycle 3 + W. The engine is busy for 1, D and W cycles.
The model's choices in it: log entries 4, 34. -/
def Obligations.MatrixResults : Prop :=
  ∀ (c : CoreRef) (o : Others) (td : BitVec 5) (ra rb : BitVec 6) (fa fb : BitVec 5) (spa tag rnd ovf : Bool) (s : State),
    let k := coreNum c
    let h := s.core k
    let at32 (r : Nat) : Nat := (h.readS r).toNat
    let operand (r : BitVec 6) (f : NumFmt) (sparse : Bool) (depth : Nat) : Operand :=
      ⟨f, at32 r.toNat, at32 (r.toNat + 1) % 2 ^ 32, at32 (r.toNat + 1) / 2 ^ 32, sparse, depth⟩
    (s.canIssue (.tinit c o td tag) = true →
      ∃ t, exec (.tinit c o td tag) s = .next t ∧ h.putsInFlight (t.core k) 2 1 (.t td.toNat ⟨tag, []⟩)
        ∧ (t.core k).engine = ⟨h.cyc + 1, some (td.toNat, h.cyc, 1)⟩)
    ∧ (∀ f g cls, s.format fa = some f → s.format fb = some g → f.opClass = some cls →
        s.canIssue (.mma c o td ra rb fa fb spa) = true →
        let a := operand ra f spa 256
        let b := operand rb g false (if spa then 512 else 256)
        let d : Nat := match cls with | .fp4 => 32 | .fp8 => 64 | .half => 256 | .int => 64
        ∃ t, exec (.mma c o td ra rb fa fb spa) s = .next t ∧ g.opClass = some cls
          ∧ h.putsInFlight (t.core k) 2 1 (.fetch td.toNat ((forwarded h td.toNat).getD (h.readT td.toNat)) cls a b
              (d + 7 - (a.fetch + b.fetch)) (a.pieces false ++ b.pieces true) .none .none)
          ∧ (t.core k).engine = ⟨h.cyc + d, some (td.toNat, h.cyc, d)⟩)
    ∧ (∀ f, s.format fa = some f → s.canIssue (.twr c o td ra fa rnd ovf) = true →
        let p := twrPlanes (h.readT td.toNat) f rnd ovf (s.genM k)
        let w : Nat := match f with
          | .fp32 => 64 | .int32 => 64 | .bf16 => 32 | .fp16 => 32 | .e4m3 => 16 | .e5m2 => 16 | .int8 => 16
          | .mxfp8e4m3 => 17 | .mxfp8e5m2 => 17 | .mxfp6e2m3 => 13 | .mxfp6e3m2 => 13 | .mxfp4 => 9 | .fp4ps => 9
        ∃ t, exec (.twr c o td ra fa rnd ovf) s = .next t
          ∧ h.putsInFlight (t.core k) 2 (3 + w) (.write (at32 ra.toNat) (p.elems.map (fun b => (b, true))))
          ∧ (f.isBlock = true → h.putsInFlight (t.core k) 2 (3 + w)
              (.write (at32 (ra.toNat + 1) % 2 ^ 32) (p.scales.map (fun b => (b, true)))))
          ∧ h.putsInFlight (t.core k) 2 (3 + w) (.flags p.flags)
          ∧ (t.core k).engine = ⟨h.cyc + w, none⟩ ∧ t.get SR_STATE_STATE_M k = p.gen.toNat)

/-- Cairn operations and lane moves of the X slot (R144, R179, R181, R184, R232): amounts, counts, status words and lanes as they
stand at issue, each in flight to land at the end of the next cycle.
The model's choices in it: log entry 4. -/
def Obligations.CairnAndLaneOperations : Prop :=
  ∀ (c : CoreRef) (o : Others) (rd ra rb : BitVec 6) (cn : BitVec 12) (imm : BitVec 16) (ch : BitVec 4) (ln : BitVec 7) (s : State),
    let k := coreNum c
    let h := s.core k
    let amount : BitVec 32 := BitVec.ofNat 32 ((h.readS rb.toNat).toNat + imm.toNat)
    (∀ p ∈ ([(.cadd c o rb cn imm, .cairnAdd cn.toNat amount), (.cset c o rb cn imm, .cairnSet cn.toNat amount),
        (.cread c o rd cn, .s rd.toNat ((h.cairn cn.toNat).count.zeroExtend 64)),
        (.cstat c o rd ch, .s rd.toNat (h.copy ch.toNat).statusWord),
        (.mvvs c o rd ra ln, .s rd.toNat (BitVec.ofNat 64 (lane (h.readV ra.toNat) ln.toNat)))] : List (Instr × Act)),
      s.canIssue p.1 = true → ∃ t, exec p.1 s = .next t ∧ h.putsInFlight (t.core k) 3 1 p.2)
    ∧ (s.canIssue (.mvsv c o rd ra ln) = true →
        ∃ t v m, exec (.mvsv c o rd ra ln) s = .next t ∧ h.putsInFlight (t.core k) 3 1 (.v rd.toNat v m)
          ∧ lane v ln.toNat = (h.readS ra.toNat).toNat % 2 ^ 32 ∧ ∀ i < 128, m.getLsbD i = decide (i = ln.toNat))

/-- CWAIT (R186, R187, R195, R201): with the count at or above the threshold its bundle issues, and CONS takes the threshold off; below
it the core freezes in FROZEN_WAIT with its bundle held, and nothing else of the core moves.
The model's choices in it: log entry 4. -/
def Obligations.CairnWaits : Prop :=
  ∀ (c : CoreRef) (rb : BitVec 6) (cn : BitVec 12) (cons : Bool) (imm : BitVec 16) (s : State),
    let k := coreNum c
    let h := s.core k
    let i : Instr := .cwait c nopOthers rb cn cons imm
    let thr : BitVec 32 := BitVec.ofNat 32 ((h.readS rb.toNat).toNat + imm.toNat)
    (s.canIssue i = true → h.nothingDue = true →
      ∃ t, exec i s = .next t ∧ thr.toNat ≤ (h.cairn cn.toNat).count.toNat ∧ (t.core k).pc = h.nextPc
        ∧ (t.core k).cairn cn.toNat = (if cons ∧ thr ≠ 0 then
            { h.cairn cn.toNat with count := (h.cairn cn.toNat).count - thr, kind := 3 } else h.cairn cn.toNat)
        ∧ ∀ n, n ≠ cn.toNat → (t.core k).cairn n = h.cairn n)
    ∧ (s.clocked k = true → h.issuing = true → h.force = false → h.pc < 32767 → h.st = .running →
        (h.cairn cn.toNat).count.toNat < thr.toNat →
        ∃ t, exec i s = .next t ∧ (t.core k).st = .frozenWait ∧ (t.core k).pc = h.pc ∧ (t.core k).pipe = h.pipe
          ∧ (t.core k).held.isSome = true ∧ h.sameFiles [] (t.core k) ∧ h.sameMemories (t.core k)
          ∧ t.word .CYCLE_ISSUE k = s.word .CYCLE_ISSUE k ∧ t.word .CYCLE_FROZEN k = s.word .CYCLE_FROZEN k + 1
          ∧ t.get WAIT_STATE_ACTIVE k = 1 ∧ t.get WAIT_STATE_CAIRN k = cn.toNat
          ∧ t.get WAIT_STATE_THRESHOLD k = thr.toNat ∧ t.get WAIT_STATE_CONS k = cons.toNat)

/-- Pod operations (R97, R145, R208, R209, R217): one that its port accepts takes the next place in issue order and stands in a send slot
or among the operations sent and unacknowledged; an ATTN stands in its slot or has taken its sequence number.
The model's choices in it: log entry 4. -/
def Obligations.PodOperationsEnterThePort : Prop :=
  ∀ (c : CoreRef) (o : Others) (rd ra rb : BitVec 6) (cn : BitVec 12) (af : Bool) (imm : BitVec 16) (aop : BitVec 4) (s : State),
    let k := coreNum c
    let h := s.core k
    let x := h.readS ra.toNat
    let y := h.readS rb.toNat
    let d := h.readS rd.toNat
    let op (kind : OpKind) (r n : Nat) (data cmp : Word) (vec : Vec) (a : Nat) (f : Bool) : PodOp :=
      ⟨h.nextId, kind, x, r, n, data, cmp, vec, a, f, h.pc, s.get CORE_OUTING_OUTING k, none, none, false⟩
    ∀ p ∈ ([(.rcadd c o ra rb af imm, op .rcadd 0 0 (y + imm.zeroExtend 64) 0 0 0 af),
        (.pld c o rd ra cn, op .pld rd.toNat cn.toNat 0 0 0 0 false),
        (.pldv c o rd ra cn, op .pldv rd.toNat cn.toNat 0 0 0 0 false),
        (.pst c o rd ra cn, op .pst rd.toNat cn.toNat d 0 0 0 false),
        (.pstv c o rd ra cn, op .pstv rd.toNat cn.toNat 0 0 (h.readV rd.toNat) 0 false),
        (.patom c o rd ra rb cn aop, op .patom rd.toNat cn.toNat y d 0 aop.toNat false),
        (.msg c o rd ra cn, op .msg rd.toNat cn.toNat 0 0 (h.readV rd.toNat) 0 false),
        (.redc c o rd ra, op .redc rd.toNat 0 0 0 (h.readV rd.toNat) 0 false),
        (.attn c o ra cn, op .attn 0 cn.toNat 0 0 0 0 false)] : List (Instr × PodOp)),
      s.canIssue p.1 = true →
        (s.portCheck k p.2 = .ok →
          ∃ t, exec p.1 s = .next t ∧ (t.core k).nextId = h.nextId + 1
            ∧ (p.2 ∈ (t.core k).slots ∨ (∃ q, { p.2 with seq := some q } ∈ (t.core k).unacked)
                ∨ (p.2.kind = .attn ∧ ∃ n ≤ 16, t.get POD_SEQ_NEXT k = (s.get POD_SEQ_NEXT k + n + 1) % 2 ^ 32)))
        ∧ (∀ code, s.portCheck k p.2 = .refuse code → p.2.kind ≠ .attn → s.get CORE_FAULT_CODE k = 0 → h.nothingDue = true →
            ∃ t, exec p.1 s = .next t ∧ (t.core k).st = .faulted ∧ t.get CORE_FAULT_CODE k = 0x0A
              ∧ t.get CORE_FAULT_SLOT k = 3)

/-- Fences and copies (R144, R216, R230, R231, R234): a fence stands after every operation issued before it; a channel that COPY names
takes the copy's operands, and is REFUSED with its reason where the port's checks refuse it; CABORT reaches its channel in the next
cycle, where it ends an ACTIVE one that has nothing on its way, marks any other ACTIVE one, and leaves the rest.
The model's choices in it: log entries 4, 24. -/
def Obligations.FencesAndCopies : Prop :=
  ∀ (c : CoreRef) (o : Others) (rd ra rb : BitVec 6) (cn : BitVec 12) (ch : BitVec 4) (ck : BitVec 2) (s : State),
    let k := coreNum c
    let h := s.core k
    let x : CopyStart := ⟨ch.toNat, h.readS rd.toNat, h.readS ra.toNat, h.readS rb.toNat, cn.toNat, ck.toNat⟩
    (∀ p ∈ ([(.fence c o, .all), (.fenceW c o, .w), (.fenceR c o, .r)] : List (Instr × FenceKind)),
      s.canIssue p.1 = true →
        ∃ t, exec p.1 s = .next t ∧ (t.core k).fences = h.fences ++ [⟨h.nextId, p.2⟩] ∧ (t.core k).nextId = h.nextId + 1)
    ∧ (s.canIssue (.copy c o rd ra rb cn ch ck) = true →
        ∃ t, exec (.copy c o rd ra rb cn ch ck) s = .next t
          ∧ (let y := (t.core k).copy ch.toNat
             y.id = h.nextId ∧ y.src = x.src ∧ y.dst = x.dst ∧ y.len = x.len.toNat ∧ y.ck = x.ck ∧ y.cairn = x.cairn ∧ y.pc = h.pc
               ∧ ∀ code, s.copyCheck x (s.get CORE_OUTING_OUTING k) = some code → y.status = 4 ∧ y.reason = code))
    ∧ (s.canIssue (.cabort c o ch) = true →
        ∃ t, exec (.cabort c o ch) s = .next t ∧ (t.core k).aborts = [ch.toNat]
          ∧ (h.aborts = [] → ∀ n, (t.core k).copy n = h.copy n))
    ∧ (h.aborts = [ch.toNat] →
        let y := ((s.reachAborts k).core k).copy ch.toNat
        let z := h.copy ch.toNat
        ((s.reachAborts k).core k).aborts = [] ∧ (z.status ≠ 1 → y = z) ∧ (z.status = 1 → y.aborted = true)
          ∧ (z.status = 1 → z.flight = none → z.lost = false → y.status = 3))

/-! ### Frames, faults and landings -/

/-- The frame of every slot instruction that neither waits nor reaches the port, alone in its bundle, in a cycle in which nothing lands
and no CABORT of the cycle before acts (R86, R87, R234): beside its own result of latency 1 no register of the core changes, no flag, no cairn and no byte of memory; its other
results and stores are in flight; only CYCLE_ISSUE, the draws of V and M instructions, and what CRW names change of the register
words; and nothing outside the core.
The model's choices in it: log entries 3, 4. -/
def Obligations.SlotFrame : Prop :=
  ∀ (i : Instr) (c : CoreRef) (n : Nat) (w : Word) (s : State),
    slotWord i = some (c, n, nopOthers, w) → (n = 3 → fld 63 56 w ∈ [0x00, 0x08, 0x09, 0x0B, 0x2A, 0x40, 0x41]) →
    s.canIssue i = true → (s.core (coreNum c)).nothingDue = true → (s.core (coreNum c)).aborts = [] →
      let k := coreNum c
      ∃ t, exec i s = .next t ∧ (t.core k).st = .running ∧ (s.core k).sameFiles (writtenAtOnce n w) (t.core k)
        ∧ (s.core k).sameMemories (t.core k) ∧ State.sameWords k (wordsAtOnce n w) s t ∧ State.sameElsewhere k s t

/-- What an operation does when it comes due (R84, R87, R101, R104, R108, R180, R181): register writes with s0 and p0 discarding theirs,
masked lanes keeping their values, bytes of the core store, cairns with their saturation, flags that stick. -/
def Obligations.DueOperationsLand : Prop :=
  ∀ (s : State) (k : Nat) (it : Item),
    let h := s.core k
    let t := (s.land k it).1
    let g := t.core k
    (∀ r v, it.act = .s r v → g.readS r = (if r = 0 then 0 else v) ∧ h.sameFiles [r] g ∧ h.sameMemories g)
    ∧ (∀ r v m, it.act = .v r v m → (∀ i < 128, lane (g.readV r) i = if m.getLsbD i then lane v i else lane (h.readV r) i)
        ∧ (∀ q, q ≠ r → g.readV q = h.readV q) ∧ (∀ q, g.readS q = h.readS q) ∧ h.sameMemories g)
    ∧ (∀ r v, it.act = .p r v → g.readP r = (if r = 0 then BitVec.allOnes 128 else v) ∧ ∀ q, q ≠ r → g.readP q = h.readP q)
    ∧ (∀ r v, it.act = .t r v → g.readT r = v ∧ ∀ q, q ≠ r → g.readT q = h.readT q)
    ∧ (∀ f, it.act = .flags f → t.word .FP_FLAGS k = s.word .FP_FLAGS k ||| f.zeroExtend 64 ∧ h.sameFiles [] g)
    ∧ (∀ a l, it.act = .write a l → (∀ x, Mem.byte g.store x = (if a ≤ x ∧ x < a + l.length ∧ (l.getD (x - a) (0, false)).2 = true
          then (l.getD (x - a) (0, false)).1 else Mem.byte h.store x)) ∧ h.sameFiles [] g)
    ∧ (∀ n a, it.act = .cairnAdd n a → g.cairn n = (if 2 ^ 32 ≤ (h.cairn n).count.toNat + a.toNat then ⟨0xFFFFFFFF, true, 1⟩
          else ⟨(h.cairn n).count + a, (h.cairn n).sat, 1⟩) ∧ (∀ m, m ≠ n → g.cairn m = h.cairn m) ∧ h.sameFiles [] g)
    ∧ (∀ n a, it.act = .cairnSet n a → g.cairn n = ⟨a, false, 2⟩ ∧ (∀ m, m ≠ n → g.cairn m = h.cairn m) ∧ h.sameFiles [] g)

/-- Reads of the core store through its code (R104, R106, R116, R91): with every word good a load's value is on its way to its register
three cycles later, and a matrix fetch with its last piece read has its tile on its way; an uncorrectable word faults the core with
code 7 and puts nothing on its way. -/
def Obligations.DueReadsOfTheStore : Prop :=
  ∀ (s : State) (k : Nat) (it : Item),
    let h := s.core k
    (∀ r a, it.act = .readS r a →
      (h.badWords a 8 = [] → (s.land k it).2 = ([{ it with due := it.due + 3, act := .s r (Mem.word h.store a) }], []))
      ∧ (h.badWords a 8 ≠ [] → (s.land k it).2 = ([], [⟨7, it.slot, a / 256, it.pc⟩]))
      ∧ (h.badWords a 8 ≠ [] → h.pipe = [it] → it.due = h.cyc → h.st = .running → s.get CORE_FAULT_CODE k = 0 → it.slot < 5 →
          let u := s.faultCycle k []
          (u.core k).pipe = [] ∧ (u.core k).st = .faulted ∧ u.get CORE_FAULT_CODE k = 7 ∧ u.get CORE_FAULT_PC k = it.pc % 2 ^ 15))
    ∧ (∀ r a m, it.act = .readV r a m → h.badWords a 512 = [] →
        (s.land k it).2 = ([{ it with due := it.due + 3, act := .v r (Mem.vec h.store a) m }], []))
    ∧ (∀ td tile cls a b rest p x y, it.act = .fetch td tile cls a b rest [p] x y → h.badWords p.addr p.size = [] →
        let x' := if p.ofB then x else x.take h.store p
        let y' := if p.ofB then y.take h.store p else y
        let r := mmaTile cls a b x' y' tile
        (s.land k it).2 = ([{ it with due := it.due + rest, act := .t td r.1 }, { it with due := it.due + rest, act := .flags r.2 }],
          []))

/-- A core that fetches runs the bundle its instruction memory holds at PC (R86, R109), and steps of an empty queue do so: the cycle of a
running core's pipelines is the cycle of that bundle, after which the banks no footprint claims serve their beats (R103).
The model's choices in it: log entry 2. -/
def Obligations.FetchRunsTheStoredBundle : Prop :=
  ∀ (s : State) (k : Nat),
    let c := s.core k
    let ws := (List.range 4).map (fun i => SMap.get c.imem (c.pc * 4 + i) 0)
    c.force = false → (∀ i < 4, c.imemState (c.pc * 4 + i) = .good) →
      s.fetchCycle k = s.runBundle k (fun t => t.decodeBundle k ws)
      ∧ (c.issuing = true → s.cycleCore k =
          let t := s.fetchCycle k
          if (t.core k).st = .frozenWait then (t.serveFree k 0).modCore k (fun c => { c with force := false })
          else t.serveFree k c.claimedNow)

/-- A bundle with a fault does not issue (R115, R116): PC stays and the core is FAULTED, while what is in flight goes on; in a cycle in
which nothing lands the register files, the memories and the pipelines stay, and CORE_FAULT, if it held no fault, has the first one's
code, slot, PC and DETAIL.
The model's choices in it: log entries 26, 41. -/
def Obligations.FaultingBundleDoesNotIssue : Prop :=
  ∀ (i : Instr) (c : CoreRef) (ws : List Word) (s : State) (f : FaultRec) (l : List FaultRec),
    let k := coreNum c
    bundleOf i = some (c, ws) → s.clocked k = true → (s.core k).issuing = true → (s.core k).force = false →
    (s.cycleStart k).satisfied k (s.bundleAt k ws) = true →
    (s.cycleStart k).bundleFaults k (s.bundleAt k ws) = f :: l → s.get CORE_FAULT_CODE k = 0 → f.code % 256 ≠ 0 →
      ∃ t, exec i s = .next t ∧ (t.core k).st = .faulted ∧ (t.core k).pc = (s.core k).pc
        ∧ t.word .CYCLE_ISSUE k = s.word .CYCLE_ISSUE k
        ∧ (∀ it ∈ (s.core k).pipe, it.due ≠ (s.core k).cyc → it ∈ (t.core k).pipe)
        ∧ ((s.core k).nothingDue = true → (t.core k).pipe = (s.core k).pipe
            ∧ (s.core k).sameFiles [] (t.core k) ∧ (s.core k).sameMemories (t.core k)
            ∧ t.get CORE_FAULT_CODE k = f.code % 256 ∧ t.get CORE_FAULT_SLOT k = f.slot % 16
            ∧ t.get CORE_FAULT_PC k = f.pc % 2 ^ 15 ∧ t.get CORE_FAULT_DETAIL k = f.detail % 2 ^ 32)

/-- An invariant that every step of a slot instruction or of an empty queue keeps: every memory of the module stays in its canonical
form, keys rising and nothing listed that reads as unwritten.
The model's choices in it: log entries 1, 2. -/
def Obligations.MemoriesStayCanonical : Prop :=
  ∀ s t : State, s.runsCore → s.memoriesWf → step s = .next t → t.memoriesWf

/-! ### Commands on a core from outside its program -/

/-- START, STOP and CLR_FAULT (R112, R113): START from STOPPED or HALTED sets PC and begins issue, and in any other state is ignored
with a register-state event; STOP ends issue, and ends a held wait without issuing its bundle; CLR_FAULT clears CORE_FAULT and
moves to STOPPED, before START or STOP is looked at. No register of the core file and no memory changes. -/
def Obligations.StartStopAndClear : Prop :=
  ∀ (c : CoreRef) (pc : BitVec 15) (clr start : Bool) (s : State),
    let k := coreNum c
    let h := s.core k
    let cleared := clr = true ∧ h.st = .faulted
    let running := h.st = .running ∨ h.st = .frozenBank ∨ h.st = .frozenWait
    ((h.st = .stopped ∨ h.st = .halted) → s.get MODULE_PWR_RUNG 0 ≠ 5 → s.power.shed = false →
      ∃ t, exec (.start c pc clr) s = .next t
        ∧ t.core k = { h with pc := pc.toNat, st := .running, drain := .none, redirect := none, force := false }
        ∧ t.get CORE_CTRL_START_PC k = pc.toNat ∧ t.get CORE_PWR_RUNG k = 0
        ∧ s.onlyCore k [(CORE_CTRL_START_PC, k), (CORE_PWR_RUNG, k)] t)
    ∧ (h.st ≠ .stopped → h.st ≠ .halted →
      ∃ t, exec (.start c pc clr) s = .next t ∧ t.core k = (if cleared then { h with st := .stopped } else h)
        ∧ (cleared → t.word .CORE_FAULT k = 0)
        ∧ s.recorded t 1 3 0 (k / 9) (k % 9) 0x3FF (BitVec.ofNat 64 (0x10004110000 + k / 9 * 0x100000000 + k % 9 * 0x10000000))
            (BitVec.ofNat 64 (pc.toNat * 2 ^ 32 + clr.toNat * 4 + 1)) 0
        ∧ State.sameBits [(CORE_CTRL_START_PC, k), (RegName.CORE_FAULT.whole, k)] s t)
    ∧ (running →
      ∃ t, exec (.stop c pc start clr) s = .next t
        ∧ t.core k = (if h.st = .frozenWait then
            { h with st := .running, drain := .stop, redirect := none, held := none, waitCount := 0, l1 := false, wakeAsked := false }
          else { h with st := .running, drain := .stop, redirect := none })
        ∧ (h.st = .frozenWait → t.get WAIT_STATE_ACTIVE k = 0 ∧ t.get WAIT_AGE_CURRENT k = 0
            ∧ t.get WAIT_AGE_MAX k = max (s.get WAIT_AGE_MAX k) (s.get WAIT_AGE_CURRENT k))
        ∧ s.onlyCore k [(CORE_CTRL_START_PC, k), (WAIT_AGE_MAX, k), (WAIT_AGE_CURRENT, k), (WAIT_STATE_ACTIVE, k),
            (WAIT_STATE_GATED, k)] t)
    ∧ (¬ running →
      ∃ t, exec (.stop c pc start clr) s = .next t ∧ t.core k = (if cleared then { h with st := .stopped } else h))
    ∧ ∃ t, exec (.clrFault c pc) s = .next t ∧ t.core k = (if h.st = .faulted then { h with st := .stopped } else h)
        ∧ t.word .CORE_FAULT k = (if h.st = .faulted then 0 else s.word .CORE_FAULT k)
        ∧ s.onlyCore k [(CORE_CTRL_START_PC, k), (RegName.CORE_FAULT.whole, k)] t

/-- The ends of drains (R113, R115, R148): with nothing in flight a drain ends in STOPPED or HALTED, PC staying; an operation still
in flight writes its result first, in a FAULTED core too.
The model's choices in it: log entry 40. -/
def Obligations.DrainsEnd : Prop :=
  ∀ (c : CoreRef) (s : State),
    let k := coreNum c
    let h := s.core k
    (∀ p ∈ ([(.stopDrainComplete c, .stop, .stopped), (.haltDrainComplete c, .halt, .halted)] : List (Instr × Drain × CoreSt)),
      (h.st = .running → h.drain = p.2.1 → h.pipe = [] →
        ∃ t, exec p.1 s = .next t ∧ t.core k = { h with st := p.2.2, drain := .none } ∧ s.onlyCore k [] t)
      ∧ (h.st ≠ .running ∨ h.drain ≠ p.2.1 → exec p.1 s = .next s))
    ∧ (∀ it r v, h.pipe = [it] → it.due = h.cyc → it.act = .s r v → h.st = .faulted → h.force = false →
      ∃ t, exec (.faultDrainComplete c) s = .next t ∧ (t.core k).readS r = (if r = 0 then 0 else v)
        ∧ (t.core k).pipe = [] ∧ (t.core k).st = .faulted ∧ (t.core k).pc = h.pc ∧ h.sameFiles [r] (t.core k)
        ∧ h.sameMemories (t.core k) ∧ s.onlyCore k [] t)

/-- Steward writes to a core (R66, R109, R110, R120, R181): a seed loads its generator, zero loading the fixed start; an instruction
slot is replaced with a good code; an add reaches its cairn, saturating; CORE_MAP takes a write that R120 accepts, which moves a READY
substitution to DONE, keeps every other out, and records those that would change it. -/
def Obligations.StewardWritesToCores : Prop :=
  ∀ (c : CoreRef) (die : Fin 4) (bundle : BitVec 15) (slot : Fin 4) (cn : BitVec 12) (v : BitVec 64) (s : State),
    let k := coreNum c
    let seed := v.toNat % 2 ^ 32
    let nib (w : Word) (i : Nat) : Nat := w.toNat / 2 ^ (4 * i) % 16
    let old := s.word .CORE_MAP die.val
    let new := v &&& 0xFFFFFFFFF#64
    let spare := nib old 8
    let state := s.get FENCE_STATUS_SUBST_STATE die.val
    let accepted (i : Nat) : Prop := i < 8 ∧ spare ≤ 8 ∧ nib old i ≤ 8 ∧ nib new i = spare ∧ nib old i ≠ spare ∧ nib new 8 = 0xF
      ∧ (∀ j < 8, j ≠ i → nib new j = nib old j) ∧ s.isFenced (9 * die.val + nib old i) = true
      ∧ (s.core (9 * die.val + spare)).st = .stopped ∧ state ≠ 1 ∧ state ≠ 2
    (∃ t, exec (.srSeedVWrite c v) s = .next t ∧ t.get SR_SEED_V_SEED k = seed
      ∧ t.get SR_STATE_STATE_V k = (if seed = 0 then 0x9E3779B9 else seed)
      ∧ s.onlyFields [(SR_SEED_V_SEED, k), (SR_STATE_STATE_V, k)] t)
    ∧ (∃ t, exec (.srSeedMWrite c v) s = .next t ∧ t.get SR_SEED_M_SEED k = seed
      ∧ t.get SR_STATE_STATE_M k = (if seed = 0 then 0x9E3779B9 else seed)
      ∧ s.onlyFields [(SR_SEED_M_SEED, k), (SR_STATE_STATE_M, k)] t)
    ∧ (∃ t, exec (.stewardImemWrite c bundle slot v) s = .next t
      ∧ (∀ i, SMap.get (t.core k).imem i 0 = if i = bundle.toNat * 4 + slot.val then v else SMap.get (s.core k).imem i 0)
      ∧ (t.core k).imemState (bundle.toNat * 4 + slot.val) = .good ∧ (t.core k).pc = (s.core k).pc
      ∧ (t.core k).st = (s.core k).st ∧ (s.core k).sameFiles [] (t.core k) ∧ s.onlyCore k [] t)
    ∧ (s.get FENCE_STATUS_SUBST_STATE (k / 9) ≠ 3 → ∃ t, exec (.stewardCairnAdd c cn v) s = .next t
      ∧ ((t.core k).cairn cn.toNat).count = (if 2 ^ 32 ≤ ((s.core k).cairn cn.toNat).count.toNat + seed then 0xFFFFFFFF
          else ((s.core k).cairn cn.toNat).count + BitVec.ofNat 32 seed)
      ∧ (∀ n, n ≠ cn.toNat → (t.core k).cairn n = (s.core k).cairn n) ∧ (s.core k).sameFiles [] (t.core k)
      ∧ ∀ j, j ≠ k → t.core j = s.core j)
    ∧ (new = old → exec (.coreMapWrite die v) s = .next s)
    ∧ (∀ i, accepted i → state ≠ 3 → ∃ t, exec (.coreMapWrite die v) s = .next t ∧ t.word .CORE_MAP die.val = new
          ∧ s.onlyFields [(RegName.CORE_MAP.whole, die.val)] t)
    ∧ (∀ i, accepted i → state = 3 → SMap.get s.held die.val [] = [] →
        ∃ t, exec (.coreMapWrite die v) s = .next t ∧ t.word .CORE_MAP die.val = new ∧ t.get FENCE_STATUS_SUBST_STATE die.val = 4
          ∧ t.cores = s.cores ∧ State.sameBits [(RegName.CORE_MAP.whole, die.val), (FENCE_STATUS_SUBST_STATE, die.val),
              (FENCE_STATUS_HELD, die.val)] s t)
    ∧ (new ≠ old → (∀ i, ¬ accepted i) →
        ∃ t, exec (.coreMapWrite die v) s = .next t ∧ t.regs = s.regs ∧ t.cores = s.cores ∧ ∃ e, t.events = s.events ++ [e]
          ∧ e.cls = 1 ∧ e.code = 1 ∧ e.d1 = v)

/-- A steward access to the core store and a program image (R105, R149, R150, R496): an aligned write whose bank is free puts its bytes
in place, a read returns them; an image that passes every check is in instruction memory bundle by bundle, with ENTRY at
START_PC and A1_WDOG as its flags say; one that fails a check changes nothing and is recorded with the first check's reason.
The model's choices in it: log entries 35, 39. -/
def Obligations.StewardStoreAndPrograms : Prop :=
  ∀ (c : CoreRef) (offset : BitVec 26) (size : AccessSize) (v : BitVec 64) (image : List Byte) (answers : Bool) (s : State),
    let k := coreNum c
    let h := s.core k
    let n := accessBytes size
    let a := offset.toNat
    let m := Mem.setBytes [] 0 (image.take 64)
    let at_ := Mem.readLE m 0xC 2
    (a % n = 0 → h.bankFree (a / 256 % 16) = true →
      (∃ t, exec (.stewardStoreAccess c offset size (some v)) s = .next t
        ∧ (∀ x, Mem.byte (t.core k).store x = if a ≤ x ∧ x < a + n then BitVec.ofNat 8 (v.toNat / 256 ^ (x - a))
            else Mem.byte h.store x)
        ∧ h.sameFiles [] (t.core k) ∧ ∀ j, j ≠ k → t.core j = s.core j)
      ∧ ∃ t, exec (.stewardStoreAccess c offset size none) s = .next t ∧ t.hartRead = BitVec.ofNat 64 (Mem.readLE h.store a n)
        ∧ h.sameFiles [] (t.core k) ∧ h.sameMemories (t.core k))
    ∧ (∀ r, s.loadReason k image answers = some r →
        ∃ t, exec (.programLoad c image answers) s = .next t ∧ t.cores = s.cores ∧ t.regs = s.regs
          ∧ s.recorded t 2 2 0 (k / 9) (k % 9) 0x3FF (BitVec.ofNat 64 r) (BitVec.ofNat 64 image.length) 0)
    ∧ (s.loadReason k image answers = none →
        ∃ t, exec (.programLoad c image answers) s = .next t
          ∧ (∀ i < 4 * Mem.readLE m 8 4, SMap.get (t.core k).imem (4 * at_ + i) 0
              = BitVec.ofNat 64 (leNat ((image.drop (64 + 8 * i)).take 8)))
          ∧ (∀ x, x < 4 * at_ ∨ 4 * (at_ + Mem.readLE m 8 4) ≤ x → SMap.get (t.core k).imem x 0 = SMap.get h.imem x 0)
          ∧ t.get CORE_CTRL_START_PC k = Mem.readLE m 0xE 2 ∧ t.get CAIRN_CTRL_A1_WDOG k = Mem.readLE m 7 1 % 2
          ∧ h.sameFiles [] (t.core k) ∧ (t.core k).st = h.st ∧ (t.core k).pc = h.pc ∧ ∀ j, j ≠ k → t.core j = s.core j)

/-- Banks (R103, R107) and a returned pod result (R97): a beat whose bank a program footprint claims stays; the oldest beat of a
free bank is served; the forced cycle is a freeze cycle that advances no pipeline; the scrubber moves one beat on, and counts a
pass at the last; a pod load's value is in its register and its cairn has one more. -/
def Obligations.BeatsScrubAndReturns : Prop :=
  ∀ (c : CoreRef) (bank : Fin 16) (upsets : List (Fin 32 × Bool)) (seq : BitVec 32) (s : State),
    let k := coreNum c
    let h := s.core k
    let beat := s.get STORE_SCRUB_NEXT_BEAT k
    (h.claimedNow.getLsbD bank.val = true → exec (.copyClassBeat c bank) s = .next s)
    ∧ (∀ x y, s.clocked k = true → h.claimedNow.getLsbD bank.val = false → h.beats = [x, y] → x.bank = bank.val → y.job = x.job →
        y ≠ x → ∃ t, exec (.copyClassBeat c bank) s = .next t ∧ t.core k = { h with beats := [y] } ∧ s.onlyCore k [] t)
    ∧ (s.clocked k = true → h.issuing = true → h.force = true → h.beats = [] →
        ∃ t, exec (.frozenBank c) s = .next t ∧ t.core k = { h with st := .frozenBank, force := false }
          ∧ t.word .CYCLE_FROZEN k = s.word .CYCLE_FROZEN k + 1 ∧ s.onlyCore k [(RegName.CYCLE_FROZEN.whole, k)] t)
    ∧ (h.force = false → exec (.frozenBank c) s = .next s)
    ∧ (h.bankFree (beat % 16) = true →
        ∃ t, exec (.coreStoreScrub c upsets) s = .next t
          ∧ t.get STORE_SCRUB_NEXT_BEAT k = (if beat = 262143 then 0 else beat + 1)
          ∧ (beat ≠ 262143 → t.get STORE_SCRUB_PASSES k = s.get STORE_SCRUB_PASSES k)
          ∧ (beat = 262143 → t.get STORE_SCRUB_PASSES k = (s.get STORE_SCRUB_PASSES k + 1) % 2 ^ 32)
          ∧ h.sameFiles [] (t.core k) ∧ h.sameMemories (t.core k) ∧ (t.core k).st = h.st)
    ∧ (h.bankFree (beat % 16) = false → exec (.coreStoreScrub c upsets) s = .next s)
    ∧ (∀ o data, h.unacked.find? (fun o => o.seq == some seq.toNat && o.back.isSome) = some o → o.back = some data →
        o.kind = .pld → h.st ≠ .fenced → (s.windowPass (k / 9) 1 (s.stream k) seq).1 = true →
        ∃ t, exec (.podResultReturn c seq) s = .next t
          ∧ ((t.core k).cairn o.cairn).count = (if (h.cairn o.cairn).count.toNat + 1 < 2 ^ 32 then (h.cairn o.cairn).count + 1
              else 0xFFFFFFFF)
          ∧ (t.core k).readS o.rd = (if o.rd = 0 then 0 else BitVec.ofNat 64 (leNat data))
          ∧ o ∉ (t.core k).unacked ∧ h.sameFiles [o.rd] (t.core k) ∧ (∀ j, j ≠ k → t.core j = s.core j))

/-! ### Waits, and the Cairn memory -/

/-- The end of a held wait (R186, R196, R198): a satisfied one issues its bundle, with the consume that CONS asks for; the A1 watchdog
issues it at its limit with no consume, adds one to cairn 4,095, counts and records; a wait not satisfied goes on. -/
def Obligations.HeldWaitsEnd : Prop :=
  ∀ (c : CoreRef) (rb : BitVec 6) (cn : BitVec 12) (cons : Bool) (imm : BitVec 16) (s : State),
    let k := coreNum c
    let h := s.core k
    let thr : BitVec 32 := BitVec.ofNat 32 ((h.readS rb.toNat).toNat + imm.toNat)
    let ended (t : State) : Prop := (t.core k).st = .running ∧ (t.core k).pc = h.pc + 1 ∧ (t.core k).held = none
      ∧ h.sameFiles [] (t.core k) ∧ t.get WAIT_STATE_ACTIVE k = 0 ∧ t.get WAIT_AGE_CURRENT k = 0
      ∧ t.get WAIT_AGE_MAX k = max (s.get WAIT_AGE_MAX k) (s.get WAIT_AGE_CURRENT k)
      ∧ t.word .CYCLE_ISSUE k = s.word .CYCLE_ISSUE k + 1 ∧ ∀ j, j ≠ k → t.core j = s.core j
    (s.heldWait k rb cn cons imm → h.l1 = false → thr.toNat ≤ (h.cairn cn.toNat).count.toNat →
      ∃ t, exec (.cwaitSatisfied c) s = .next t ∧ ended t
        ∧ ((t.core k).cairn cn.toNat).count = (if cons then (h.cairn cn.toNat).count - thr else (h.cairn cn.toNat).count)
        ∧ ∀ n, n ≠ cn.toNat → (t.core k).cairn n = h.cairn n)
    ∧ (s.heldWait k rb cn cons imm → (h.cairn cn.toNat).count.toNat < thr.toNat → exec (.cwaitSatisfied c) s = .next s)
    ∧ (s.heldWait k rb cn cons imm → s.flag CAIRN_CTRL_A1_WDOG k = true →
        s.get CAIRN_CTRL_WDOG_LIMIT k * 1024 ≤ s.get WAIT_AGE_CURRENT k → (h.cairn 4095).count.toNat + 1 < 2 ^ 32 →
      ∃ t, exec (.watchdogFire c) s = .next t ∧ ended t ∧ (∀ n, n ≠ 4095 → (t.core k).cairn n = h.cairn n)
        ∧ ((t.core k).cairn 4095).count = (h.cairn 4095).count + 1
        ∧ t.get CAIRN_STATS_WDOG_FIRES k = min 0xFFFF (s.get CAIRN_STATS_WDOG_FIRES k + 1)
        ∧ s.recorded t 3 2 0 (k / 9) (k % 9) (s.get CORE_OUTING_OUTING k) (BitVec.ofNat 64 (s.get WAIT_STATE_CAIRN k))
            (BitVec.ofNat 64 (s.get WAIT_STATE_THRESHOLD k)) (BitVec.ofNat 64 h.pc))
    ∧ (s.flag CAIRN_CTRL_A1_WDOG k = false → exec (.watchdogFire c) s = .next s)

/-- Clock gating of a wait (R192, R193, R195): a request that is due is granted, or refused and counted from zero again; the watcher of
a gated core asks for its clock once the held cairn's count is at the threshold; a core that wakes has its clock running, GATED 0, and
its bundle issues, or a wait still unsatisfied freezes again; CAIRN_CTRL keeps its fields against reserved
values, and setting A1_WDOG wakes a gated core.
The model's choices in it: log entry 47. -/
def Obligations.WaitsAreGated : Prop :=
  ∀ (c : CoreRef) (grant : Bool) (v : BitVec 64) (s : State),
    let k := coreNum c
    let h := s.core k
    let due := h.st = .frozenWait ∧ h.l1 = false ∧ s.flag CAIRN_CTRL_GATE_EN k = true ∧ s.flag CAIRN_CTRL_A1_WDOG k = false
      ∧ s.get CAIRN_CTRL_GATE_AFTER k ≤ h.waitCount
    let woken := s.ungate k
    let x := v.toNat
    (due → grant = true → s.power.shed = false →
      ∃ t, exec (.l1EntryRequest c grant) s = .next t ∧ t.get WAIT_STATE_GATED k = 1 ∧ t.get WAIT_STATE_REFUSED k = 0
        ∧ t.get CAIRN_STATS_GATE_ENTRIES k = min 0xFFFFFFFF (s.get CAIRN_STATS_GATE_ENTRIES k + 1)
        ∧ t.core k = { h with l1 := true, wakeAsked := decide (s.get WAIT_STATE_THRESHOLD k
            ≤ (h.cairn (s.get WAIT_STATE_CAIRN k)).count.toNat) }
        ∧ s.onlyCore k [(WAIT_STATE_GATED, k), (WAIT_STATE_REFUSED, k), (CAIRN_STATS_GATE_ENTRIES, k)] t)
    ∧ (due → grant = false ∨ s.power.shed = true →
      exec (.l1EntryRequest c grant) s = .next ((s.put WAIT_STATE_REFUSED k 1).modCore k (fun c => { c with waitCount := 0 })))
    ∧ (¬ due → exec (.l1EntryRequest c grant) s = .next s)
    ∧ (h.l1 = false ∨ h.wakeAsked = false → exec (.l1Wake c) s = .next s)
    ∧ (∀ n a kd, h.l1 = true → (s.outsideAdd k n a kd).get WAIT_STATE_THRESHOLD k
          ≤ (((s.outsideAdd k n a kd).core k).cairn (s.get WAIT_STATE_CAIRN k)).count.toNat →
        ((s.outsideAdd k n a kd).core k).wakeAsked = true)
    ∧ (∀ w, h.l1 = true → h.wakeAsked = true → s.clocked k = true → h.st = .frozenWait → h.held = some w →
        woken.satisfied k (woken.decodeBundle k (heldWords w)) = true →
        ∃ t, exec (.l1Wake c) s = .next t ∧ (t.core k).l1 = false ∧ (t.core k).held = none ∧ t.get WAIT_STATE_GATED k = 0)
    ∧ (∀ w, h.l1 = true → h.wakeAsked = true → h.st = .frozenWait → h.held = some w → s.clocked k = true →
        woken.satisfied k (woken.decodeBundle k (heldWords w)) = false →
        exec (.l1Wake c) s = .next ((woken.noteThreshold k (woken.decodeBundle k (heldWords w))).freezeCycle k))
    ∧ ∃ t, exec (.cairnCtrlWrite c v) s = .next t
        ∧ t.get CAIRN_CTRL_WDOG_LIMIT k = (if x / 2 ^ 40 = 0 then s.get CAIRN_CTRL_WDOG_LIMIT k else x / 2 ^ 40)
        ∧ t.get CAIRN_CTRL_GATE_AFTER k = (if x / 2 ^ 16 % 2 ^ 16 < 16 then s.get CAIRN_CTRL_GATE_AFTER k else x / 2 ^ 16 % 2 ^ 16)
        ∧ t.get CAIRN_CTRL_A1_WDOG k = x / 2 % 2 ∧ t.get CAIRN_CTRL_GATE_EN k = x % 2
        ∧ t.core k = (if x / 2 % 2 = 1 ∧ h.l1 = true then { h with l1 := false, wakeAsked := false, waitCount := 0 } else h)
        ∧ (x / 2 ^ 40 ≠ 0 → 16 ≤ x / 2 ^ 16 % 2 ^ 16 → t.events = s.events) ∧ ∀ j, j ≠ k → t.core j = s.core j

/-- The Cairn dump (R199, R200, R201): a GO whose image lies in steward memory while none runs sets BUSY, any other is recorded; the
next record is read and stored one at a time, and record 0 notes the header's words; at its end the records stand from ADDR + 64 on,
those already read as they were, the rest each count with its SAT and last kind, under a header that its CRC closes.
The model's choices in it: log entry 40. -/
def Obligations.CairnDumps : Prop :=
  ∀ (c : CoreRef) (s : State),
    let k := coreNum c
    let a := s.get CAIRN_DUMP_ADDR_ADDR k * 64
    (s.flag CAIRN_DUMP_CTRL_BUSY k = false → 0x80000000 ≤ a → a + 32832 ≤ 0x84000000 →
      exec (.cairnDumpGo c) s = .next ((s.put CAIRN_DUMP_CTRL_BUSY k 1).modCore k (fun c => { c with dump := some ⟨a, [], []⟩ })))
    ∧ (s.flag CAIRN_DUMP_CTRL_BUSY k = true ∨ a < 0x80000000 ∨ 0x84000000 < a + 32832 →
      exec (.cairnDumpGo c) s = .next (s.regEventAt 3 .CAIRN_DUMP_CTRL k 1))
    ∧ ((s.core k).dump = none → exec (.cairnDumpComplete c) s = .next s)
    ∧ (∀ d, (s.core k).dump = some d → d.read.length < 4096 →
        let t := s.dumpRecord k
        let n := d.read.length
        (t.core k).dump = some ⟨d.dest, s.cairnRecord k n :: d.read, if n = 0 then s.dumpHead k else d.head⟩
          ∧ Mem.readLE t.stewardMem (d.dest + 64 + 8 * n) 8 = (s.cairnRecord k n).toNat)
    ∧ (∀ d, (s.core k).dump = some d → d.read.length ≤ 4096 →
      ∃ t, exec (.cairnDumpComplete c) s = .next t ∧ t.get CAIRN_DUMP_CTRL_BUSY k = 0 ∧ (t.core k).dump = none
        ∧ t.get CAIRN_DUMP_CTRL_DUMPS k = (s.get CAIRN_DUMP_CTRL_DUMPS k + 1) % 2 ^ 16
        ∧ (∀ n < 4096, Mem.readLE t.stewardMem (d.dest + 64 + 8 * n) 8
            = if d.read.length ≤ n then (s.cairnRecord k n).toNat else Mem.readLE s.stewardMem (d.dest + 64 + 8 * n) 8)
        ∧ Mem.readLE t.stewardMem d.dest 4 = 0x444E5243
        ∧ Mem.readLE t.stewardMem (d.dest + 60) 4 = (crc32c (Mem.bytes t.stewardMem d.dest 60)).toNat
        ∧ (∀ x, x < d.dest ∨ d.dest + 32832 ≤ x → Mem.byte t.stewardMem x = Mem.byte s.stewardMem x)
        ∧ { t with regs := s.regs, cores := s.cores, stewardMem := s.stewardMem } = s
        ∧ t.core k = { s.core k with dump := none } ∧ (∀ j, j ≠ k → t.core j = s.core j)
        ∧ State.sameBits [(CAIRN_DUMP_CTRL_BUSY, k), (CAIRN_DUMP_CTRL_DUMPS, k)] s t)

/-! ### Pod memory at its homes and ports -/

/-- Pod operations at a core store (R208, R210, R211, R212, R213, R223, R231, R317): a load answers with the bytes there; a store
writes its bytes and is answered; an atomic new to its stream stores its result and answers the old word; a copy's read sends the
bytes on as the write of its destination; a message new to its stream writes its vector and adds one to its cairn; what the home
refuses changes nothing and is answered with the reason. CAIRN_ADD, new to its stream, reaches its cairn, saturating (R41, R180, R182); a
repeated one does not; both are answered, but for a completion add.
The model's choices in it: log entries 7, 22. -/
def Obligations.HomesServeTheCoreStore : Prop :=
  ∀ (r : Req) (k o : Nat) (s : State),
    let h := s.core k
    let w (a n : Nat) (l : List Byte) (g : Core) : Prop :=
      ∀ x, Mem.byte g.store x = if a ≤ x ∧ x < a + n then l.getD (x - a) 0 else Mem.byte h.store x
    (∀ p ∈ ([(.load8 r, .load8, 8), (.load512 r, .load512, 512)] : List (Instr × Opc × Nat)),
      s.servesStore ⟨p.2.1, false, r⟩ k o → h.badWords o p.2.2 = [] →
        ∃ t, exec p.1 s = .next t ∧ t.answered r .done 0 (Mem.bytes h.store o p.2.2) ∧ h.sameFiles [] (t.core k)
          ∧ h.sameMemories (t.core k))
    ∧ (∀ p ∈ ([(.store8 r, .store8, 8), (.store512 r, .store512, 512), (.copyWrite r, .copyWrite, r.data.length)]
        : List (Instr × Opc × Nat)),
      s.servesStore ⟨p.2.1, false, r⟩ k o → r.data.length = p.2.2 →
        ∃ t, exec p.1 s = .next t ∧ w o p.2.2 r.data (t.core k) ∧ (∃ data, t.answered r .done 0 data) ∧ h.sameFiles [] (t.core k))
    ∧ (s.servesStore ⟨.atomic, false, r⟩ k o → r.data = [] → h.badWords o 8 = [] →
        (s.windowPass (podSite r.address) 0 r.stream.toNat r.seq).1 = true →
        let old := Mem.word h.store o
        let new := match r.aop.toNat with
          | 0 => old + r.operand | 1 => old &&& r.operand | 2 => old ||| r.operand | 3 => old ^^^ r.operand
          | 4 => BitVec.ofNat 64 (min old.toNat r.operand.toNat) | 5 => BitVec.ofNat 64 (max old.toNat r.operand.toNat)
          | 6 => BitVec.ofInt 64 (min old.toInt r.operand.toInt) | 7 => BitVec.ofInt 64 (max old.toInt r.operand.toInt)
          | 8 => r.operand | 9 => if old = r.compare then r.operand else old | _ => old
        ∃ t, exec (.atomic r) s = .next t ∧ w o 8 (toLE 8 new.toNat) (t.core k) ∧ t.answered r .done 0 (toLE 8 old.toNat)
          ∧ h.sameFiles [] (t.core k))
    ∧ (s.servesStore ⟨.copyRead, false, r⟩ k o → h.badWords o r.length.toNat = [] →
        ∃ t, exec (.copyRead r) s = .next t ∧ h.sameMemories (t.core k)
          ∧ Msg.request ⟨.copyWrite, false, { r with address := r.aux, aux := 0, data := Mem.bytes h.store o r.length.toNat }⟩
              ∈ t.out)
    ∧ (s.servesStore ⟨.msg, false, r⟩ k o → r.data.length = 512 → ¬ (32 ≤ r.stream.toNat % 64 ∧ r.stream.toNat % 64 < 48) →
        (s.windowPass (podSite r.address) 0 r.stream.toNat r.seq).1 = true →
        ∃ t, exec (.msgArrival r) s = .next t ∧ w o 512 r.data (t.core k) ∧ t.answered r .done 0 []
          ∧ ((t.core k).cairn r.cairn.toNat).count = (if (h.cairn r.cairn.toNat).count = 0xFFFFFFFF then 0xFFFFFFFF
              else (h.cairn r.cairn.toNat).count + 1))
    ∧ (∀ i opc code, (i, opc) ∈ ([(.load8 r, .load8), (.load512 r, .load512), (.store8 r, .store8), (.store512 r, .store512),
          (.atomic r, .atomic), (.copyRead r, .copyRead), (.copyWrite r, .copyWrite)] : List (Instr × Opc)) →
        s.atWork ⟨opc, false, r⟩ → s.targetCore r.address = none → (podSite r.address ≠ 13 ∨ s.sitePresent 13 = false) →
        s.homeRefusal ⟨opc, false, r⟩ = some code → s.answersPort r →
        ∃ t, exec i s = .next t ∧ t.answered r .refused code [] ∧ t.cores = s.cores ∧ t.stackMem = s.stackMem ∧ t.regs = s.regs)
    ∧ (∀ (completion : Bool) (j n : Nat),
        let op : HomeOp := ⟨.cairnAdd, completion, r⟩
        let site := podSite r.address
        let k := s.logicalCore site j
        let h := s.core k
        let amount := r.operand.toNat % 2 ^ 32
        let new := (s.windowPass site (if completion then 1 else 0) r.stream.toNat r.seq).1
        s.atWork op → site < 4 → s.windowOf site (podOffset r.address) = .cairn j n →
        s.gate site j = .pass → s.get CORE_PWR_RUNG k < 3 → s.homeRefusal op = none → s.answersPort r →
        r.data = [] →
          ∃ t, exec (.cairnAdd r completion) s = .next t
            ∧ ((t.core k).cairn n).count = (if new = false then (h.cairn n).count
                else if 2 ^ 32 ≤ (h.cairn n).count.toNat + amount then 0xFFFFFFFF else (h.cairn n).count + BitVec.ofNat 32 amount)
            ∧ (∀ m, m ≠ n → (t.core k).cairn m = h.cairn m) ∧ h.sameFiles [] (t.core k)
            ∧ (completion = false → t.answered r .done 0 []) ∧ (completion = true → t.out = s.out.erase (.request op)))

/-- A discarded PATOM (R225), at a core store or a stack: it answers the old word that its original answered, if that original is among
the 64 most recent of its stream at that home, and 0xDEAD_DEAD_DEAD_DEAD with an atomic-history record otherwise; no byte changes. One
that is new puts its old word at the head of those 64. -/
def Obligations.DiscardedAtomics : Prop :=
  ∀ (r : Req) (k o m : Nat) (s : State),
    let op : HomeOp := ⟨.atomic, false, r⟩
    let site := podSite r.address
    let w := s.windowOf site (podOffset r.address)
    let past (t : State) : List (BitVec 32 × Word) := SMap.get t.history (historyKey site r.stream.toNat) []
    let original := (past s).find? (fun x => x.1 == r.seq)
    let new := (s.windowPass site 0 r.stream.toNat r.seq).1
    s.servesStore op k o ∨ (w = .stack m o ∧ s.atWork op ∧ s.homeRefusal op = none ∧ s.answersPort r) →
      (∀ x, new = false → original = some x → ∃ t, exec (.atomic r) s = .next t ∧ t.answered r .done 0 (toLE 8 x.2.toNat)
        ∧ t.cores = s.cores ∧ t.stackMem = s.stackMem ∧ past t = past s)
      ∧ (new = false → original = none → ∃ t, exec (.atomic r) s = .next t ∧ t.answered r .done 0 (toLE 8 0xDEADDEADDEADDEAD)
        ∧ t.cores = s.cores ∧ t.stackMem = s.stackMem ∧ past t = past s
        ∧ ∃ e ∈ t.events.drop s.events.length, e.cls = 4 ∧ e.code = 2 ∧ e.d0 = r.stream.zeroExtend 64 ∧ e.d1 = r.seq.zeroExtend 64)
      ∧ (∀ b, new = true → r.data = [] → allBytes (s.readHome w 8 site).1 = some b →
        ∃ t, exec (.atomic r) s = .next t ∧ t.answered r .done 0 b ∧ past t = ((r.seq, BitVec.ofNat 64 (leNat b)) :: past s).take 64)

/-- Responses at the port (R97, R209, R211, R217, R232, R235, R237, R317, R399): done gives a load its data and a store its completion add;
refused faults the core with POD_REFUSED at the operation's PC; an expired timer outside the full class gives the load poison
words; hold asks nothing; a marked response halves the stream's limit, down to 16, once in a microsecond. A send slot is released by
sending its operation under the stream's next number.
The model's choices in it: log entry 25. -/
def Obligations.PortsTakeResponses : Prop :=
  ∀ (c : CoreRef) (r : Resp) (seq : BitVec 32) (ch : Fin 16) (s : State),
    let k := coreNum c
    let h := s.core k
    let u := s.arrived (.response r)
    let mine := ∀ x ∈ s.unitSends, ¬ (r.stream.toNat = s.device * 64 + x.unit ∧ r.seq = x.seq)
    (mine → r.mark = false → r.status = .hold → exec (.podResponse c r) s = .next u)
    ∧ (mine → r.status = .hold → r.mark = true → h.lastMark ≠ s.uptime + 1 →
        ∃ t, exec (.podResponse c r) s = .next t ∧ t.get STREAM_PACE_LIMIT k = max 16 (s.get STREAM_PACE_LIMIT k / 2)
          ∧ t.get STREAM_PACE_MARKS k = min 0xFFFFFFFF (s.get STREAM_PACE_MARKS k + 1)
          ∧ t.core k = { h with lastMark := s.uptime + 1 } ∧ State.sameBits [(STREAM_PACE_LIMIT, k), (STREAM_PACE_MARKS, k)] s t)
    ∧ (∀ o, mine → r.mark = false → r.status = .done → h.lookup r.seq.toNat = .op o → (o.kind = .pld ∨ o.kind = .pldv ∨ o.kind = .patom) →
        exec (.podResponse c r) s = .next (u.giveBack k o.id r.data))
    ∧ (∀ o, mine → r.mark = false → r.status = .done → h.lookup r.seq.toNat = .op o → (o.kind = .pst ∨ o.kind = .pstv) →
        exec (.podResponse c r) s = .next ((u.dropOp k o.id).ownAdd k o.cairn 1 (o.seq.getD 0)))
    ∧ (∀ o, mine → r.mark = false → r.status = .refused → h.lookup r.seq.toNat = .op o → h.st = .running → s.get CORE_FAULT_CODE k = 0 →
        ∃ t, exec (.podResponse c r) s = .next t ∧ (t.core k).st = .faulted ∧ t.get CORE_FAULT_CODE k = 0x0A
          ∧ t.get CORE_FAULT_DETAIL k = r.code.toNat + o.pc % 2 ^ 16 * 65536 ∧ (∀ x ∈ (t.core k).unacked, x.id ≠ o.id))
    ∧ (h.lookup seq.toNat = .none → exec (.responseTimerExpiry c seq) s = .next s)
    ∧ (∀ o, h.lookup seq.toNat = .op o → s.fullClass = false → o.kind = .pld →
        ∃ t, exec (.responseTimerExpiry c seq) s = .next t
          ∧ (t.core k).unacked = h.unacked.map (fun x => if x.id = o.id then { x with back := some (toLE 8 0xDEADDEADDEADDEAD) } else x))
    ∧ (∀ o rest, h.slots = o :: rest → o.kind ≠ .attn → o.af = false → h.fences = [] → (∀ n < 16, (h.copy n).status ≠ 1) →
        h.unackedCount < min 4096 (s.get STREAM_PACE_LIMIT k) →
        ∃ t, exec (.sendSlotRelease c) s = .next t ∧ (t.core k).slots = rest
          ∧ (t.core k).unacked = h.unacked ++ [{ o with seq := some (s.get POD_SEQ_NEXT k) }]
          ∧ t.get POD_SEQ_NEXT k = (s.get POD_SEQ_NEXT k + 1) % 2 ^ 32
          ∧ t.out = s.out ++ [.request (s.opMsg k o (s.get POD_SEQ_NEXT k))] ∧ h.sameFiles [] (t.core k) ∧ h.sameMemories (t.core k))
    ∧ ((h.copy ch.val).status ≠ 1 → exec (.copyComplete c ch) s = .next s)
    ∧ (let y := h.copy ch.val
       y.status = 1 → y.started = true → y.flight = none → y.sent = y.len → y.ck = 0 → y.lost = false → y.aborted = false →
       y.srcDead = false → y.dstDead = false → y.badData = false → podSite y.dst < 4 →
        ∃ t, exec (.copyComplete c ch) s = .next t ∧ ((t.core k).copy ch.val).status = 2 ∧ ((t.core k).copy ch.val).reason = 0
          ∧ t.out = s.out ++ [.request (addMsg (podDevice y.dst) (podSite y.dst) (podOffset y.dst / 0x4000000 % 8) y.cairn 1
              (s.stream k) y.seq y.outing true)] ∧ t.events = s.events ∧ s.onlyCore k [] { t with out := s.out })
    ∧ ∃ t, exec (.streamLimitRaise c) s = .next t ∧ t.get STREAM_PACE_LIMIT k = min 4096 (s.get STREAM_PACE_LIMIT k + 64)
        ∧ s.onlyFields [(STREAM_PACE_LIMIT, k)] t

/-- The timers and windows of the pod's homes and gateways (R228, R229, R235): an operation held at a site is answered with a hold
response; a window that held nothing closes; one that held operations sends one operation with the sum of their amounts for
each word, and opens again.
The model's choices in it: log entry 5. -/
def Obligations.HomesHoldAndCombine : Prop :=
  ∀ (site : Fin 16) (stream : BitVec 12) (seq : BitVec 32) (line : BitVec 64) (s : State),
    let named (o : HomeOp) : Bool := o.req.stream == stream && o.req.seq == seq
    (∀ o, (s.heldAt site.val).find? named = some o →
      ∃ t, exec (.homeHoldTimer site stream seq) s = .next t ∧ t.answered o.req .hold 0 [] ∧ { t with out := s.out } = s)
    ∧ ((s.heldAt site.val).find? named = none → exec (.homeHoldTimer site stream seq) s = .next s)
    ∧ (s.combining.all (fun w => w.line != line) = true → exec (.combineWindowClose line) s = .next s)
    ∧ (∀ w, s.combining = [w] → w.line = line → w.held = [] →
        exec (.combineWindowClose line) s = .next { s with combining := [] })
    ∧ (∀ w o l, s.combining = [w] → w.line = line → w.held = o :: l → (s.combined.filter (fun x => x.unit == w.unit)).length < 4096 →
        let n := SMap.get s.streamSeq w.unit 0
        let sum (i : Nat) : Nat :=
          ((w.held.filter (fun x => x.req.address.toNat % 64 / 8 == i)).map (fun x => x.req.operand.toNat)).sum
            % (if o.opc = .cairnAdd then 2 ^ 32 else 2 ^ 64)
        ∃ t q, exec (.combineWindowClose line) s = .next t ∧ t.combining = [{ w with held := [] }]
          ∧ t.combined = s.combined ++ [⟨w.unit, n, w.held⟩] ∧ t.out = s.out ++ [.request q] ∧ q.opc = o.opc ∧ q.req.address = line
          ∧ q.req.seq = BitVec.ofNat 32 n ∧ q.req.stream = BitVec.ofNat 12 (s.device * 64 + w.unit)
          ∧ (∀ i < 8, leNat ((q.req.data.drop (8 * i)).take 8) = sum i) ∧ t.cores = s.cores ∧ t.regs = s.regs)

/-- Registers of pod memory, and REGISTER_WRITE (R15, R17, R18, R19, R21, R206, R207, R226, R236, R493, R496, R498): each register's
own command does what a whole write at its address does; a narrower write is discarded and recorded, and so is one at an
offset that no table lists; a narrow write of steward memory lands. A hart's store outside every region, and an access that no die
answers, fault the hart, the access fault's cause and address kept, its pc at the handler.
The model's choices in it: log entries 11, 17. -/
def Obligations.RegisterWritesAndPodRegisters : Prop :=
  ∀ (c : CoreRef) (stack : Fin 8) (n : Fin 90) (v : BitVec 64) (hart : Fin 16) (addr : BitVec 48) (write : Bool) (s : State),
    let k := coreNum c
    let pos := 0x10000000000 + k / 9 * 0x100000000 + k % 9 * 0x10000000
    let g := stack.val * 128 + n.val
    let faulted (cause : Nat) : Hart := { s.hart hart.val with
      mepc := (s.hart hart.val).pc, mcause := BitVec.ofNat 64 cause, mtval := BitVec.ofNat 64 addr.toNat
      mpie := (s.hart hart.val).mie, mie := false, mpp := (s.hart hart.val).mode, mode := 3
      pc := (s.hart hart.val).mtvec &&& ~~~3 }
    let at8 (a : Nat) : Instr := .registerWrite ⟨none, BitVec.ofNat 48 a⟩ .b8 v
    (s.get MODULE_PWR_RUNG 0 ≠ 5 → s.power.shed = false →
      exec (at8 (pos + 0x4110020)) s = exec (.srSeedVWrite c v) s ∧ exec (at8 (pos + 0x4110028)) s = exec (.srSeedMWrite c v) s
      ∧ exec (at8 (pos + 0x4110070)) s = exec (.podSeqWrite c v) s
      ∧ (∀ size a, size ≠ AccessSize.b8 → (a = pos + 0x4110020 ∨ a = pos + 0x4110070) →
          ∃ t, exec (.registerWrite ⟨none, BitVec.ofNat 48 a⟩ size v) s = .next t ∧ t.regs = s.regs ∧ t.cores = s.cores
            ∧ s.recorded t 1 2 0 (k / 9) (k % 9) 0x3FF (BitVec.ofNat 64 a) v 0)
      ∧ (∃ t, exec (at8 (pos + 0x4110020)) s = .next t ∧ t.get SR_SEED_V_SEED k = v.toNat % 2 ^ 32
          ∧ t.get SR_STATE_STATE_V k = (if v.toNat % 2 ^ 32 = 0 then 0x9E3779B9 else v.toNat % 2 ^ 32)
          ∧ s.onlyFields [(SR_SEED_V_SEED, k), (SR_STATE_STATE_V, k)] t)
      ∧ ∃ t, exec (at8 (pos + 0x5000000)) s = .next t ∧ t.regs = s.regs ∧ t.cores = s.cores
          ∧ s.recorded t 1 1 0 (k / 9) (k % 9) 0x3FF (BitVec.ofNat 64 (pos + 0x5000000)) v 0)
    ∧ (∀ size, 0x80000000 ≤ addr.toNat → addr.toNat + 8 ≤ 0x84000000 →
        ∃ t, exec (.registerWrite ⟨none, addr⟩ size v) s = .next t
          ∧ (∀ x, Mem.byte t.stewardMem x = if addr.toNat ≤ x ∧ x < addr.toNat + accessBytes size
              then BitVec.ofNat 8 (v.toNat / 256 ^ (x - addr.toNat)) else Mem.byte s.stewardMem x)
          ∧ { t with stewardMem := s.stewardMem } = s)
    ∧ (∀ size, (s.hart hart.val).mode = 3 → locate addr.toNat ≠ .outside →
        exec (.registerWrite ⟨some hart, addr⟩ size v) s = exec (.registerWrite ⟨none, addr⟩ size v) s)
    ∧ (∀ size, (s.hart hart.val).mode = 3 → locate addr.toNat = .outside →
        ∃ t, exec (.registerWrite ⟨some hart, addr⟩ size v) s = .next t ∧ t.hart hart.val = faulted 7 ∧ { t with steward := s.steward } = s)
    ∧ ((s.core k).st = .stopped → s.unacked k = 0 →
        ∃ t, exec (.podSeqWrite c v) s = .next t ∧ t.get POD_SEQ_NEXT k = v.toNat % 2 ^ 32 ∧ s.onlyFields [(POD_SEQ_NEXT, k)] t)
    ∧ ((s.core k).st = .running ∨ s.unacked k ≠ 0 → exec (.podSeqWrite c v) s = .next (s.regEventAt 1 .POD_SEQ k v))
    ∧ (n.val * 2 ^ 30 < s.capacity stack.val → v.toNat % 1024 < 256 ∨ v.toNat % 1024 = 0x3FF →
        ∃ t, exec (.granuleOwnerWrite stack n v) s = .next t ∧ t.get GRANULE_OWNER_OWNER g = v.toNat % 1024
          ∧ t.get GRANULE_OWNER_SHARED_READ g = v.toNat / 1024 % 2
          ∧ s.onlyFields [(GRANULE_OWNER_OWNER, g), (GRANULE_OWNER_SHARED_READ, g)] t)
    ∧ (s.capacity stack.val ≤ n.val * 2 ^ 30 → exec (.granuleOwnerWrite stack n v) s = .next (s.regEventAt 1 .GRANULE_OWNER g v))
    ∧ (∃ t, exec (.podCfgWrite v) s = .next t ∧ t.get POD_CFG_FULL_CLASS 0 = v.toNat % 2 ∧ s.onlyFields [(POD_CFG_FULL_CLASS, 0)] t)
    ∧ (0x10000000000 ≤ addr.toNat → addr.toNat < 0x11000000000 → (s.hart hart.val).mode = 3 →
        ∃ t, exec (.registerAccessTimeout hart addr write) s = .next t
          ∧ t.hart hart.val = faulted (if write then 7 else 5) ∧ { t with steward := s.steward } = s)
    ∧ (∀ a, 0x10000000000 ≤ a → a < 0x11000000000 → s.translate (s.hart hart.val) addr.toNat write = .at_ a →
        ∃ t, exec (.registerAccessTimeout hart addr write) s = .next t
          ∧ t.hart hart.val = (s.hart hart.val).trap (if write then 7 else 5) (BitVec.ofNat 64 addr.toNat)
          ∧ { t with steward := s.steward } = s)
    ∧ (addr.toNat < 0x10000000000 → (s.hart hart.val).mode = 3 → exec (.registerAccessTimeout hart addr write) s = .next s)

/-! ### Reductions and attention -/

/-- A contribution at its context (R241, R242, R245): an unarmed context and an absent site refuse it; a killed one drops it and answers; at a complete
chunk it waits for the next round; at an armed context the first contribution of a round is taken exactly, and each further one is folded into the accumulator lane by lane.
The model's choices in it: log entries 44, 45. -/
def Obligations.ContributionsAreFolded : Prop :=
  ∀ (r : Req) (n k : Nat) (s : State),
    let i := 64 * podSite r.address + n
    let t := Red.context i
    let c := s.chunkOf t k
    let v : Vec := BitVec.ofNat 4096 (leNat r.data)
    let sg (x : Nat) : Int := if x < 2 ^ 31 then x else (x : Int) - 2 ^ 32
    let clamp (x : Int) : Nat := if x < -2147483648 then 0x80000000 else if 2147483647 < x then 0x7FFFFFFF
      else (x % 4294967296).toNat
    podDevice r.address = s.device → s.windowOf (podSite r.address) (podOffset r.address) = .red n k → s.answersPort r →
      (s.get RED_STATUS_STATE i = 0 ∨ s.sitePresent (podSite r.address) = false →
        ∃ u, exec (.redcContribution r) s = .next u ∧ u.answered r .refused 3 [] ∧ s.onlyMessages u)
      ∧ (s.get RED_STATUS_STATE i = 2 → s.sitePresent (podSite r.address) = true →
        ∃ u, exec (.redcContribution r) s = .next u ∧ u.answered r .done 0 [] ∧ u.get RED_STATUS_STALE_DROPPED i = 1 ∧ u.reds = s.reds)
      ∧ (s.get RED_STATUS_STATE i = 1 → s.sitePresent (podSite r.address) = true → s.get RED_CFG_EXPECT i ≤ c.count →
          r.outing.toNat = s.get RED_CFG_OUTING i → s.redAdmits t r.stream.toNat = true →
        ∃ u, exec (.redcContribution r) s = .next u ∧ u.cores = s.cores
          ∧ u.chunkOf t k = { c with waiting := c.waiting ++ [⟨.redc, false, r⟩] })
      ∧ (s.get RED_STATUS_STATE i = 1 → s.sitePresent (podSite r.address) = true → r.outing.toNat = s.get RED_CFG_OUTING i →
          s.redAdmits t r.stream.toNat = true → c.count < s.get RED_CFG_EXPECT i → s.get RED_CFG_ORDERED i = 0 →
          (s.windowPass (podSite r.address) 0 r.stream.toNat r.seq).1 = true →
        (c.count = 0 → s.get RED_CFG_TYPE i ≠ 1 →
          ∃ u, exec (.redcContribution r) s = .next u ∧ u.answered r .done 0 [] ∧ u.cores = s.cores
            ∧ u.chunkOf t k = { c with count := 1, acc := lanesOf v } ∧ ∀ j, j ≠ k → u.chunkOf t j = s.chunkOf t j)
        ∧ (∀ p ∈ ([(0, fun a b => clamp (sg a + sg b)), (1, fun a b => if sg a < sg b then b else a),
              (2, fun a b => if sg b < sg a then b else a), (3, fun a b => a &&& b), (4, fun a b => a ||| b),
              (5, fun a b => a ^^^ b)] : List (Nat × (Nat → Nat → Nat))),
            c.count ≠ 0 → s.get RED_CFG_TYPE i = 2 → s.get RED_CFG_OP i = p.1 → c.acc.length = 128 → (∀ x ∈ c.acc, x < 2 ^ 32) →
            ∃ u, exec (.redcContribution r) s = .next u ∧ u.answered r .done 0 [] ∧ u.cores = s.cores
              ∧ (u.chunkOf t k).count = c.count + 1
              ∧ ∀ l < 128, (u.chunkOf t k).acc.getD l 0 = p.2 (c.acc.getD l 0) (lane v l)))

/-- Results of a round (R245, R247, R248, R250): an incomplete chunk gives none; a complete one of a context whose targets lie on one
remote device goes there as one message that names them all and adds ADD to the cairn of each, one of a stage to its home as a
contribution of the gateway's stream, or with that home dead nowhere but into a record (R252); the chunk's next round begins, and
DELIVERED counts what went out.
The model's choices in it: log entry 45. -/
def Obligations.RoundsAreDelivered : Prop :=
  ∀ (site : Fin 4) (ctx : Fin 64) (stage : Fin 256) (chunk : Fin 1024) (s : State),
    let i := 64 * site.val + ctx.val
    let k := chunk.val
    let t := Red.context i
    let g := Red.stage stage.val
    let n := stage.val
    (s.get RED_STATUS_STATE i ≠ 1 ∨ (s.chunkOf t k).count < s.get RED_CFG_EXPECT i →
      exec (.reductionRoundDelivery site ctx chunk) s = .next s)
    ∧ (∀ d u : Nat, d < 64 → u < 32 → d ≠ s.device → s.get RED_STATUS_STATE i = 1 → 0 < s.get RED_CFG_EXPECT i →
        s.get RED_CFG_EXPECT i ≤ (s.chunkOf t k).count → s.get RED_CFG_ORDERED i = 0 → s.get RED_CFG_TYPE i ≠ 1 →
        s.get RED_CFG_OP i ≠ 7 → s.word .RED_DELIVER i = BitVec.ofNat 64 (2 ^ d) →
        (s.get RED_UNITS_DELIVER_UNITS i).testBit u = true → (∀ x < u, (s.get RED_UNITS_DELIVER_UNITS i).testBit x = false) →
        s.unitUnacked (32 + site.val) + 32 ≤ 4096 → (s.chunkOf t k).waiting = [] →
        ∃ w q, exec (.reductionRoundDelivery site ctx chunk) s = .next w ∧ w.out = s.out ++ [.request ⟨.msg, true, q⟩]
          ∧ q.address = podAddr d (u / 8) (u % 8 * 0x4000000 + s.get RED_OUT_OUT_OFFSET i * 512 + k * 512)
          ∧ q.aux = BitVec.ofNat 64 (s.get RED_UNITS_DELIVER_UNITS i) ∧ q.seq = BitVec.ofNat 32 (SMap.get s.streamSeq (32 + site.val) 0)
          ∧ q.cairn = BitVec.ofNat 12 (s.get RED_OUT_CAIRN i) ∧ q.operand = BitVec.ofNat 64 (s.get RED_CFG_ADD i)
          ∧ q.outing = BitVec.ofNat 10 (s.get RED_CFG_OUTING i) ∧ q.stream = BitVec.ofNat 12 (s.device * 64 + 32 + site.val)
          ∧ q.data = toLE 512 (ofLanes (s.chunkOf t k).acc).toNat ∧ w.chunkOf t k = RedChunk.empty ∧ w.cores = s.cores
          ∧ State.sameBits [(RED_STATUS_DELIVERED, i)] s w)
    ∧ (s.get RED_STAGE_STATUS_STATE n ≠ 1 ∨ (s.chunkOf g k).count < s.get RED_STAGE_CFG_EXPECT n →
        exec (.stageForward stage chunk) s = .next s)
    ∧ (s.get RED_STAGE_STATUS_STATE n = 1 → 0 < s.get RED_STAGE_CFG_EXPECT n →
        s.get RED_STAGE_CFG_EXPECT n ≤ (s.chunkOf g k).count → s.get RED_STAGE_CFG_ORDERED n = 0 → s.get RED_STAGE_CFG_TYPE n ≠ 1 →
        s.get RED_STAGE_CFG_OP n ≠ 7 → s.unitUnacked 48 < 4096 → (s.chunkOf g k).waiting = [] →
      (s.deviceDead (s.get RED_STAGE_CFG_HOME_DEVICE n) = true →
        ∃ w, exec (.stageForward stage chunk) s = .next w ∧ s.recorded w 5 3 2 4 14 (s.get RED_STAGE_CFG_OUTING n) 0 0 0
          ∧ w.chunkOf g k = RedChunk.empty ∧ w.cores = s.cores ∧ w.out = s.out)
      ∧ (s.deviceDead (s.get RED_STAGE_CFG_HOME_DEVICE n) = false →
        ∃ w q, exec (.stageForward stage chunk) s = .next w ∧ w.out = s.out ++ [.request ⟨.redc, false, q⟩]
          ∧ q.address = podAddr (s.get RED_STAGE_CFG_HOME_DEVICE n) (s.get RED_STAGE_CFG_HOME_SITE n)
              (0x6000000000000 + s.get RED_STAGE_CFG_HOME_CTX n * 0x80000 + k * 0x200)
          ∧ q.stream = BitVec.ofNat 12 (s.device * 64 + 48) ∧ q.seq = BitVec.ofNat 32 (SMap.get s.streamSeq 48 0)
          ∧ q.outing = BitVec.ofNat 10 (s.get RED_STAGE_CFG_OUTING n)
          ∧ q.data = toLE 512 (ofLanes (s.chunkOf g k).acc).toNat ∧ w.chunkOf g k = RedChunk.empty ∧ w.cores = s.cores
          ∧ State.sameBits [(RED_STAGE_STATUS_DELIVERED, n)] s w))

/-- Arming, disarming and killing (R251, R253, R254): a write to an armed context is recorded and changes nothing, KILL apart; one that
fails an arm check leaves it unarmed with ARM_ERROR naming the first check, and a record; one that passes arms it with no round
begun. ARMED = 0 drops its rounds. KILL answers each incomplete chunk with poison and leaves it KILLED.
The model's choices in it: log entry 46. -/
def Obligations.ReductionsAreArmed : Prop :=
  ∀ (site : Fin 4) (ctx : Fin 64) (v : BitVec 64) (s : State),
    let i := 64 * site.val + ctx.val
    let t := Red.context i
    let armed := (v ||| 0x8000000000000000) &&& 0xBFFFFFFFFFFFFFFF
    let u := ((RegName.RED_CFG.fields.filter (fun f => f.acc == .rw)).foldl
      (fun (u : State) f => u.put f i (armed.toNat / 2 ^ f.lo % 2 ^ (f.hi - f.lo + 1))) (s.setWord .RED_CFG i 0)).put RED_CFG_ARMED i 0
    (s.get RED_STATUS_STATE i = 1 →
      exec (.reductionArm (.context site ctx) v) s = .next (s.regEventAt 3 .RED_CFG i armed))
    ∧ (s.get RED_STATUS_STATE i ≠ 1 → ∀ code, u.armError t armed.toNat = some code →
      exec (.reductionArm (.context site ctx) v) s = .next ((u.put RED_STATUS_ARM_ERROR i code).raise 5 2 0 4 site.val
        (u.get RED_CFG_OUTING i) 0 0 0))
    ∧ (s.get RED_STATUS_STATE i ≠ 1 → u.armError t armed.toNat = none →
      ∃ w, exec (.reductionArm (.context site ctx) v) s = .next w ∧ w.get RED_STATUS_STATE i = 1 ∧ w.get RED_CFG_ARMED i = 1
        ∧ (∀ k < 1024, w.chunkOf t k = RedChunk.empty) ∧ w.get RED_CFG_EXPECT i ≠ 0 ∧ w.get RED_CFG_OUTING i < 256
        ∧ { w with regs := s.regs, reds := s.reds, events := s.events } = s)
    ∧ (s.redWaiting t = [] →
      ∃ w, exec (.reductionDisarm (.context site ctx) v) s = .next w ∧ w.get RED_STATUS_STATE i = 0 ∧ w.get RED_CFG_ARMED i = 0
        ∧ (∀ k < 1024, w.chunkOf t k = RedChunk.empty) ∧ w.cores = s.cores
        ∧ State.sameBits [(RegName.RED_CFG.whole, i), (RED_STATUS_STATE, i)] s w)
    ∧ (s.get RED_STATUS_STATE i ≠ 1 →
      exec (.reductionKill (.context site ctx) v) s = .next (s.regEventAt 3 .RED_CFG i (v ||| 0xC000000000000000)))
    ∧ (s.get RED_STATUS_STATE i = 1 → s.word .RED_DELIVER i = 0 → s.get RED_CFG_CHUNKS_M1 i = 0 →
        (s.chunkOf t 0).count < s.get RED_CFG_EXPECT i → s.redWaiting t = [] →
      ∃ w, exec (.reductionKill (.context site ctx) v) s = .next w ∧ w.get RED_STATUS_STATE i = 2 ∧ w.get RED_STATUS_POISONED i = 1
        ∧ w.chunkOf t 0 = RedChunk.empty ∧ w.out = s.out
        ∧ State.sameBits [(RED_STATUS_DELIVERED, i), (RED_STATUS_POISONED, i), (RED_STATUS_STATE, i)] s w)

/-- Attention near memory (R165, R168, R169, R171, R173): a holder queues a segment whose entries it holds and answers, refuses one of
another outing, and leaves one waiting while its queue is full; the oldest segment leaves its queue and its partial is sent; a
partial is folded into its context once, and one with no tokens leaves the rows; when nothing is awaited the completion record and
the add are made.
The model's choices in it: log entries 23, 43. -/
def Obligations.AttentionSegmentsAndMerges : Prop :=
  ∀ (r : Req) (m : Fin 8) (c : CoreRef) (ctx : Fin 16) (p : PartialMsg) (s : State),
    let k := coreNum c
    let h := s.core k
    let g := Segment.read (Mem.setBytes [] 0 r.data) 64
    let a := AttnReq.read (Mem.setBytes [] 0 r.data) 0
    let q := SMap.get s.attnQueue m.val []
    let site := 4 + m.val
    let arrives := podDevice r.address = s.device ∧ podSite r.address = site ∧ s.answersPort r
    let fits := podOffset g.pte + 8 * g.entries ≤ s.capacity m.val ∧ s.sitePresent site = true
    (arrives → q.length < 64 → fits → s.holderOk { g with site := site } a r.outing.toNat = true →
      ∃ t, exec (.attnSegment r) s = .next t ∧ SMap.get t.attnQueue m.val [] = q ++ [r] ∧ t.answered r .done 0 []
        ∧ s.onlyMessages { t with attnQueue := s.attnQueue })
    ∧ (arrives → 64 ≤ q.length → exec (.attnSegment r) s = .next s)
    ∧ (arrives → q.length < 64 → fits → s.holderOk { g with site := site } a r.outing.toNat = false →
      ∃ t, exec (.attnSegment r) s = .next t ∧ t.answered r .refused 6 [] ∧ s.onlyMessages t)
    ∧ (arrives → q.length < 64 → s.sitePresent site = false →
      ∃ t, exec (.attnSegment r) s = .next t ∧ t.answered r .refused 3 [] ∧ s.onlyMessages t)
    ∧ (q = [] → exec (.segmentPartialComplete m) s = .next s)
    ∧ (∀ rest, q = r :: rest → g.entries = 0 →
      ∃ t x, exec (.segmentPartialComplete m) s = .next t ∧ SMap.get t.attnQueue m.val [] = rest
        ∧ t.out = s.out ++ [.partialRecord r.stream.toNat (r.aux.toNat % 16) x] ∧ x.tokens = 0 ∧ x.skipped = 0 ∧ x.flags = 0
        ∧ x.segment = BitVec.ofNat 12 r.operand.toNat
        ∧ (∀ row ∈ x.rows, row.take 2 = [0xFF800000, 0]) ∧ { t with attnQueue := s.attnQueue, out := s.out } = s)
    ∧ (SMap.get h.merges ctx.val none = none →
      exec (.partialRecord c ctx p) s = .next (s.arrived (.partialRecord (s.stream k) ctx.val p)))
    ∧ (∀ x, SMap.get h.merges ctx.val none = some x → x.waiting = [p.segment.toNat] → x.mode % 2 = 0 → x.spilled = [] →
        p.rows = List.replicate x.rows (0xFF800000 :: 0 :: List.replicate x.dim 0) → x.merged.length = x.rows →
        (∀ y ∈ x.merged, y.nan = none) →
      ∃ t y, exec (.partialRecord c ctx p) s = .next t ∧ SMap.get (t.core k).merges ctx.val none = some y ∧ y.waiting = []
        ∧ y.merged = x.merged ∧ y.tokens = (x.tokens + p.tokens.toNat) % 2 ^ 64 ∧ y.flags = x.flags ||| p.flags.toNat % 8
        ∧ y.status = (if p.flags.getLsbD 3 then max x.status 3 else x.status) ∧ h.sameMemories (t.core k) ∧ h.sameFiles [] (t.core k))
    ∧ (SMap.get h.merges ctx.val none = none → exec (.attnCompletion c ctx) s = .next s)
    ∧ (∀ x, SMap.get h.merges ctx.val none = some x → x.missing + x.spilled.length < x.waiting.length →
        exec (.attnCompletion c ctx) s = .next s)
    ∧ (∀ x, SMap.get h.merges ctx.val none = some x → x.waiting.length ≤ x.missing → x.spilled = [] → x.lost = false →
        h.st ≠ .fenced → x.status < 256 → x.reason < 256 →
      ∃ t, exec (.attnCompletion c ctx) s = .next t ∧ SMap.get (t.core k).merges ctx.val none = none
        ∧ Mem.readLE (t.core k).store (x.request + 0x30) 1 = x.status
        ∧ Mem.readLE (t.core k).store (x.request + 0x31) 1 = (if x.status = 1 then x.reason else 0)
        ∧ Mem.readLE (t.core k).store (x.request + 0x38) 8 = x.tokens % 2 ^ 64
        ∧ ((s.windowPass (k / 9) 1 (s.stream k) (BitVec.ofNat 32 x.seq)).1 = true →
            ((t.core k).cairn x.cairn).count = (if 2 ^ 32 ≤ (h.cairn x.cairn).count.toNat + x.add % 2 ^ 32 then 0xFFFFFFFF
              else (h.cairn x.cairn).count + BitVec.ofNat 32 x.add))
        ∧ (x.status = 1 → ∀ a, a < x.request + 0x30 ∨ x.request + 0x40 ≤ a → Mem.byte (t.core k).store a = Mem.byte h.store a)
        ∧ h.sameFiles [] (t.core k))

/-! ### The Saddle, its planes and rings, calibration, lasers -/

/-- Flits of the Saddle (R37, R260, R262-R265, R269, R271): the flit on λk at a site comes from the site k before it; a good one enters
the pair's pool at its place in stripe order, and of a doubled one only the first good copy does; a damaged one is counted and asked
for again, and what follows it is discarded until it comes again; a replay request marks what is to go again; a credit back lets go of
the flit it was for; a multicast flit that waits takes its reservation. λ0 carries nothing.
The model's choices in it: log entry 50. -/
def Obligations.SaddleFlitsLand : Prop :=
  ∀ (site src dst : Fin 16) (plane : Fin 40) (k : Fin 16) (slot : BitVec 64) (f : BitVec 1024) (cls : Fin 4) (s : State),
    let b := site.val
    let a := (b + 16 - k.val) % 16
    let x := s.pair a b
    let p := plane.val
    let n := slot.toNat
    let y := s.pair src.val dst.val
    let q := SMap.get s.ridge.launch src.val []
    let place := 32 * n + s.get PLANE_STATUS_POSITION p
    let bare := s.get PLANE_STATUS_STATE p = 2 ∧ x.skip.contains p = false ∧ x.sentOn n p = none
    let reads := k ≠ 0 ∧ s.sitePresent b = true ∧ x.half n p = none ∧ x.failed = none
    let good := flitGood f = true ∧ flitKind f = 1
    let enters (at_ : Nat) (z : SadPair) : Prop := ∃ l r, x.pool = l ++ r ∧ z.pool = l ++ (at_, f) :: r ∧ (∀ g ∈ l, g.1 ≤ at_)
      ∧ ∀ g ∈ r.head?, at_ < g.1
    let others (t : State) := ∀ i j, i < 16 → j < 16 → ¬ (i = a ∧ j = b) → t.pair i j = s.pair i j
    (k = 0 ∨ s.sitePresent b = false ∨ s.usesPlane a b p n = false → exec (.saddleFlit site plane k slot f) s = .next s)
    ∧ (reads → bare → good →
      ∃ t, exec (.saddleFlit site plane k slot f) s = .next t ∧ enters place (t.pair a b) ∧ (t.pair a b).seen = x.seen
        ∧ (t.pair a b).failed = none ∧ others t ∧ { t with regs := s.regs, ridge := s.ridge } = s
        ∧ State.sameBits [(LAND_STATUS_OCCUPANCY, b)] s t)
    ∧ (∀ z o, reads → good → x.sentOn n p = some z → z.planes.erase p = [o] →
      ∃ t, exec (.saddleFlit site plane k slot f) s = .next t ∧ enters z.place (t.pair a b)
        ∧ (t.pair a b).seen = x.seen ++ [⟨n, o, true⟩] ∧ others t)
    ∧ (∀ h, k ≠ 0 → s.sitePresent b = true → good → x.half n p = some h → h.passed = true → x.failed = none →
      ∃ t, exec (.saddleFlit site plane k slot f) s = .next t ∧ t.pair a b = { x with seen := x.seen.erase h } ∧ others t
        ∧ { t with ridge := s.ridge } = s)
    ∧ (reads → bare → flitGood f = false → flitKind f ≠ 0 →
      ∃ t, exec (.saddleFlit site plane k slot f) s = .next t
        ∧ t.pair a b = { x with failed := some place, asked := true, resume := none }
        ∧ t.get PLANE_STATUS_FLIT_ERRORS p = min 0xFFFFFFFF (s.get PLANE_STATUS_FLIT_ERRORS p + 1)
        ∧ t.get LAND_STATUS_REPLAYS b = min 0xFFFFFFFF (s.get LAND_STATUS_REPLAYS b + 1)
        ∧ { t with regs := s.regs, ridge := s.ridge } = s
        ∧ State.sameBits [(PLANE_STATUS_FLIT_ERRORS, p), (LAND_STATUS_REPLAYS, b)] s t)
    ∧ (∀ m, k ≠ 0 → s.sitePresent b = true → bare → good → x.failed = some m → m ≤ place → x.resume = none →
      exec (.saddleFlit site plane k slot f) s = .next s)
    ∧ (∀ m l r, y.asked = true → y.failed = some m → y.sent = l ++ r → (∀ z ∈ l, z.place < m) → (∀ z ∈ r.head?, m ≤ z.place) → r ≠ [] →
      ∃ t, exec (.saddleReplayRequest src dst) s = .next t
        ∧ t.pair src.val dst.val = { y with asked := false, resend := r.length, resume := none } ∧ { t with ridge := s.ridge } = s)
    ∧ (y.asked = false → ∃ t, exec (.saddleReplayRequest src dst) s = .next t ∧ t.pair src.val dst.val = y ∧ { t with ridge := s.ridge } = s)
    ∧ (∃ t, exec (.creditReturn src dst cls 0) s = .next t ∧ { t with ridge := s.ridge } = s
        ∧ (y.freed.getD cls.val 0 = 0 → t.pair src.val dst.val = y)
        ∧ ∀ i l g r, y.freed.getD cls.val 0 = i + 1 → y.sent = l ++ g :: r → flitVc g.flit = cls.val →
            (∀ z ∈ l, flitVc z.flit ≠ cls.val) →
            (t.pair src.val dst.val).freed.getD cls.val 0 = i ∧ (t.pair src.val dst.val).sent = l ++ r
              ∧ (t.pair src.val dst.val).pool = y.pool)
    ∧ (∀ n, ∃ t, exec (.creditReturn src dst cls n) s = .next t
        ∧ exec (.creditReturn src dst cls (n + 1)) s = exec (.creditReturn src dst cls 0) t)
    ∧ (q = [] → exec (.multicastReserve src cls) s = .next s)
    ∧ (∀ w, q = [w] → flitVc w.flit = cls.val → 1 < (flitDests src.val w.flit).length →
      ∃ t, exec (.multicastReserve src cls) s = .next t ∧ SMap.get t.ridge.launch src.val [] = [{ w with reserved := true }]
        ∧ { t with ridge := s.ridge } = s)

/-- Planes, the loop test, rings and identity checks (R262, R277, R278, R281, R283, R285, R286, R287, R289): what each command shows in
PLANE_STATUS, LOOP_TEST and RING_STATUS, and what a mismatch begins: it is counted and recorded, the pair skips the position, and the
landing ring searches.
The model's choices in it: log entries 28, 50. -/
def Obligations.PlanesAndRings : Prop :=
  ∀ (site : Fin 16) (plane : Fin 40) (k : Fin 16) (st : Fin 5) (position : Fin 32) (partner : Fin 40) (v : BitVec 64)
    (lit : Bool) (errors : BitVec 32) (delay : BitVec 12) (temp : Int) (heater : BitVec 16) (f : BitVec 1024) (s : State),
    let p := plane.val
    let d := site.val
    let a := (d + 16 - k.val) % 16
    let land := ringIx d p true k.val
    let launch := ringIx a p false k.val
    let r : RingRef := ⟨site, plane, true, k⟩
    let state := s.get RING_STATUS_STATE land
    let identity := flitPayload f 0 2 = p * 16 + k.val
    let phase := s.get TUNE_STATUS_PHASE 0
    let calm := s.unlocked d p k.val = false ∧ s.waitsLate p = false
      ∧ (ringNeighbours land).all (fun j => s.get RING_STATUS_STATE j != 1) = true
    let mismatched (t : State) : Prop := t.get TUNE_STATUS_MISMATCHES 0 = min 0xFFFF (s.get TUNE_STATUS_MISMATCHES 0 + 1)
      ∧ t.get TUNE_STATUS_RESEARCHES 0 = min 0xFFFF (s.get TUNE_STATUS_RESEARCHES 0 + 1) ∧ t.get RING_STATUS_STATE land = 1
      ∧ (t.ringX land).step = 1 ∧ (t.pair a d).skip.contains p = true
      ∧ s.recorded t 6 1 0 4 d 0x3FF (BitVec.ofNat 64 d) (BitVec.ofNat 64 p) (BitVec.ofNat 64 k.val)
    (∃ t, exec (.planeStateChange plane st position partner) s = .next t ∧ t.get PLANE_STATUS_STATE p = st.val
      ∧ t.get PLANE_STATUS_POSITION p = position.val ∧ t.get PLANE_STATUS_PARTNER p = (if st.val = 3 then partner.val else 0x3F)
      ∧ (∀ i < 16, t.get LOOP_TEST_STATUS i
          = if st.val = 0 ∧ s.get LOOP_TEST_STATUS i = 1 ∧ s.get LOOP_TEST_PLANE i = p then 3 else s.get LOOP_TEST_STATUS i)
      ∧ s.onlyFields ([(PLANE_STATUS_STATE, p), (PLANE_STATUS_POSITION, p), (PLANE_STATUS_PARTNER, p)]
          ++ (List.range 16).map (fun i => (LOOP_TEST_STATUS, i))) t)
    ∧ (∃ t, exec (.loopTestComplete site lit errors delay) s = .next t
      ∧ (s.get LOOP_TEST_STATUS d ≠ 1 → t = s)
      ∧ (s.get LOOP_TEST_STATUS d = 1 → t.get LOOP_TEST_STATUS d = (if lit then 2 else 3) ∧ t.get LOOP_TEST_ERRORS d = errors.toNat
          ∧ (lit = true → t.get LOOP_TEST_DELAY d = delay.toNat)
          ∧ s.onlyFields [(LOOP_TEST_STATUS, d), (LOOP_TEST_ERRORS, d), (LOOP_TEST_DELAY, d)] t))
    ∧ (s.get LOOP_TEST_STATUS d ≠ 1 → v.toNat / 2 ^ 10 % 64 < 40 →
      ∃ t, exec (.loopTestGo site v) s = .next t ∧ t.get LOOP_TEST_PLANE d = v.toNat / 2 ^ 10 % 64
        ∧ t.get LOOP_TEST_LOG_SLOTS d = v.toNat / 2 % 32 ∧ t.get LOOP_TEST_ERRORS d = 0
        ∧ t.get LOOP_TEST_DELAY d = s.get LOOP_TEST_DELAY d
        ∧ t.get LOOP_TEST_STATUS d = (if s.noLight d (v.toNat / 2 ^ 10 % 64) then 3 else 1)
        ∧ s.onlyFields [(RegName.LOOP_TEST.whole, d)] t)
    ∧ (∃ t, exec (.identityFlitDue site plane k) s = .next t
      ∧ (s.sitePresent d = true → k ≠ 0 → s.get PLANE_STATUS_STATE p = 1 →
          (t.ringX (ringIx d p false k.val)).sent = s.ticks * 35 / 512 + 1)
      ∧ (s.sitePresent d = true → k ≠ 0 → s.get PLANE_STATUS_STATE p = 2 ∨ s.get PLANE_STATUS_STATE p = 3 →
          p ∈ (t.pair d ((d + k.val) % 16)).due) ∧ { t with ridge := s.ridge } = s)
    ∧ (s.sitePresent d = true → k ≠ 0 → s.get PLANE_STATUS_STATE p ≠ 0 → flitGood f = false →
      ∃ t, exec (.idleFlit site plane k f) s = .next t
        ∧ t.get PLANE_STATUS_FLIT_ERRORS p = min 0xFFFFFFFF (s.get PLANE_STATUS_FLIT_ERRORS p + 1)
        ∧ t.get LAND_STATUS_REPLAYS d = min 0xFFFFFFFF (s.get LAND_STATUS_REPLAYS d + 1)
        ∧ s.onlyFields [(PLANE_STATUS_FLIT_ERRORS, p), (LAND_STATUS_REPLAYS, d)] t)
    ∧ (s.sitePresent d = true → k ≠ 0 → s.get PLANE_STATUS_STATE p ≠ 0 → flitGood f = true → flitKind f = 0 →
        (state = 3 → s.get RING_STATUS_STATE launch ≠ 2 → identity → exec (.idleFlit site plane k f) s = .next s)
        ∧ (state = 2 → s.unlocked d p k.val = false → identity → (s.ringX land).hits < 3 →
          ∃ t, exec (.idleFlit site plane k f) s = .next t ∧ (t.ringX land).hits = (s.ringX land).hits + 1
            ∧ { t with ridge := s.ridge } = s)
        ∧ (state = 2 → s.unlocked d p k.val = false → identity → 3 ≤ (s.ringX land).hits →
          ∃ t, exec (.idleFlit site plane k f) s = .next t ∧ t.get RING_STATUS_STATE land = 3 ∧ (t.ringX land).step = 0
            ∧ { t with regs := s.regs, ridge := s.ridge } = s
            ∧ State.sameBits [(RING_STATUS_STATE, land), (RING_STATUS_STATE, launch)] s t)
        ∧ (state = 2 ∨ state = 3 → calm → ¬ identity → (s.ringX land).step = 0 → s.get PLANE_STATUS_STATE p ≠ 3 →
          ∃ t, exec (.idleFlit site plane k f) s = .next t ∧ mismatched t))
    ∧ (k ≠ 0 → state = 2 → calm → (s.ringX land).step = 0 → s.get PLANE_STATUS_STATE p ≠ 3 →
      ∃ t, exec (.identityTimeout site plane k) s = .next t ∧ mismatched t)
    ∧ (s.sitePresent d = false ∨ s.get PLANE_STATUS_STATE p = 0 ∨ state = 4 ∧ phase = 6 → exec (.ringSearchComplete r temp [heater]) s = .next s)
    ∧ (s.sitePresent d = true → s.get PLANE_STATUS_STATE p ≠ 0 → state ≠ 4 ∨ phase ≠ 6 → s.ridge.searches = [] →
      ∃ t, exec (.ringSearchComplete r temp [heater]) s = .next t ∧ t.get RING_STATUS_STATE land = 2
        ∧ t.get RING_STATUS_SEARCHES land = min 0xFF (s.get RING_STATUS_SEARCHES land + 1)
        ∧ t.get RING_STATUS_HEATER land = heater.toNat ∧ (t.ringX land).hits = 0)
    ∧ (state ≠ 3 → exec (.ringTrackUpdate r heater temp lit) s = .next s)
    ∧ (state = 3 → ∃ t, exec (.ringTrackUpdate r heater temp false) s = .next t ∧ t.get RING_STATUS_HEATER land = heater.toNat
        ∧ (t.ringX land).low = 0 ∧ t.get RING_STATUS_STATE land = 3)
    ∧ (6 ≤ phase → ∀ failed, exec (.ridgeStartupPhase ⟨temp, failed⟩) s = .next s)
    ∧ (∀ failed, phase = 0 ∨ phase = 2 ∨ phase = 3 ∨ phase = 4 ∧ failed = [] →
        ∃ t, exec (.ridgeStartupPhase ⟨temp, failed⟩) s = .next t ∧ t.get TUNE_STATUS_PHASE 0 = phase + 1 ∧ s.onlyFields [(TUNE_STATUS_PHASE, 0)] t)
    ∧ (phase = 1 → ∀ failed, ∃ t, exec (.ridgeStartupPhase ⟨temp, failed⟩) s = .next t ∧ t.get TUNE_STATUS_PHASE 0 = 2
        ∧ (∀ b < 8, (s.laser b).present = true → t.get LASER_GROUP_STATE b = 3)
        ∧ ∀ q < 40, (s.laser (q / 8)).present = true → t.get PLANE_STATUS_STATE q = 1)
    ∧ (phase = 5 → ∀ failed, ∃ t, exec (.ridgeStartupPhase ⟨temp, failed⟩) s = .next t ∧ t.get TUNE_STATUS_PHASE 0 = 6
        ∧ (∀ q < 32, (s.laser (q / 8)).present = true → t.get PLANE_STATUS_STATE q = 2 ∧ t.get PLANE_STATUS_POSITION q = q)
        ∧ ∀ q, 32 ≤ q → q < 40 → t.get PLANE_STATUS_STATE q = 0)

/-- Calibration (R290, R291, R292, R294, R295, R296, R297): an item that may not run, or whose turn it is not, does not start; one
that may is RUNNING and, a fabric plane, WITHDRAWN; band-gap references too far apart end the run with code 3. A completed run stores its set, counts, and gives the
plane back; an abandoned one is TIMEOUT. CAL_GAP opens a gap and closes it; a gap expires; an overdue item is recorded once.
The model's choices in it: log entries 28, 50. -/
def Obligations.CalibrationRuns : Prop :=
  ∀ (id : BitVec 16) (temp : Int) (primary check : Nat) (values : List (BitVec 16)) (plane : Fin 40) (v : BitVec 64) (s : State),
    let n := id.toNat
    let x := s.item n
    let ended (i result : Nat) (t : State) : Prop := t.get CAL_ITEM_STATUS_RESULT i = result ∧ t.get CAL_ITEM_STATUS_RUNNING i = 0
      ∧ t.get CAL_ITEM_STATUS_RUNS i = min 0xFFFF (s.get CAL_ITEM_STATUS_RUNS i + 1)
      ∧ t.word .CAL_ITEM_TIME i = BitVec.ofNat 64 s.uptime
      ∧ t.get CAL_ITEM_STATUS_FAILS i = (if result = 1 then s.get CAL_ITEM_STATUS_FAILS i
          else min 0xFF (s.get CAL_ITEM_STATUS_FAILS i + 1))
    let fed (p : Nat) : Prop := s.get LASER_GROUP_STATE (p / 8) = 3 ∨ s.get LASER_GROUP_STATE (p / 8) = 5
    (s.mayRun n temp = false → exec (.calRunStart id temp primary check) s = .next s)
    ∧ (∀ m y u, (m, y) ∈ s.ridge.items → y.temp = some u → m ≠ n → s.refreshes n = false → s.refreshes m = false →
      s.mayRun m u = true → s.goesBefore n temp m u = false → exec (.calRunStart id temp primary check) s = .next s)
    ∧ (s.mayRun n temp = true → s.hasTurn n temp = true → n < 32 → 200 * (max primary check - min primary check) ≤ primary →
      ∃ t, exec (.calRunStart id temp primary check) s = .next t ∧ t.get CAL_ITEM_STATUS_RUNNING n = 1
        ∧ t.get PLANE_STATUS_STATE n = 4 ∧ t.ridge.running = s.ridge.running ++ [n]
        ∧ t.events = s.events)
    ∧ (s.mayRun n temp = true → s.hasTurn n temp = true → n < 32 → primary < 200 * (max primary check - min primary check) →
      ∃ t, exec (.calRunStart id temp primary check) s = .next t ∧ ended n 3 t ∧ t.get BANDGAP_STATUS_KP 0 = 1
        ∧ t.get PLANE_STATUS_STATE n = 2)
    ∧ (s.ridge.running.contains n = false → exec (.calRunComplete id temp (some values)) s = .next s)
    ∧ (s.ridge.running = [n] → n < 32 → s.get PLANE_STATUS_STATE n = 4 → fed n → x.sets = [] → -512 ≤ temp → temp < 512 →
      ∃ t, exec (.calRunComplete id temp (some values)) s = .next t ∧ ended n 1 t ∧ t.ridge.running = []
        ∧ (t.item n).sets = [⟨temp, s.uptime, values.map BitVec.toNat⟩] ∧ t.get CAL_ITEM_STATUS_SETS n = 1
        ∧ t.lastTemp n = temp / 4 ∧ t.get PLANE_STATUS_STATE n = 2 ∧ t.events = s.events)
    ∧ (s.ridge.running = [n] → n < 32 → s.get PLANE_STATUS_STATE n = 4 →
      ∃ t, exec (.calRunComplete id temp none) s = .next t ∧ ended n 5 t ∧ (t.item n).sets = x.sets
        ∧ s.recorded t 6 5 0 4 0xFF 0x3FF 0 0 0)
    ∧ (s.ridge.running.contains plane.val = false → exec (.calRunTimeout plane) s = .next s)
    ∧ (s.ridge.running = [plane.val] → plane.val < 32 → s.get PLANE_STATUS_STATE plane.val = 4 → fed plane.val →
      ∃ t, exec (.calRunTimeout plane) s = .next t ∧ ended plane.val 2 t ∧ t.ridge.running = []
        ∧ t.get PLANE_STATUS_STATE plane.val = 2)
    ∧ exec (.calGapWrite v) s = .next { s with ridge := { s.ridge with
        gap := if v.toNat % 2 ^ 32 = 0 then none else some (s.uptime, v.toNat % 2 ^ 32) } }
    ∧ exec .calGapExpiry s = .next { s with ridge := { s.ridge with gap := none } }
    ∧ (s.itemExists n = true → x.overdue = false → s.flag CAL_ITEM_STATUS_RUNNING n = false → s.agedBy n 2 = true →
      ∃ t, exec (.overdue id) s = .next t ∧ (t.item n).overdue = true ∧ s.recorded t 6 6 0 4 0xFF 0x3FF 0 0 0 ∧ t.regs = s.regs)
    ∧ (x.overdue = true ∨ s.agedBy n 2 = false → exec (.overdue id) s = .next s)

/-- Laser groups (R298-R304, R307-R309, R512): the levels a fade reaches, a HANDOVER that asks the standby, its warm-up, the overlap
and its end, the self-test, a lost signal, and a module put in, taken out or unlatched. Every state a group takes is shown.
The model's choices in it: log entry 51. -/
def Obligations.LaserGroups : Prop :=
  ∀ (bay g : Fin 8) (fade : BitVec 8) (clean : Bool) (site : Fin 16) (plane : Fin 40) (k : Fin 16) (s : State),
    let b := bay.val
    let st (n : Nat) := s.get LASER_GROUP_STATE n
    let n := g.val
    let x := s.laser b
    let rec_ (t : State) (code sev bay : Nat) : Prop := s.recorded t 7 code sev 16 bay 0x3FF 0 0 0
    (st b = 3 → x.dark = false → s.get LASER_GROUP_FADE b < 10 → fade.toNat < 10 →
      ∃ t, exec (.fadeMeasurement bay fade) s = .next t ∧ t.get LASER_GROUP_FADE b = fade.toNat ∧ s.onlyFields [(LASER_GROUP_FADE, b)] t)
    ∧ (st b = 3 → x.dark = false → s.get LASER_GROUP_FADE b < 10 → 10 ≤ fade.toNat → fade.toNat < 30 →
      ∃ t, exec (.fadeMeasurement bay fade) s = .next t ∧ t.get LASER_GROUP_FADE b = fade.toNat ∧ rec_ t 1 0 b)
    ∧ (n < 4 → st n = 3 → st 4 = 1 → (s.laser 4).present = true → (s.laser n).tookBack = none → s.ridge.running = [] →
        s.get LASER_GROUP_STANDS_FOR 4 = 0xF →
      ∃ t, exec (.handover g) s = .next t ∧ t.get LASER_GROUP_STATE 4 = 2 ∧ t.get LASER_GROUP_STANDS_FOR 4 = n
        ∧ t.get LASER_GROUP_STATE n = 3 ∧ (∀ i < 8, t.get PLANE_STATUS_STATE (32 + i) = 1) ∧ t.events = s.events)
    ∧ (st b ≠ 3 → exec (.handover bay) s = .next (s.regEventAt 3 .LASER_GROUP b 0x80))
    ∧ (n < 4 → st 4 = 2 → st n = 3 → s.get LASER_GROUP_STANDS_FOR 4 = n →
      ∃ t, exec (.warmupComplete 4) s = .next t ∧ t.get LASER_GROUP_STATE 4 = 4 ∧ t.get LASER_GROUP_STATE n = 4
        ∧ (∀ i < 8, t.get PLANE_STATUS_STATE (8 * n + i) = 3 ∧ t.get PLANE_STATUS_STATE (32 + i) = 3
            ∧ t.get PLANE_STATUS_PARTNER (8 * n + i) = 32 + i ∧ t.get PLANE_STATUS_PARTNER (32 + i) = 8 * n + i
            ∧ t.get PLANE_STATUS_POSITION (32 + i) = s.get PLANE_STATUS_POSITION (8 * n + i)))
    ∧ (st b ≠ 2 → exec (.warmupComplete bay) s = .next s ∧ exec (.warmupTimeout bay) s = .next s)
    ∧ (st b = 2 → ∃ t, exec (.warmupTimeout bay) s = .next t ∧ t.get LASER_GROUP_STATE b = 7 ∧ t.get LASER_GROUP_STANDS_FOR b = 0xF
        ∧ ∀ i < 8, b < 5 → t.get PLANE_STATUS_STATE (8 * b + i) = 0)
    ∧ (n < 4 → st 4 = 4 → s.get LASER_GROUP_STANDS_FOR 4 = n → (s.laser n).takeback = false → (s.laser n).condemned = false →
        (s.laser n).latchOpen = false →
      ∃ t, exec (.overlapEnd 4) s = .next t ∧ t.get LASER_GROUP_STATE 4 = 5 ∧ t.get LASER_GROUP_STATE n = 6
        ∧ (∀ i < 8, t.get PLANE_STATUS_STATE (32 + i) = 2 ∧ t.get PLANE_STATUS_STATE (8 * n + i) = 4)
        ∧ t.get LASER_GROUP_HANDOVERS n = min 0xFFFF (s.get LASER_GROUP_HANDOVERS n + 1) ∧ rec_ t 5 0 n)
    ∧ (st b ≠ 4 → exec (.overlapEnd bay) s = .next s)
    ∧ (st b ≠ 6 ∨ x.dark = true → exec (.laserSelfTest bay clean) s = .next s)
    ∧ (st b = 6 → x.dark = false → s.get LASER_GROUP_FADE b < 10 → x.passes < 2 →
      ∃ t, exec (.laserSelfTest bay true) s = .next t ∧ (t.laser b).passes = x.passes + 1 ∧ t.get LASER_GROUP_STATE b = 6
        ∧ { t with ridge := s.ridge } = s)
    ∧ (st b = 6 → x.dark = false → s.get LASER_GROUP_TESTS_FAILED b < 7 →
      ∃ t, exec (.laserSelfTest bay false) s = .next t ∧ (t.laser b).passes = 0 ∧ t.get LASER_GROUP_STATE b = 6
        ∧ t.get LASER_GROUP_TESTS_FAILED b = s.get LASER_GROUP_TESTS_FAILED b + 1)
    ∧ (st b = 6 → x.dark = false → s.get LASER_GROUP_TESTS_FAILED b = 7 →
      ∃ t, exec (.laserSelfTest bay false) s = .next t ∧ t.get LASER_GROUP_STATE b = 7 ∧ rec_ t 4 1 b)
    ∧ (k = 0 ∨ s.planeUp plane.val = false → exec (.lossOfSignal site plane k) s = .next s)
    ∧ (k ≠ 0 → s.get PLANE_STATUS_STATE plane.val = 2 → st (plane.val / 8) = 5 →
      ∃ t, exec (.lossOfSignal site plane k) s = .next t
        ∧ t.get PLANE_STATUS_FLIT_ERRORS plane.val = min 0xFFFFFFFF (s.get PLANE_STATUS_FLIT_ERRORS plane.val + 2)
        ∧ t.get PLANE_STATUS_STATE plane.val = 4
        ∧ (∀ y, (s.pair ((site.val + 16 - k.val) % 16) site.val).lostOn plane.val = some y →
            (t.pair ((site.val + 16 - k.val) % 16) site.val).asked = true
            ∧ (t.pair ((site.val + 16 - k.val) % 16) site.val).failed = some y.place))
    ∧ (x.present = true → exec (.laserInsertion bay) s = .next s)
    ∧ (x.present = false → ∃ t, exec (.laserInsertion bay) s = .next t ∧ (t.laser b).present = true ∧ t.get LASER_GROUP_STATE b = 6
        ∧ t.get LASER_GROUP_FADE b = 0 ∧ t.get LASER_GROUP_TESTS_FAILED b = 0 ∧ ∀ i < 8, b < 5 → t.get PLANE_STATUS_STATE (8 * b + i) = 4)
    ∧ (x.present = false → exec (.laserRemoval bay) s = .next s)
    ∧ (x.present = true → (st b = 1 ∨ st b = 6 ∨ st b = 7) →
      ∃ t, exec (.laserRemoval bay) s = .next t ∧ (t.laser b).present = false ∧ t.get LASER_GROUP_STATE b = 0
        ∧ t.get LASER_GROUP_STANDS_FOR b = 0xF ∧ ∀ i < 8, b < 5 → t.get PLANE_STATUS_STATE (8 * b + i) = 0)
    ∧ ((st b = 1 ∨ st b = 6 ∨ st b = 7) → ∃ t, exec (.latchOpen bay) s = .next t ∧ (t.laser b).latchOpen = true ∧ (t.laser b).dark = true
        ∧ t.get LASER_GROUP_STATE b = st b ∧ ∀ i < 8, b < 5 → t.get PLANE_STATUS_STATE (8 * b + i) = 0)

/-! ### Casob ports and the Spur -/

/-- Casob flits (R314, R318-R320, R325, R381): what each does to the port end that receives it, its credits, replay buffer and LINK
command; and those that change nothing.
The model's choices in it: log entry 53. -/
def Obligations.CasobFlits : Prop :=
  ∀ (p : PortRef) (ridge : Bool) (f : Flit) (s : State),
    let ix := portIx p
    let e := endOf ridge
    let x := s.portEnd ix e
    let y := x.absorb f
    let up := s.portUp ix = true
    let good := flitGood f = true
    let state (t : State) := t.get CASOB_STATUS_STATE ix
    let link (n : Nat) := s.portExists ix = true ∧ good ∧ flitKind f = 2 ∧ flitPayload f 0 1 = n
    let z := s.portEnd ix (1 - e)
    let own := if ridge then CASOB_STATUS_BAD_RIDGE else CASOB_STATUS_BAD_DIE
    let naks (i : Instr) : Prop := ∃ t, exec i s = .next t ∧ s.onlyEnd ix e [] t
      ∧ t.portEnd ix e = (if x.nak then x else { x with nak := true }.putLink 1 x.expect)
    let comes (l : List (Fld × Nat)) (t : State) : Prop :=
      { t with regs := s.regs, ridge := { t.ridge with ends := s.ridge.ends } } = s ∧ State.sameBits l s t
        ∧ t.portEnd ix (1 - e) = { z with wire := z.wire.erase f } ∧ ∀ j d, d < 2 → j ≠ ix → t.portEnd j d = s.portEnd j d
    let named := flitPayload f 2 2 % 1024
    let again := if y.again.1 = named then y.again.2 + 1 else 1
    let bad := if ridge then CASOB_STATUS_BAD_DIE else CASOB_STATUS_BAD_RIDGE
    let mask := flitPayload f 4 4 % 2 ^ 17
    let ahead := (flitLseq f + 1024 - x.expect) % 1024
    let held := SMap.get s.ridge.launch p.site.val []
    (¬ up → exec (.casobDataFlit p ridge f) s = .next s ∧ exec (.casobIdleFlit p ridge f) s = .next s
      ∧ exec (.forcedIdleFlit p ridge) s = .next s)
    ∧ (up → ¬ good → naks (.casobDataFlit p ridge f) ∧ naks (.casobIdleFlit p ridge f))
    ∧ (up → good → flitKind f = 1 → flitLseq f = z.next → z.maySend (flitVc f) = false → exec (.casobDataFlit p ridge f) s = .next s)
    ∧ (up → good → flitKind f = 1 → flitLseq f ≠ z.next →
        (0 < ahead → ahead < 512 → naks (.casobDataFlit p ridge f))
        ∧ (512 ≤ ahead → exec (.casobDataFlit p ridge f) s = .next s)
        ∧ (ahead = 0 → ridge = false ∨ p.site.val = 13 ∨ flitDests p.site.val f = [] → x.old.contains f = false →
          ∃ t, exec (.casobDataFlit p ridge f) s = .next t ∧ (t.portEnd ix e).expect = (x.expect + 1) % 1024
            ∧ (t.portEnd ix e).nak = false ∧ (t.portEnd ix e).unacked = y.unacked
            ∧ (t.portEnd ix e).back = bumpAt x.back (flitCvc f) (fun n => (n + flitCcnt f) % 2 ^ 32)
            ∧ (t.portEnd ix e).freed = bumpAt x.freed (flitVc f) (fun n => (n + 1) % 2 ^ 32)
            ∧ (t.portEnd ix e).owed = bumpAt x.owed (flitVc f) (· + 1) ∧ t.ridge.pairs = s.ridge.pairs ∧ t.regs = s.regs
            ∧ SMap.get t.ridge.launch p.site.val [] = held)
        ∧ (ahead = 0 → ridge = true → p.site.val ≠ 13 → flitDests p.site.val f ≠ [] →
          ∃ t, exec (.casobDataFlit p ridge f) s = .next t ∧ (t.portEnd ix e).expect = (x.expect + 1) % 1024
            ∧ (t.portEnd ix e).buffer = x.buffer ++ [f] ∧ (t.portEnd ix e).freed = x.freed ∧ t.regs = s.regs
            ∧ SMap.get t.ridge.launch p.site.val [] = held ++ [⟨f, false, some ix⟩] ∧ t.ridge.pairs = s.ridge.pairs))
    ∧ (up → good → flitKind f = 0 →
        ∃ t, exec (.casobIdleFlit p ridge f) s = .next t ∧ comes [] t
          ∧ t.portEnd ix e = { y with back := (List.range 4).map (fun v => later (y.back.getD v 0) (flitPayload f (4 * v) 4)) })
    ∧ (s.portExists ix = false → exec (.nak p ridge f) s = .next s ∧ exec (.sync p ridge f) s = .next s
        ∧ exec (.remap p ridge f) s = .next s ∧ exec (.retrain p ridge f) s = .next s ∧ exec (.rateMatchIdle p ridge) s = .next s)
    ∧ (link 1 → up → (y.unacked.any (fun u => u.1 == named) || named == y.next) = true →
        (again < 8 → ∃ t, exec (.nak p ridge f) s = .next t ∧ comes [(CASOB_STATUS_REPLAYS, ix)] t
          ∧ t.get CASOB_STATUS_REPLAYS ix = min 0xFFFF (s.get CASOB_STATUS_REPLAYS ix + 1)
          ∧ t.portEnd ix e = { y.replay named with again := (named, again) })
        ∧ (8 ≤ again → ∃ t, exec (.nak p ridge f) s = .next t ∧ state t = 1 ∧ (t.portEnd ix e).again = (0, 0)
          ∧ (t.portEnd ix e).command = some (4, 0)
          ∧ t.get CASOB_STATUS_REPLAYS ix = min 0xFFFF (s.get CASOB_STATUS_REPLAYS ix + 1)))
    ∧ (link 2 → ∃ t, exec (.sync p ridge f) s = .next t ∧ comes [] t
        ∧ t.portEnd ix e = { y with command := if y.command.map (·.1) = some 2 then none else y.command })
    ∧ (link 3 → up → (y.command.map (·.1) ≠ some 3 →
          ∃ t, exec (.remap p ridge f) s = .next t ∧ comes [(bad, ix), (CASOB_STATUS_STATE, ix)] t
            ∧ t.get bad ix = mask ∧ state t = 3 ∧ t.portEnd ix e = y.putLink 3 (s.get own ix))
        ∧ (y.command.map (·.1) = some 3 →
          ∃ t, exec (.remap p ridge f) s = .next t ∧ t.get bad ix = mask ∧ t.portEnd ix e = { y with command := none }
            ∧ t.get CASOB_STATUS_WIDTH ix = min (t.widths ix).1 (t.widths ix).2
            ∧ state t = (if min (t.widths ix).1 (t.widths ix).2 = 0 then 0 else 2)))
    ∧ (link 4 → up → (y.command.map (·.1) ≠ some 4 → ∃ t, exec (.retrain p ridge f) s = .next t ∧ state t = 1
          ∧ t.portEnd ix e = { y with nak := false, command := none, again := (0, 0), wire := [] }.putLink 4 0
          ∧ { t with regs := s.regs, ridge := s.ridge } = s ∧ State.sameBits [(CASOB_STATUS_STATE, ix)] s t)
        ∧ (y.command.map (·.1) = some 4 → ∃ t, exec (.retrain p ridge f) s = .next t ∧ comes [] t
          ∧ t.portEnd ix e = { y with command := none }))
    ∧ (∃ t, exec (.linkCommandRepeat p ridge) s = .next t ∧ s.onlyEnd ix e [] t
        ∧ (x.nak = false → t.portEnd ix e = match x.command with
            | some c => x.putLink c.1 c.2
            | none => x))
    ∧ (up → ∃ t, exec (.forcedIdleFlit p ridge) s = .next t ∧ s.onlyEnd ix e [] t ∧ t.portEnd ix e = x.putIdle)
    ∧ ((∀ d < 14, s.get REF_STATUS_STATE d ≠ 1 ∧ s.get REF_STATUS_STATE d ≠ 2) → exec (.rateMatchIdle p ridge) s = .next s)
    ∧ (∀ d < 14, s.portExists ix = true → s.get REF_STATUS_STATE d = 1 ∨ s.get REF_STATUS_STATE d = 2 →
        ∃ t, exec (.rateMatchIdle p ridge) s = .next t ∧ s.onlyEnd ix e [] t ∧ t.portEnd ix e = x.putIdle)

/-- Training of Casob ports (R322-R326, R328, R330): a block naming another port leaves the port DOWN and is recorded; blocks that fail
four lanes at most train it at the width that is left, the first of a die's ports admitting the die; a level below A2 marks the
site absent; a timeout leaves it DOWN, a retry or a RETRAIN write begins again; a lane that fails in service begins a remapping.
The model's choices in it: log entry 27. -/
def Obligations.CasobPortsTrain : Prop :=
  ∀ (p : PortRef) (ridge : Bool) (lane : Fin 17) (site : Fin 14) (die rb : BitVec 160) (v : BitVec 64) (s : State),
    let ix := portIx p
    let e := endOf ridge
    let state (t : State) := t.get CASOB_STATUS_STATE ix
    let st := s.get CASOB_STATUS_STATE ix
    let level := blockField die 0xC 1
    let features := blockField die 8 4
    let dieBad := blockField die 4 4 % 2 ^ 17
    let ridgeBad := blockField rb 4 4 % 2 ^ 17
    let trains := s.portExists ix = true ∧ (st = 1 ∨ st = 4) ∧ (s.portX ix).held = false ∧ blockGood die = true ∧ blockGood rb = true
    let first := SMap.get s.ridge.firstCaps p.site.val none = none ∧ s.ridge.readmit.contains p.site.val = false
    let event (t : State) (code sev : Nat) := s.recorded t 8 code sev (siteDie p.site.val) p.port.val 0x3FF 0 0 0
    let named := v.toNat / 32 % 16 * 32 + v.toNat % 32
    let badF := if ridge then CASOB_STATUS_BAD_RIDGE else CASOB_STATUS_BAD_DIE
    (¬ trains → exec (.trainingComplete p die rb) s = .next s)
    ∧ (trains → blockField die 2 2 ≠ ix →
        ∃ t, exec (.trainingComplete p die rb) s = .next t ∧ state t = 0 ∧ t.get CASOB_STATUS_WIDTH ix = 0 ∧ event t 2 1)
    ∧ (trains → blockField die 2 2 = ix → first → level < 2 →
        ∃ t, exec (.trainingComplete p die rb) s = .next t ∧ state t = 0 ∧ (t.sitePresent p.site.val) = false
          ∧ t.get DIE_CAPS_LEVEL p.site.val = level ∧ t.get DIE_CAPS_ADMITTED p.site.val = s.get DIE_CAPS_ADMITTED p.site.val
          ∧ s.recorded t 8 5 2 (siteDie p.site.val) 0xFF 0x3FF 0 0 0)
    ∧ (trains → blockField die 2 2 = ix → first → 2 ≤ level → level < 16 → st = 1 → (s.portX ix).part = false →
        blockField die 0xD 1 % 2 = 0 → blockField rb 0xD 1 % 2 = 0 →
        4 ≤ ((List.range 16).filter (fun i => !dieBad.testBit i)).length →
        4 ≤ ((List.range 16).filter (fun i => !ridgeBad.testBit i)).length →
        ∃ t, exec (.trainingComplete p die rb) s = .next t ∧ state t = 2 ∧ t.get CASOB_STATUS_BAD_DIE ix = dieBad
          ∧ t.get CASOB_STATUS_BAD_RIDGE ix = ridgeBad ∧ t.get CASOB_STATUS_WIDTH ix = min (s.widthOf dieBad) (s.widthOf ridgeBad)
          ∧ t.get DIE_CAPS_LEVEL p.site.val = level ∧ t.get DIE_CAPS_FEATURES p.site.val = features
          ∧ t.get DIE_CAPS_ADMITTED p.site.val = 1 ∧ (t.portEnd ix 0).expect = 0 ∧ (t.portEnd ix 1).expect = 0
          ∧ (t.portEnd ix e).next = (s.portEnd ix e).unacked.length % 1024 ∧ t.events = s.events)
    ∧ (s.portExists ix = true → st = 1 ∨ st = 4 →
        ∃ t, exec (.trainingTimeout p) s = .next t ∧ state t = 0 ∧ t.get CASOB_STATUS_WIDTH ix = 0 ∧ event t 1 1)
    ∧ (st ≠ 1 → st ≠ 4 → exec (.trainingTimeout p) s = .next s)
    ∧ (s.portExists ix = true → st = 0 → (s.portX ix).held = false →
        ∃ t, exec (.portRetryTimer p) s = .next t ∧ state t = 1 ∧ { t with regs := s.regs, ridge := s.ridge } = s
          ∧ State.sameBits [(CASOB_STATUS_STATE, ix)] s t)
    ∧ (st ≠ 0 → exec (.portRetryTimer p) s = .next s)
    ∧ (s.portExists named = true → (s.portX named).held = false →
        (s.get CASOB_STATUS_STATE named ≠ 1 → s.get CASOB_STATUS_STATE named ≠ 4 →
          ∃ t, exec (.casobRetrainWrite v) s = .next t ∧ t.get CASOB_STATUS_STATE named = 1 ∧ t.get CASOB_SEL_SITE 0 = v.toNat / 32 % 16
            ∧ t.get CASOB_SEL_PORT 0 = v.toNat % 32 ∧ t.events = s.events)
        ∧ (s.get CASOB_STATUS_STATE named = 1 ∨ s.get CASOB_STATUS_STATE named = 4 →
          ∃ t, exec (.casobRetrainWrite v) s = .next t ∧ t.get CASOB_STATUS_STATE named = s.get CASOB_STATUS_STATE named
            ∧ t.get CASOB_SEL_SITE 0 = v.toNat / 32 % 16 ∧ t.get CASOB_SEL_PORT 0 = v.toNat % 32
            ∧ ∃ r, t.events = s.events ++ [r] ∧ r.cls = 1 ∧ r.code = 3))
    ∧ (s.portExists ix = true → st = 2 ∨ st = 3 →
        ∃ t, exec (.laneFail p ridge lane) s = .next t ∧ state t = 3 ∧ t.get badF ix = s.get badF ix ||| 2 ^ lane.val
          ∧ (t.portEnd ix e).command = some (3, t.get badF ix) ∧ s.onlyEnd ix e [(badF, ix), (CASOB_STATUS_STATE, ix)] t)
    ∧ (st ≠ 2 → st ≠ 3 → exec (.laneFail p ridge lane) s = .next s)
    ∧ ∃ t, exec (.partialReset site) s = .next t ∧ t.get DIE_CAPS_ADMITTED site.val = 0
        ∧ site.val ∈ t.ridge.readmit ∧ SMap.get t.ridge.firstCaps site.val none = none ∧ { t with regs := s.regs, ridge := s.ridge } = s
        ∧ ∀ q < s.portCount site.val,
          t.get CASOB_STATUS_STATE (site.val * 32 + q) = (if (s.portX (site.val * 32 + q)).held then 0 else 1)
          ∧ t.get CASOB_STATUS_WIDTH (site.val * 32 + q) = 0 ∧ t.get CASOB_STATUS_BAD_DIE (site.val * 32 + q) = 0
          ∧ t.get CASOB_STATUS_BAD_RIDGE (site.val * 32 + q) = 0 ∧ t.portEnd (site.val * 32 + q) 0 = PortEnd.reset
          ∧ (t.portX (site.val * 32 + q)).part = true

/-- The Spur and its firewall (R331, R332, R335-R338): rails up; a trip takes the site away, its ports DOWN, and is recorded; a refused
message is counted with its check and recorded, a request or an add being answered REFUSED; a passed one is restamped and sent or
waits for the rate; a request to site 13 reaches the Spur only through a window.
The model's choices in it: log entries 25, 52. -/
def Obligations.SpurAndItsFirewall : Prop :=
  ∀ (m : SpurMsg) (tag : BitVec 12) (opc : Opc) (r : Req) (flits : BitVec 16) (s : State),
    let x := s.ridge.spur
    let tripped (t : State) : Prop := t.sitePresent 13 = false ∧ t.ridge.spur = { Spur.reset with tokens := 0 }
      ∧ s.recorded t 8 6 2 4 13 0x3FF 0 0 0 ∧ ∀ p < 8, t.get CASOB_STATUS_STATE (416 + p) = 0 ∧ t.get CASOB_STATUS_WIDTH (416 + p) = 0
    let refusal : Msg := .response ⟨BitVec.ofNat 12 (s.device * 64 + 45), m.req.seq, .refused, 7, false, []⟩
    let named := podDevice r.address = s.device ∧ podSite r.address = 13 ∧ s.sitePresent 13 = true
    let open_ := (s.get SPUR_FW_CTRL_IN_MASK 0).testBit (opc.ctorIdx + 1) = true
      ∧ (List.range 8).any (fun n => s.inInWin n (opc.ctorIdx + 1) r) = true
    (s.sitePresent 13 = false → exec .spurResetRelease s = .next s ∧ exec .spurPowerTrip s = .next s
      ∧ exec .spurTrainingDeadline s = .next s ∧ exec (.spurOutboundMessage m) s = .next s)
    ∧ (s.sitePresent 13 = true →
      ∃ t, exec .spurResetRelease s = .next t ∧ t.ridge.spur = { x with rails := true, released := true } ∧ { t with ridge := s.ridge } = s)
    ∧ (s.sitePresent 13 = true → s.get DIE_CAPS_ADMITTED 13 = 0 →
      (∃ t, exec .spurPowerTrip s = .next t ∧ tripped t)
      ∧ (x.released = true → (∀ p < 8, s.get CASOB_STATUS_STATE (416 + p) = 0) → ∃ t, exec .spurTrainingDeadline s = .next t ∧ tripped t)
      ∧ (x.released = false → exec .spurTrainingDeadline s = .next s))
    ∧ (∀ c, s.sitePresent 13 = true → s.outCheck m = some c → c < 16 →
      ∃ t, exec (.spurOutboundMessage m) s = .next t ∧ t.get SPUR_FW_STATUS_LAST_CHECK 0 = c
        ∧ t.get SPUR_FW_STATUS_OUT_REFUSED 0 = min 0xFFFFFF (s.get SPUR_FW_STATUS_OUT_REFUSED 0 + 1)
        ∧ s.recorded t 8 7 0 4 13 0x3FF 0 0 0 ∧ t.out = s.out ++ (if m.vc = 3 ∨ m.vc = 0 then [refusal] else [])
        ∧ t.ridge = s.ridge)
    ∧ (s.sitePresent 13 = true → s.outCheck m = none → m.vc = 3 → m.opc = 1 → x.waiting = [] →
      (m.flits.toNat ≤ x.tokens → ∃ t n, exec (.spurOutboundMessage m) s = .next t
        ∧ t.out = s.out ++ [.request ⟨.load8, false, { m.req with
            outing := BitVec.ofNat 10 (s.get SPUR_FW_CTRL_OUTING 0), stream := BitVec.ofNat 12 (s.device * 64 + 45), seq := n }⟩]
        ∧ t.ridge.spur = { x with tokens := x.tokens - m.flits.toNat, waiting := [] } ∧ t.regs = s.regs)
      ∧ (x.tokens < m.flits.toNat → ∃ t op, exec (.spurOutboundMessage m) s = .next t ∧ t.out = s.out
        ∧ t.ridge.spur = { x with waiting := [(m.flits.toNat, op)] } ∧ t.regs = s.regs))
    ∧ (¬ named → exec (.spurInboundRequest tag opc r) s = .next s)
    ∧ (named → open_ → ∃ t, exec (.spurInboundRequest tag opc r) s = .next t ∧ t.regs = s.regs
        ∧ t.ridge.spur = { x with inbound := x.inbound ++ [⟨opc, false, r⟩], tags := x.tags ++ [tag.toNat] })
    ∧ (named → ¬ open_ → s.answersPort r → ∃ t, exec (.spurInboundRequest tag opc r) s = .next t
        ∧ t.get SPUR_FW_STATUS_IN_REFUSED 0 = min 0xFFFFFF (s.get SPUR_FW_STATUS_IN_REFUSED 0 + 1)
        ∧ t.answered r .refused 7 [] ∧ t.ridge.spur = x)
    ∧ (x.waiting = [] → ∃ t, exec (.firewallRateRelease flits) s = .next t
        ∧ t.ridge.spur = { x with tokens := min (2 ^ s.get SPUR_FW_CTRL_BURST_LOG2 0) (x.tokens + flits.toNat) }
        ∧ { t with ridge := s.ridge } = s)

/-! ### Memory stacks -/

/-- A stack's vias, retirement, scrub, refresh, layers and trims (R346, R347, R349, R352, R354, R356-R361).
The model's choices in it: log entries 19, 21, 29, 48, 49. -/
def Obligations.StacksRepairThemselves : Prop :=
  ∀ (stack : Fin 8) (layer : Fin 16) (fails : Bool) (v : BitVec 64) (c symbol : Nat) (rest : List (Nat × Nat)) (correction : Int)
      (margin : Nat) (sensors : List (Int × Int)) (power : List Nat) (base lid : Int) (s : State),
    let m := stack.val
    let x := s.stackSt m
    let i := chanIx m c
    let used := s.sparesUsed m c symbol
    let failed := let f := SMap.get x.failed (viaOf c symbol).1 []
      if f.contains (viaOf c symbol).2 then f else f ++ [(viaOf c symbol).2]
    let ch := v.toNat % 64
    let barred := s.get STACK_STATUS_STATE m = 2 ∨ 2 ≤ s.chanState m ch ∨ 8 ≤ s.retiredCount m
    let moving := s.get STACK_STATUS_MOVE_CHANNEL m
    let l := s.get SCRUB_STATUS_NEXT_LINE m
    let moves (t : State) : Prop := t.get SCRUB_STATUS_NEXT_LINE m = (if s.capacity m ≤ (l + 1) * 64 then 0 else l + 1)
      ∧ t.get SCRUB_STATUS_PASSES m = (if s.capacity m ≤ (l + 1) * 64 then (s.get SCRUB_STATUS_PASSES m + 1) % 2 ^ 32
          else s.get SCRUB_STATUS_PASSES m)
      ∧ t.stackMem = s.stackMem ∧ t.lineErr m l = none
    let n := layerIx m layer.val
    let measured := sensors.map (fun x => max x.1 x.2)
    let est := s.layerEstimate m measured power base lid
    let out (q : Nat) : Prop := 18000 < (measured.getD q 0 - est q).natAbs
    let whole (y : Int) : Nat := (BitVec.ofInt 8 (y / 6000)).toNat
    let follows (t : State) (q : Nat) (w : Int) : Prop := t.get LAYER_TEMP_MEASURED (layerIx m q) = whole (measured.getD q 0)
      ∧ t.get LAYER_TEMP_ESTIMATE (layerIx m q) = whole (est q) ∧ t.get LAYER_TEMP_WORKING (layerIx m q) = whole w
      ∧ t.get LAYER_TEMP_REFRESH (layerIx m q) = (if w < 85 * 6000 then 0 else if w < 95 * 6000 then 1 else 2)
      ∧ t.get LAYER_TEMP_THROTTLED (layerIx m q) = (if 95 * 6000 ≤ w then 1 else if w < 93 * 6000 then 0
          else s.get LAYER_TEMP_THROTTLED (layerIx m q))
    let trimmed (q : Nat) : Int := let y := (s.item (3 * 4096 + n)).value (SMap.get x.temps layer.val 0 / 1500) q
      y.1 / y.2 + correction
    let low := (s.item (3 * 4096 + n)).value (SMap.get x.temps layer.val 0 / 1500) 2
    (x.suspect = [] → exec (.viaTest stack fails) s = .next s)
    ∧ (x.suspect = (c, symbol) :: rest → c < 64 → symbol < 72 →
        (∃ t, exec (.viaTest stack false) s = .next t ∧ t.stackSt m = { x with suspect := rest } ∧ { t with stackSts := s.stackSts } = s)
        ∧ (used < 4 → ∃ t, exec (.viaTest stack true) s = .next t ∧ t.sparesUsed m c symbol = used + 1
          ∧ t.stackSt m = { x with suspect := rest }
          ∧ s.recorded t 9 1 0 (5 + m) (viaOf c symbol).1 0x3FF (BitVec.ofNat 64 (viaOf c symbol).2) 1 (BitVec.ofNat 64 (used + 1)))
        ∧ (4 ≤ used → ∃ t, exec (.viaTest stack true) s = .next t ∧ SMap.get (t.stackSt m).failed (viaOf c symbol).1 [] = failed
          ∧ t.get CHAN_STATUS_FAILED_VIAS i = min 15 (t.failedSymbols m c).length
          ∧ ((t.failedSymbols m c).length < 3 → t.chanState m c = (if s.chanState m c = 0 then 1 else s.chanState m c)
            ∧ s.recorded t 9 1 1 (5 + m) (viaOf c symbol).1 0x3FF (BitVec.ofNat 64 (viaOf c symbol).2) 2 (BitVec.ofNat 64 used))))
    ∧ (barred → ∃ t, exec (.retireGo stack v) s = .next t ∧ t.get RETIRE_CTRL_CHANNEL m = ch ∧ t.stackMem = s.stackMem
        ∧ t.stackSts = s.stackSts ∧ State.sameBits [(RETIRE_CTRL_CHANNEL, m)] s t
        ∧ ∃ r, t.events = s.events ++ [r] ∧ r.cls = 1 ∧ r.code = 3)
    ∧ (¬ barred → (s.word .STACK_RETIRED m).getLsbD ch = false →
        ∃ t, exec (.retireGo stack v) s = .next t ∧ t.get RETIRE_CTRL_CHANNEL m = ch ∧ t.retiredCount m = s.retiredCount m + 1
          ∧ t.capacity m + s.channelMb * 1000000 = s.capacity m
          ∧ t.get STACK_STATUS_CAPACITY_MB m = (64 - t.retiredCount m) * s.channelMb ∧ t.get STACK_STATUS_RETIRED m = t.retiredCount m
          ∧ (∀ a < t.capacity m, Mem.byte (t.stack m) a = Mem.byte (s.stack m) a)
          ∧ (∀ q < 90, t.capacity m ≤ q * 2 ^ 30 → t.word .GRANULE_OWNER (m * 128 + q) = 0x3FF)
          ∧ (s.get STACK_STATUS_STATE m = 0 → t.chanState m ch = 3 ∧ t.get STACK_STATUS_STATE m = 0)
          ∧ (s.get STACK_STATUS_STATE m = 1 → t.chanState m ch = 2 ∧ t.get STACK_STATUS_STATE m = 2
              ∧ t.get STACK_STATUS_MOVE_CHANNEL m = ch ∧ t.get STACK_STATUS_MOVE_LINES m = 0))
    ∧ (s.get STACK_STATUS_STATE m ≠ 2 → exec (.retirementComplete stack) s = .next s)
    ∧ (s.get STACK_STATUS_STATE m = 2 → x.waiting = [] → x.lines = [] →
        ∃ t, exec (.retirementComplete stack) s = .next t ∧ t.get STACK_STATUS_STATE m = 1 ∧ t.chanState m moving = 3
          ∧ t.get STACK_STATUS_MOVE_LINES m = (s.capacity m / 64 + 63 - moving) / 64 ∧ t.stackMem = s.stackMem
          ∧ s.onlyRecord [(STACK_STATUS_STATE, m), (STACK_STATUS_MOVE_LINES, m), (CHAN_STATUS_STATE, chanIx m moving)] t
              9 4 1 (5 + m) moving 0x3FF (BitVec.ofNat 64 moving) 0 0)
    ∧ (s.lineErr m l = none → s.chanState m (s.channelOf m l) ≠ 4 →
        (∃ t, exec (.stackScrub stack []) s = .next t ∧ moves t ∧ t.events = s.events)
        ∧ (∀ sym : Fin 72, s.failedSymbols m (s.channelOf m l) = [] → SMap.get x.tracker (s.channelOf m l) [] = [] →
          ∃ t, exec (.stackScrub stack [sym]) s = .next t ∧ moves t
            ∧ t.get CHAN_STATUS_CORRECTED (chanIx m (s.channelOf m l))
              = min 0xFFFFFF (s.get CHAN_STATUS_CORRECTED (chanIx m (s.channelOf m l)) + 1)))
    ∧ (∃ t, exec (.refresh stack layer) s = .next t ∧ { t with stackSts := s.stackSts } = s
        ∧ t.stackSt m = { x with refreshes := (t.stackSt m).refreshes }
        ∧ ∀ q, SMap.get (t.stackSt m).refreshes q 0 = SMap.get x.refreshes q 0 + (if q = layer.val then 1 else 0))
    ∧ ((∀ q < 16, s.flag LAYER_TEMP_SUSPECT (layerIx m q) = false ∧ s.flag LAYER_TEMP_DOUBLE (layerIx m q) = false
          ∧ (s.get LAYER_TEMP_OUT_RUNS (layerIx m q) < 15 ∨ ¬ out q)) →
        ∃ t, exec (.layerTemperatureCheck stack sensors power base lid) s = .next t ∧ t.events = s.events
          ∧ ∀ q < 16, follows t q (measured.getD q 0) ∧ t.get LAYER_TEMP_SUSPECT (layerIx m q) = 0
            ∧ (out q → t.get LAYER_TEMP_OUT_RUNS (layerIx m q) = s.get LAYER_TEMP_OUT_RUNS (layerIx m q) + 1)
            ∧ (¬ out q → t.get LAYER_TEMP_OUT_RUNS (layerIx m q) = 0))
    ∧ (∀ q, 0 < q → q < 15 → out q → s.get LAYER_TEMP_OUT_RUNS (layerIx m q) = 15 → ¬ out (q - 1) → ¬ out (q + 1) →
        (∀ r < 16, s.flag LAYER_TEMP_SUSPECT (layerIx m r) = false ∧ s.flag LAYER_TEMP_DOUBLE (layerIx m r) = false
          ∧ (r ≠ q → s.get LAYER_TEMP_OUT_RUNS (layerIx m r) < 15)) →
        ∃ t, exec (.layerTemperatureCheck stack sensors power base lid) s = .next t
          ∧ t.get LAYER_TEMP_SUSPECT (layerIx m q) = 1 ∧ t.get LAYER_TEMP_DOUBLE (layerIx m q) = 0
          ∧ follows t q (max (measured.getD q 0) (est q))
          ∧ ∃ e, t.events = s.events ++ [e] ∧ e.cls = 9 ∧ e.code = 7 ∧ e.die = 5 + m ∧ e.unit = q)
    ∧ (∃ t, exec (.stressCorrection stack layer correction) s = .next t
        ∧ t.get LAYER_TEMP_TRIM_RD n = (if 0 ≤ trimmed 0 ∧ trimmed 0 ≤ 255 then (trimmed 0).toNat else s.get LAYER_TEMP_TRIM_RD n)
        ∧ t.get LAYER_TEMP_TRIM_WR n = (if 0 ≤ trimmed 1 ∧ trimmed 1 ≤ 255 then (trimmed 1).toNat else s.get LAYER_TEMP_TRIM_WR n)
        ∧ { t with regs := s.regs, stackSts := s.stackSts } = s
        ∧ State.sameBits [(LAYER_TEMP_TRIM_RD, n), (LAYER_TEMP_TRIM_WR, n)] s t)
    ∧ ((margin : Int) * low.2 < low.1 → ∃ t, exec (.marginSample stack layer margin) s = .next t ∧ (t.item (3 * 4096 + n)).forced = true
        ∧ { t with ridge := s.ridge } = s)
    ∧ (low.1 ≤ (margin : Int) * low.2 → exec (.marginSample stack layer margin) s = .next s)

/-! ### Clocks -/

/-- Droops, Cols, root steps, region stops, margin warnings and the reference (R368-R382): what each clock command does to its region,
its die's tokens, the roots of the compute dies and REF_STATUS, and when it does nothing.
The model's choices in it: log entries 2, 30, 58. -/
def Obligations.ClocksFollowTheirCommands : Prop :=
  ∀ (r w : RegionRef) (fires : Bool) (occ : Fin 9) (die : Fin 14) (count : BitVec 64) (v : BitVec 64) (margin : BitVec 8) (s : State),
    let ix := regionIx r
    let wx := regionIx w
    let hub := r.die.val * 32 + hubRegion r.die.val
    let x := s.region ix
    let issued := s.issuedTokens r.die.val
    let last := SMap.get s.clk.issuedAt r.die.val 0
    let soon := last ≠ 0 ∧ s.ticks + 1 - last < 24
    let runs := regionExists ix = true ∧ s.noClock ix = false
    let n := s.clockNow
    let g := s.goal
    let still := s.raiseHeld = true ∨ s.clk.floorStop = true ∨ (∃ i ∈ kcRegions, s.stopped i = true)
    let warned := regionExists ix = true ∧ s.flag REGION_STATUS_WARN ix = true
    let kc := r.die.val < 4
    let applies (t : State) : Prop := (t.region ix).applied = x.applied + 1
      ∧ t.get REGION_STATUS_STRETCHES ix = min 0xFFFF (s.get REGION_STATUS_STRETCHES ix + 1)
    let hotter (t : State) : Prop :=
      SMap.get t.power.supply r.die.val 0 = min 30 (SMap.get s.power.supply r.die.val 0 + 10) ∧ t.clk = s.clk
    let d := die.val
    let ref := s.get REF_STATUS_STATE d
    let refTo (i : Instr) (st : Nat) : Prop := ∃ t, exec i s = .next t ∧ t.get REF_STATUS_STATE d = st
      ∧ t.get REF_STATUS_LOSSES d = (if st = 1 ∨ (ref = 3 ∧ st = 2) then min 0xFFFF (s.get REF_STATUS_LOSSES d + 1)
          else s.get REF_STATUS_LOSSES d)
      ∧ { t with regs := s.regs, events := s.events, steward := s.steward } = s
      ∧ State.sameBits ([(REF_STATUS_STATE, d), (REF_STATUS_LOSSES, d)] ++ clockFields) s t
      ∧ t.events.map (fun e => (e.cls, e.code, e.die)) = s.events.map (fun e => (e.cls, e.code, e.die))
          ++ (if st = 1 then [(10, 4, d)] else if ref = 3 ∧ st = 2 then [(10, 4, d), (10, 5, d)] else if st = 2 then [(10, 5, d)]
            else if st = 0 then [(10, 6, d)] else [])
    -- stretch tokens (R369, R370)
    (¬ runs → exec (.droopDetect r) s = .next s)
    ∧ (runs → ¬ soon → x.applied = issued →
        ∃ t, exec (.droopDetect r) s = .next t ∧ applies t ∧ t.issuedTokens r.die.val = issued + 1
          ∧ SMap.get t.clk.issuedAt r.die.val 0 = s.ticks + 1 ∧ t.events = s.events)
    ∧ (runs → soon → x.applied < issued →
        ∃ t, exec (.droopDetect r) s = .next t ∧ applies t ∧ t.issuedTokens r.die.val = issued)
    ∧ (runs → soon → x.applied = issued →
        ∃ t, exec (.droopDetect r) s = .next t ∧ t.region ix = { x with held := true } ∧ t.issuedTokens r.die.val = issued
          ∧ t.get REGION_STATUS_HELD ix = min 0xFF (s.get REGION_STATUS_HELD ix + 1)
          ∧ State.sameBits [(REGION_STATUS_HELD, ix)] s t ∧ { t with regs := s.regs, clk := s.clk } = s)
    ∧ (runs → x.applied < issued → ∃ t, exec (.stretchTokenApply r) s = .next t ∧ applies t)
    ∧ (¬ runs ∨ issued ≤ x.applied → exec (.stretchTokenApply r) s = .next s)
    ∧ (x.held = false → exec (.heldDetectionRetry r fires) s = .next s)
    ∧ (x.held = true → (∃ t, exec (.heldDetectionRetry r false) s = .next t ∧ t.region ix = { x with held := false }
          ∧ { t with clk := s.clk } = s)
        ∧ (runs → x.applied = issued → ∃ t, exec (.heldDetectionRetry r true) s = .next t ∧ applies t
          ∧ t.issuedTokens r.die.val = issued + 1))
    -- Cols, and STEP_COUNT (R368, R371)
    ∧ (occ ≠ 1 → occ ≠ 7 → exec (.colAlarm w r occ) s = .next s)
    ∧ (regionExists ix = true → regionExists wx = true → wx ≠ ix → w.die = r.die → wx = hub ∨ ix = hub → occ = 1 ∨ occ = 7 →
        ∃ t, exec (.colAlarm w r occ) s = .next t ∧ (t.region ix).recentre = true ∧ (t.region wx).recentre = true
          ∧ t.get REGION_STATUS_RECENTRES ix = min 0xFF (s.get REGION_STATUS_RECENTRES ix + 1)
          ∧ t.get REGION_STATUS_RECENTRES wx = min 0xFF (s.get REGION_STATUS_RECENTRES wx + 1)
          ∧ s.recorded t 10 1 1 w.die.val w.region.val 0x3FF 0 0 0)
    ∧ (d = 4 → exec (.stepCountCheck die count) s = .next s)
    ∧ (d ≠ 4 → ((count.toNat : Int) - s.stepCount 4).natAbs ≤ 1 →
        ∃ t, exec (.stepCountCheck die count) s = .next t ∧ t.stepCount d = count.toNat ∧ { t with clk := s.clk } = s)
    ∧ (d ≠ 4 → 1 < ((count.toNat : Int) - s.stepCount 4).natAbs →
        ∃ t, exec (.stepCountCheck die count) s = .next t ∧ t.stepCount d = s.stepCount 4 ∧ t.regs = s.regs
          ∧ ∃ e, t.events = s.events ++ [e] ∧ e.cls = 10 ∧ e.code = 2 ∧ e.die = d)
    -- the operating point (R372-R375, R379, R380)
    ∧ (n = g ∨ still → ∃ t, exec .rootStep s = .next t ∧ s.onlyFields clockFields t)
    ∧ (n ≠ g → ¬ still → (n.2 = g.2 → ∃ t, exec .rootStep s = .next t
            ∧ s.stepsTo t ((if n.1 < g.1 then n.1 + 1 else n.1 - 1) % 2 ^ 8))
        ∧ (n.2 ≠ g.2 → 0x60 < n.1 → ∃ t, exec .rootStep s = .next t ∧ s.stepsTo t (n.1 - 1)))
    ∧ (s.dividerDue = false → exec (.regionStop none) s = .next s)
    ∧ (s.dividerDue = true → ∃ t, exec (.regionStop none) s = .next t ∧ t.clk.floorStop = false
        ∧ (∀ q < 4, t.get CLK_STATUS_DIV q = (if s.clk.floorStop then 3 else g.2) ∧ t.get CLK_STATUS_ROOT q = s.get CLK_STATUS_ROOT q)
        ∧ ∀ i ∈ kcRegions, t.stopped i = true ∧ (t.region i).stop = 1)
    ∧ (x.recentre = true → s.stopped ix = false → ∃ t, exec (.regionStop (some r)) s = .next t ∧ t.stopped ix = true
        ∧ (t.region ix).stop = 2 ∧ (∀ j, j ≠ ix → t.stopped j = s.stopped j))
    ∧ (x.recentre = false → exec (.regionStop (some r)) s = .next s)
    ∧ (x.stop = 2 → SMap.get s.wakeHeld 38 [] = [] → ∃ t, exec (.regionRestart (some r)) s = .next t ∧ t.stopped ix = false ∧ (t.region ix).stop = 0
        ∧ (t.region ix).recentre = false ∧ ∀ j, j ≠ ix → t.stopped j = s.stopped j)
    ∧ (x.stop ≠ 2 → exec (.regionRestart (some r)) s = .next s)
    ∧ (SMap.get s.wakeHeld 38 [] = [] → ∃ t, exec (.regionRestart none) s = .next t
        ∧ ∀ i ∈ kcRegions, t.stopped i = (if (s.region i).stop = 1 then false else s.stopped i))
    ∧ (∃ t, exec (.clkPointWrite v) s = .next t
        ∧ t.get CLK_POINT_TARGET 0 = (if v.toNat % 8 ≤ 5 then v.toNat % 8 else s.get CLK_POINT_TARGET 0) ∧ t.clockNow = n
        ∧ (∀ q < 4, t.get CLK_STATUS_HELD_REF q = (if t.get CLK_POINT_TARGET 0 = 5 ∧ s.refLocked = false then 1 else 0))
        ∧ (v.toNat % 8 ≤ 5 → s.onlyFields ((CLK_POINT_TARGET, 0) :: clockFields) t))
    -- margin warnings (R376, R377, R456)
    ∧ (regionExists ix = false ∨ s.flag REGION_STATUS_WARN ix = true → exec (.marginWarning r margin) s = .next s)
    ∧ (regionExists ix = true → s.flag REGION_STATUS_WARN ix = false → ∃ t, exec (.marginWarning r margin) s = .next t
        ∧ t.get REGION_STATUS_WARN ix = 1 ∧ t.get REGION_STATUS_MARGIN ix = margin.toNat
        ∧ t.get REGION_STATUS_MARGIN_WARNS ix = min 0xFF (s.get REGION_STATUS_MARGIN_WARNS ix + 1)
        ∧ s.recorded t 10 3 0 r.die.val r.region.val 0x3FF 0 0 0 ∧ (kc → t.clk = s.clk ∧ t.power = s.power) ∧ (¬ kc → hotter t))
    ∧ (¬ warned → exec (.marginWarningClear r margin) s = .next s ∧ exec (.marginLowerStep r) s = .next s)
    ∧ (warned → (∃ t, exec (.marginWarningClear r margin) s = .next t
          ∧ t.get REGION_STATUS_WARN ix = 0 ∧ t.get REGION_STATUS_MARGIN ix = margin.toNat
          ∧ s.onlyFields ([(REGION_STATUS_WARN, ix), (REGION_STATUS_MARGIN, ix)] ++ clockFields) t)
        ∧ (kc → 0x60 < n.1 → ∃ t, exec (.marginLowerStep r) s = .next t ∧ s.stepsTo t (n.1 - 1))
        ∧ (kc → n.1 = 0x60 → n.2 = 2 → ∃ t, exec (.marginLowerStep r) s = .next t ∧ t.clk = { s.clk with floorStop := true }
          ∧ t.clockNow = n)
        ∧ (kc → n.1 = 0x60 → n.2 = 3 → ∃ t, exec (.marginLowerStep r) s = .next t ∧ s.onlyFields clockFields t)
        ∧ (¬ kc → ∃ t, exec (.marginLowerStep r) s = .next t ∧ hotter t ∧ { t with power := s.power } = s))
    -- the reference (R380-R382)
    ∧ (ref = 0 → refTo (.referenceLoss die) 1) ∧ (ref = 3 → refTo (.referenceLoss die) 2)
    ∧ (ref = 1 ∨ ref = 2 → exec (.referenceLoss die) s = .next s ∧ refTo (.referenceRelock die) 3)
    ∧ (ref = 1 → refTo (.referenceFallback die) 2) ∧ (ref ≠ 1 → exec (.referenceFallback die) s = .next s)
    ∧ (ref = 0 ∨ ref = 3 → exec (.referenceRelock die) s = .next s)
    ∧ (ref = 3 → refTo (.referenceRelockComplete die) 0) ∧ (ref ≠ 3 → exec (.referenceRelockComplete die) s = .next s)

/-! ### Pod links, gateways and the fabric manager -/

/-- Pod links and gateways (R320, R386, R390-R396, R442): what a flit does to its link; what a training, a loss and a retry leave; which
messages leave, pass, enter and are freed; and which end dead, repeat or come back.
The model's choices in it: log entries 25, 33, 59. -/
def Obligations.PodLinksCarryMessages : Prop :=
  ∀ (link : Fin 32) (sent : Flit) (copy : Option Flit) (bad : BitVec 8) (device : Fin 64) (peer : Fin 32) (mseq : BitVec 16) (m : PodMsg)
      (arrival : Option (Fin 30 × Fin 3)) (opc : Opc) (r : Req) (rsp : Resp) (s : State),
    let l := link.val
    let x := s.link l
    let f := firstGood sent copy
    let flit : Instr := .linkDataFlit link ⟨sent, copy⟩
    let y := x.absorb f
    let up := s.linkUp l = true
    let good := podGood f = true
    let ahead := (podLseq f + 65536 - x.expect) % 65536
    let part := (if podFirst f then [] else SMap.get x.parts (podVc f) []) ++ [f]
    let naks : Prop := ∃ t, exec flit s = .next t ∧ t.link l = (if x.nak then x
      else { x with nak := true }.say (2 * 2 ^ 62 + 2 ^ 64 + x.expect * 2 ^ 80)) ∧ s.onlyLink l [] t
    let again := if y.again.1 = flitPayload f 2 2 then y.again.2 + 1 else 1
    let st := s.linkState l
    let passed := ((List.range 8).filter (fun w => !bad.toNat.testBit w)).length
    let trained (t : State) (st width : Nat) : Prop := t.linkState l = st ∧ t.get POD_LINK_STATUS_WIDTH l = width
      ∧ t.get POD_LINK_STATUS_BAD_LAMBDA l = bad.toNat ∧ t.get POD_LINK_STATUS_PEER_DEVICE l = device.val
      ∧ t.get POD_LINK_STATUS_PEER_LINK l = peer.val
    let g := SMap.get s.podnet.ingress m.src.val Ingress.reset
    let j := judge16 g.window m.mseq.toNat
    let next := nextInOrder j.2 4096 g.next
    let enters (t : State) (out : List Msg) : Prop := t.out = s.out ++ out ∧ t.regs = s.regs
      ∧ t.podnet.sent = s.podnet.sent ++ [.ack m.src.val ((next + 65535) % 65536)]
      ∧ SMap.get t.podnet.ingress m.src.val Ingress.reset = ⟨some j.2, next⟩
    let d := m.dst.val
    let e := s.egress d
    let own : PodMsg := { m with src := Fin.ofNat 64 s.device, mseq := BitVec.ofNat 16 e.next }
    let leaves := m.body = .request opc false r ∧ d ≠ s.device ∧ s.stages m.body = false
    let queued (q : PodMsg) (hop : Nat) : List (Nat × Flit) := (podFlits q hop).map (fun g => (q.outing.toNat, g))
    let alive := s.deviceDead d = false ∧ s.isSaving d = false
    let room := s.changing d = false ∧ e.sent.length < 4096 ∧ e.held + (podBytes own).length ≤ 524288
    let named (q : BitVec 16) (z : PodMsg × Nat) : Bool := z.1.mseq == q
    let after (z : PodMsg × Nat) : Bool := decide (32768 ≤ (mseq.toNat + 65536 - z.1.mseq.toNat) % 65536)
    let other (old : Nat) : Option Nat := s.pickLink (if (s.eligibleLinks d (fun z => z != old)).isEmpty
      then s.eligibleLinks d (fun _ => true) else s.eligibleLinks d (fun z => z != old))
    -- a flit on a link
    (¬ up → exec flit s = .next s)
    ∧ (up → ¬ good → naks)
    ∧ (up → good → flitKind f = 0 ∨ (flitKind f = 2 ∧ flitPayload f 0 1 ≠ 1) →
        ∃ t, exec flit s = .next t ∧ t.link l = y ∧ s.onlyLink l [] t)
    ∧ (up → good → flitKind f = 2 → flitPayload f 0 1 = 1 →
        ∃ t, exec flit s = .next t ∧ t.get POD_LINK_STATUS_REPLAYS l = min 0xFFFF (s.get POD_LINK_STATUS_REPLAYS l + 1)
          ∧ (again < 8 → t.link l = { y with again := (flitPayload f 2 2, again), resend := (y.unacked.dropWhile (fun u => u.1 != flitPayload f 2 2)).length } ∧ s.onlyLink l [(POD_LINK_STATUS_REPLAYS, l)] t)
          ∧ (8 ≤ again → t.linkState l = 1 ∧ t.link l = { y with again := (0, 0) }))
    ∧ (up → good → flitKind f = 1 → 0 < ahead → ahead < 32768 → naks)
    ∧ (up → good → flitKind f = 1 → 32768 ≤ ahead → exec flit s = .next s)
    ∧ (up → good → flitKind f = 1 → ahead = 0 →
        ∃ t, exec flit s = .next t ∧ (t.link l).expect = (x.expect + 1) % 65536 ∧ (t.link l).nak = false
          ∧ SMap.get (t.link l).parts (podVc f) [] = (if podLast f then [] else part) ∧ t.regs = s.regs
          ∧ t.podnet.arrived = s.podnet.arrived ++ (if podLast f then [(l, (part.map payloadBytes).flatten)] else []))
    -- training, loss and retry
    ∧ (st = 2 → exec (.linkTrainingComplete link bad device peer) s = .next s)
    ∧ (st ≠ 2 → passed < 4 → ∃ t, exec (.linkTrainingComplete link bad device peer) s = .next t ∧ trained t 0 0
        ∧ (30 ≤ l → t.get POD_TOPO_RING_BROKEN 0 = 1) ∧ (l < 30 → t.events = s.events))
    ∧ (st ≠ 2 → 4 ≤ passed → s.cabledRight l device.val peer.val = false →
        ∃ t, exec (.linkTrainingComplete link bad device peer) s = .next t ∧ trained t 3 0
          ∧ s.recorded t 11 1 1 14 0xFF 0x3FF (BitVec.ofNat 64 (s.device * 256 + l)) (BitVec.ofNat 64 (device.val * 256 + peer.val)) 0)
    ∧ (st ≠ 2 → 4 ≤ passed → s.cabledRight l device.val peer.val = true →
        ∃ t, exec (.linkTrainingComplete link bad device peer) s = .next t ∧ trained t 2 (if passed = 8 then 2 else 1)
          ∧ (t.link l).expect = 0 ∧ (t.link l).routed = x.routed ∧ t.events = s.events
          ∧ (l < 30 → t.podnet.sent = s.podnet.sent)
          ∧ (30 ≤ l → s.get POD_TOPO_JOINED 0 = 0 → t.podnet.sent = s.podnet.sent ++ [.join])
          ∧ (30 ≤ l → s.linkState (61 - l) = 2 → t.get POD_TOPO_RING_BROKEN 0 = 0))
    ∧ (st = 0 → exec (.linkDown link) s = .next s)
    ∧ (st ≠ 0 → (∀ q < 64, (s.egress q).sent.all (fun z => z.2 != l) = true) →
        ∃ t, exec (.linkDown link) s = .next t ∧ t.linkState l = 0 ∧ t.get POD_LINK_STATUS_WIDTH l = 0
          ∧ t.link l = { LinkX.reset with bytes := x.bytes, tries := x.tries, stopped := x.stopped }
          ∧ s.onlyLink l [(POD_LINK_STATUS_STATE, l), (POD_LINK_STATUS_WIDTH, l)] t)
    ∧ (st ≠ 0 → ∃ t, exec (.linkDown link) s = .next t ∧ t.linkState l = 0)
    ∧ (st = 0 ∨ st = 3 → ∃ t, exec (.linkRetryTimer link) s = .next t ∧ t.linkState l = 1 ∧ t.link l = { x with tries := x.tries + 1 }
        ∧ s.onlyLink l [(POD_LINK_STATUS_STATE, l)] t)
    ∧ (st = 1 ∨ st = 2 → exec (.linkRetryTimer link) s = .next s)
    -- a message enters
    ∧ (d ≠ s.device ∨ s.power.shed = true → exec (.podMessageIngress m) s = .next s)
    ∧ (d = s.device → s.power.shed = false →
        (j.1 = true → m.body = .response rsp → ∃ t, exec (.podMessageIngress m) s = .next t ∧ enters t [.response rsp])
        ∧ (j.1 = true → m.body = .request opc false r → combines opc false r = false →
          ∃ t, exec (.podMessageIngress m) s = .next t ∧ enters t [.request ⟨opc, false, r⟩]
            ∧ t.podnet.tags = s.podnet.tags ++ [⟨s.podnet.nextTag, m.src.val, m.tag.toNat, r.stream.toNat, r.seq.toNat⟩])
        ∧ (j.1 = false → ∃ t, exec (.podMessageIngress m) s = .next t ∧ t.out = s.out
          ∧ t.get GW_STATUS_E2E_DUPS 0 = min 0xFFFF (s.get GW_STATUS_E2E_DUPS 0 + 1) ∧ t.podnet.tags = s.podnet.tags))
    -- a message leaves, passes, is acknowledged or goes again
    ∧ (d = s.device → exec (.gatewayForward m arrival) s = .next s)
    ∧ (∀ z, leaves → alive → room → s.pickLink (s.eligibleLinks d (fun _ => true)) = some z →
        ∃ t, exec (.gatewayForward m none) s = .next t ∧ t.regs = s.regs ∧ t.out = s.out.erase (.request ⟨opc, false, r⟩)
          ∧ t.egress d = { e with next := (e.next + 1) % 65536, sent := e.sent ++ [(own, z)] }
          ∧ t.link z = { s.link z with waiting := (s.link z).waiting ++ queued own 0 })
    ∧ (leaves → opc ≠ .copyWrite → s.answersPort r → s.deviceDead d = true →
        ∃ t, exec (.gatewayForward m none) s = .next t ∧ t.answered r .dead 7 [] ∧ t.podnet = s.podnet)
    ∧ (leaves → alive → room → s.pickLink (s.eligibleLinks d (fun _ => true)) = none → opc ≠ .copyWrite →
        s.answersPort r →
        ∃ t, exec (.gatewayForward m none) s = .next t ∧ t.answered r .dead 7 [] ∧ t.podnet = s.podnet)
    ∧ (m.body = .request .redc false r → d ≠ s.device → s.stages m.body = true →
        exec (.gatewayForward m none) s = .next (s.redcArrive r))
    ∧ (∀ a : Fin 30 × Fin 3, d ≠ s.device → alive →
        let ok (z : Nat) : Bool := z != a.1.val && decide (a.2.val < 2)
          && (decide (a.2.val < 1) || s.get POD_LINK_STATUS_PEER_DEVICE z == d)
        (∀ z, s.pickLink (s.eligibleLinks d ok) = some z → ∃ t, exec (.gatewayForward m (some a)) s = .next t
          ∧ t.link z = { s.link z with waiting := (s.link z).waiting ++ queued m (a.2.val + 1) } ∧ s.onlyLink z [] t)
        ∧ (s.pickLink (s.eligibleLinks d ok) = none →
          exec (.gatewayForward m (some a)) s = .next (s.ring (.refused m.src.val m.mseq.toNat))))
    ∧ ((s.egress device.val).waiting = [] → ∃ t, exec (.e2eAck device mseq) s = .next t
        ∧ t.egress device.val = { s.egress device.val with sent := (s.egress device.val).sent.filter after }
        ∧ { t with podnet := s.podnet } = s)
    ∧ ((s.egress device.val).sent.any (named mseq) = false → exec (.e2eResendTimeout device mseq) s = .next s)
    ∧ (∀ w old z, device = m.dst → e.sent.find? (fun q => q.1.mseq.toNat == mseq.toNat) = some (w, old) → other old = some z →
        ∃ t, exec (.e2eResendTimeout device mseq) s = .next t
          ∧ t.get GW_STATUS_E2E_RESENDS 0 = min 0xFFFF (s.get GW_STATUS_E2E_RESENDS 0 + 1)
          ∧ t.egress d = { e with sent := e.sent.map (fun q => if q.1.mseq = w.mseq then (q.1, z) else q) }
          ∧ t.link z = { s.link z with waiting := (s.link z).waiting ++ queued w 0 })
    ∧ (e.sent.find? (named m.mseq) = none → exec (.routeRefused m) s = .next s)
    ∧ (∀ w old, e.sent.find? (named m.mseq) = some (w, old) → ∃ t, exec (.routeRefused m) s = .next t
        ∧ t.get GW_STATUS_ROUTE_REFUSED 0 = min 0xFFFF (s.get GW_STATUS_ROUTE_REFUSED 0 + 1)
        ∧ t.removedFor d = s.removedFor d ++ [old])

/-- The fabric manager (R397, R398, R402, R405-R412): heartbeats and deaths, swaps, the ring's switches, snapshots, commands applied once,
handover, joins, outings and their teardown, at this module in each of its roles.
The model's choices in it: log entry 60. -/
def Obligations.FabricManagement : Prop :=
  ∀ (device d2 : Fin 64) (seq : BitVec 32) (epoch : BitVec 16) (image : List Byte) (why : Fin 3) (passes : Bool) (valid : Bool)
      (ob : BitVec 10) (share : BitVec 6) (o : Fin 256) (c : CoreRef) (route : BitVec 64) (st : Fin 4) (layout : Fin 4) (full : Bool)
      (m : Fin 8) (n : Fin 90) (s : State),
    let d := device.val
    let role := s.role
    let p := s.podnet
    let pass := (Window.judge p.cmds seq).1 = true
    let tells (t : State) (x : List RingMsg) : Prop := t.podnet.sent = p.sent ++ x
    let numbered (t : State) : Prop := t.get SUMMIT_STATUS_CMD_SEQ 0 = seq.toNat
    let does (x : FabricCmd) (post : State → Prop) : Prop := pass → ∃ t, exec (.fabricCommand seq x) s = .next t ∧ numbered t ∧ post t
    let ost := s.get OUTING_STATUS_STATE o.val
    let outstanding := devices.any (fun q => s.changing q && !(s.egress q).sent.isEmpty) = true
    -- heartbeats and deaths
    (s.pins.resetLow = false → s.pins.held = false → exec .heartbeatSend s = .next (s.ring .heartbeat))
    ∧ (role ≠ 1 → role ≠ 2 → role ≠ 4 → exec (.heartbeatTimeout device) s = .next s)
    ∧ (role = 1 ∨ role = 4 → s.deviceDead d = true → exec (.heartbeatTimeout device) s = .next s)
    ∧ (role = 1 ∨ role = 4 → s.deviceDead d = false → p.swapping = none → s.unitSends = [] →
        ∃ t, exec (.heartbeatTimeout device) s = .next t ∧ t.deviceDead d = true ∧ t.isSaving d = false ∧ tells t [.dead d]
          ∧ (t.egress d).sent = [] ∧ (t.egress d).waiting = []
          ∧ s.recorded t 11 3 3 13 0xFF 0x3FF (BitVec.ofNat 64 d) (BitVec.ofNat 64 role) 0)
    ∧ (role = 2 → d = s.get POD_TOPO_SUMMIT 0 → s.deviceDead d = false → p.swapping = none →
        ∃ t, exec (.heartbeatTimeout device) s = .next t ∧ t.deviceDead d = true ∧ t.role = 3 ∧ t.podnet.takeover = true)
    ∧ (s.deviceDead d = true → exec (.deviceDeadDeclaration device) s = .next s)
    ∧ (s.deviceDead d = false → d ≠ s.get POD_TOPO_SUMMIT 0 → s.unitSends = [] → ∃ t, exec (.deviceDeadDeclaration device) s = .next t
        ∧ t.deviceDead d = true ∧ t.role = role ∧ ∃ e, t.events = s.events ++ [e] ∧ e.cls = 11 ∧ e.code = 3
          ∧ e.device = some (s.get POD_TOPO_SUMMIT 0))
    -- swaps
    ∧ (pass → ∃ t, exec (.prepare seq epoch) s = .next t ∧ numbered t ∧ t.podnet.draining = some epoch.toNat ∧ t.podnet.reported = false)
    ∧ (¬ pass → ∃ t, exec (.prepare seq epoch) s = .next t ∧ t.regs = s.regs ∧ t.podnet.draining = p.draining)
    ∧ (p.draining = none ∨ p.reported = true ∨ outstanding → exec .routeDrainEnd s = .next s)
    ∧ (∀ q, p.draining = some q → p.reported = false → ¬ outstanding → p.swapping = none →
        exec .routeDrainEnd s = .next { s with podnet := { p with reported := true, sent := p.sent ++ [.drained q] } })
    ∧ (p.swapping ≠ some epoch.toNat ∨ p.drained.contains d = true → exec (.drained device epoch) s = .next s)
    ∧ (p.swapping = some epoch.toNat → p.drained.contains d = false →
        (¬ (∀ q ∈ s.living, q ∈ p.drained ++ [d]) →
          exec (.drained device epoch) s = .next { s with podnet := { p with drained := p.drained ++ [d] } })
        ∧ ((∀ q ∈ s.living, q ∈ p.drained ++ [d]) → ∃ t, exec (.drained device epoch) s = .next t ∧ tells t [.swap p.nextCmd epoch.toNat]
          ∧ t.podnet.swapping = none ∧ t.podnet.nextCmd = (p.nextCmd + 1) % 2 ^ 32 ∧ t.regs = s.regs))
    ∧ (pass → role ≠ 1 → ∃ t, exec (.swap seq epoch) s = .next t ∧ numbered t ∧ t.get POD_TOPO_EPOCH 0 = epoch.toNat
        ∧ (∀ q < 64, t.word .ROUTE q = s.word .ROUTE_STAGE q) ∧ t.podnet.draining = none)
    -- the ring's switches, and snapshots
    ∧ (s.get POD_TOPO_BYPASSED 0 = 0 → exec .ringHoldRefresh s = .next s)
    ∧ (s.get POD_TOPO_BYPASSED 0 = 1 → ∃ t, exec .ringHoldRefresh s = .next t ∧ t.get POD_TOPO_BYPASSED 0 = 0 ∧ t.linkState 30 = 1
        ∧ t.linkState 31 = 1 ∧ s.onlyFields [(POD_TOPO_BYPASSED, 0), (POD_LINK_STATUS_STATE, 30), (POD_LINK_STATUS_STATE, 31)] t)
    ∧ (∃ t, exec .ringBypass s = .next t ∧ t.get POD_TOPO_BYPASSED 0 = 1 ∧ t.linkState 30 = 0 ∧ t.linkState 31 = 0)
    ∧ (role = 1 ∨ role = 4 → ∃ t, exec (.summitSnapshot image) s = .next t ∧ t.podnet.snapshot = image ∧ tells t [.snapshot])
    ∧ (role = 2 ∨ role = 3 → exec (.summitSnapshot image) s = .next { s with podnet := { p with snapshot := image } })
    -- commands
    ∧ (¬ pass → ∀ x, ∃ t, exec (.fabricCommand seq x) s = .next t ∧ t.regs = s.regs ∧ { t with podnet := s.podnet } = s)
    ∧ does (.stage device route) (fun t => t.get ROUTE_STAGE_VALID d = route.toNat / 2 ^ 63
        ∧ t.get ROUTE_STAGE_ALT d = route.toNat / 2 ^ 30 % 2 ^ 30 ∧ t.get ROUTE_STAGE_NEXT d = route.toNat % 2 ^ 30)
    ∧ does (.identity device layout full) (fun t => t.device = d ∧ t.get POD_TOPO_LAYOUT 0 = layout.val
        ∧ t.get POD_CFG_FULL_CLASS 0 = (if full then 1 else 0) ∧ ∀ q < 4, t.get DIE_DEVICE_DEVICE q = d)
    ∧ does (.joined device) (fun t => (t.word .POD_MEMBERS 0).getLsbD d = true
        ∧ (d = s.device → t.get POD_TOPO_JOINED 0 = 1) ∧ (d ≠ s.device → t.get POD_TOPO_JOINED 0 = s.get POD_TOPO_JOINED 0))
    ∧ does (.alive device) (fun t => t.deviceDead d = false ∧ ∀ q, q ≠ d → t.deviceDead q = s.deviceDead q)
    ∧ does (.emptyWindows device) (fun t => t.windows = s.windows.filter (fun w => w.1 % 4096 / 64 != d)
        ∧ t.egress d = Egress.reset ∧ SMap.get t.podnet.ingress d Ingress.reset = Ingress.reset)
    ∧ does (.summits device d2) (fun t => t.get POD_TOPO_SUMMIT 0 = d ∧ t.get POD_TOPO_STANDBY 0 = d2.val
        ∧ t.role = (if 3 ≤ role then role else if d = s.device then 1 else if d2.val = s.device then 2 else 0))
    ∧ does (.reserve o share) (fun t => t.get LINK_RES_SHARE o.val
        = (if 56 < s.otherShares o.val + share.toNat then s.get LINK_RES_SHARE o.val else share.toNat))
    ∧ does (.coreOuting c ob) (fun t => t.get CORE_OUTING_OUTING (coreNum c)
        = (if 0x100 ≤ ob.toNat ∧ ob.toNat < 0x3FF then s.get CORE_OUTING_OUTING (coreNum c) else ob.toNat))
    ∧ does (.granule m n ob) (fun t => t.get GRANULE_OWNER_OWNER (m.val * 128 + n.val)
        = (if s.capacity m.val ≤ n.val * 2 ^ 30 ∨ (0x100 ≤ ob.toNat ∧ ob.toNat < 0x3FF) then s.get GRANULE_OWNER_OWNER (m.val * 128 + n.val)
            else ob.toNat))
    ∧ does (.outing o st) (fun t => t.get OUTING_STATUS_STATE o.val = st.val)
    ∧ does (.ring full) (fun t => t.get POD_TOPO_RING_BROKEN 0 = (if full then 1 else 0))
    ∧ (s.power.shed = false → s.get MODULE_PWR_RUNG 0 = 0 ∨ (s.get MODULE_PWR_RUNG 0 = 5 ∧ SMap.get s.wakeHeld 36 [] = []) →
        does .wake (fun t => t.get MODULE_PWR_RUNG 0 = 0))
    -- handover
    ∧ (role = 1 → ∃ t, exec (.summitHandover why) s = .next t ∧ t.podnet.handing = true ∧ t.regs = s.regs)
    ∧ (role = 2 → why = 1 → exec (.summitHandover why) s = .next (s.setRole 3))
    ∧ (role = 3 → p.takeover = false → exec .standbyStarted s = .next (s.setRole 4))
    ∧ (role = 3 → p.takeover = true → ∃ t, exec .standbyStarted s = .next t ∧ t.role = 1 ∧ t.get POD_TOPO_SUMMIT 0 = s.device
        ∧ t.get SUMMIT_STATUS_HANDOVERS 0 = min 0xFFFF (s.get SUMMIT_STATUS_HANDOVERS 0 + 1))
    ∧ (role = 1 → p.handing = true → exec .standbyStarted s = .next (s.setRole 4))
    ∧ (role ≠ 4 → exec .summitOverlapEnd s = .next s)
    ∧ (role = 4 → p.handing = true → ∃ t, exec .summitOverlapEnd s = .next t ∧ t.role = (if p.back then 2 else 5)
        ∧ t.get SUMMIT_STATUS_TESTS_FAILED 0 = 0 ∧ t.get POD_TOPO_SUMMIT 0 = s.get POD_TOPO_STANDBY 0)
    ∧ (role = 4 → p.handing = false → ∃ t, exec .summitOverlapEnd s = .next t ∧ t.role = 1 ∧ t.get POD_TOPO_SUMMIT 0 = s.device)
    ∧ (role ≠ 5 → exec (.summitSelfTest passes) s = .next s)
    ∧ (role = 5 → p.passes < 2 → exec (.summitSelfTest true) s = .next { s with podnet := { p with passes := p.passes + 1 } })
    ∧ (role = 5 → 2 ≤ p.passes → ∃ t, exec (.summitSelfTest true) s = .next t ∧ t.role = 3 ∧ t.podnet.back = true)
    ∧ (role = 5 → ∃ t, exec (.summitSelfTest false) s = .next t ∧ t.podnet.passes = 0
        ∧ t.get SUMMIT_STATUS_TESTS_FAILED 0 = min 15 (s.get SUMMIT_STATUS_TESTS_FAILED 0 + 1)
        ∧ t.role = (if 7 ≤ s.get SUMMIT_STATUS_TESTS_FAILED 0 then 0 else 5))
    -- joins
    ∧ (role ≠ 1 ∨ valid = false → exec (.join device valid) s = .next s)
    ∧ (role = 1 → p.joining.isSome = true → exec (.join device true) s = .next { s with podnet := { p with joins := p.joins ++ [d] } })
    ∧ (role = 1 → p.joining = none → s.deviceDead d = false → ∃ t, exec (.join device true) s = .next t ∧ t.podnet.joining = some d
        ∧ tells t [.command p.nextCmd (.identity device (Fin.ofNat 4 (s.get POD_TOPO_LAYOUT 0)) (s.flag POD_CFG_FULL_CLASS 0)),
            .command ((p.nextCmd + 1) % 2 ^ 32) (.emptyWindows device),
            .prepare ((p.nextCmd + 2) % 2 ^ 32) ((s.get POD_TOPO_EPOCH 0 + 1) % 65536)]
        ∧ t.podnet.swapping = some ((s.get POD_TOPO_EPOCH 0 + 1) % 65536) ∧ t.regs = s.regs)
    -- outings
    ∧ (256 ≤ ob.toNat → ∃ t, exec (.outingCreate ob [c] [(m, n)] share) s = .next t ∧ s.recorded t 11 6 0 13 0xFF 0x3FF 0 0 0 ∧ t.regs = s.regs)
    ∧ (ost ≠ 0 → ∃ t, exec (.outingCreate (BitVec.ofNat 10 o.val) [c] [(m, n)] share) s = .next t
        ∧ s.recorded t 11 6 0 13 0xFF o.val 0 0 0 ∧ t.regs = s.regs)
    ∧ (ost = 0 → n.val * 2 ^ 30 < s.capacity m.val → s.otherShares o.val + share.toNat ≤ 56 →
        ∃ t, exec (.outingCreate (BitVec.ofNat 10 o.val) [c] [(m, n)] share) s = .next t
          ∧ t.get CORE_OUTING_OUTING (coreNum c) = o.val ∧ t.get GRANULE_OWNER_OWNER (m.val * 128 + n.val) = o.val
          ∧ t.get LINK_RES_SHARE o.val = share.toNat ∧ s.onlyFields [(CORE_OUTING_OUTING, coreNum c),
              (RegName.GRANULE_OWNER.whole, m.val * 128 + n.val), (LINK_RES_SHARE, o.val)] t)
    ∧ (ost = 0 → exec (.outingLive o) s = .next (s.put OUTING_STATUS_STATE o.val 1))
    ∧ (ost ≠ 0 → exec (.outingLive o) s = .next s)
    ∧ (pass → ∃ t, exec (.teardown seq o) s = .next t ∧ numbered t ∧ tells t [.torn o.val]
        ∧ (role = 1 → ost = 1 → t.get OUTING_STATUS_STATE o.val = 2)
        ∧ (∀ k < 36, s.get CORE_OUTING_OUTING k = o.val → t.get CORE_OUTING_OUTING k = 0x3FF ∧ (t.core k).unacked = []
            ∧ (t.core k).slots = [] ∧ (t.core k).merges = [])
        ∧ ∀ x ∈ allReds, s.redState x ≠ 0 → s.redOuting x = o.val → t.redState x = 0)
    ∧ (ost ≠ 2 → exec (.torn o device) s = .next s)
    ∧ (ost = 2 → SMap.get p.torn o.val [] = [] → s.living = [d] → ∃ t, exec (.torn o device) s = .next t
        ∧ t.get OUTING_STATUS_STATE o.val = 3 ∧ s.recorded t 11 5 2 13 0xFF o.val 0 0 0)
    ∧ (ost = 2 → SMap.get p.torn o.val [] = [] → s.living = [d, d2.val] → d ≠ d2.val →
        ∃ t, exec (.torn o device) s = .next t ∧ SMap.get t.podnet.torn o.val [] = [d] ∧ t.regs = s.regs)

/-! ### The event log, fencing, power and heat -/

/-- The event log, device faults, fences and triplicated words (R7, R418-R424, R430, R434-R436): a record reaches its place in the
early or the placed ring, or is counted; a value outside its register's list is a record; a fence stops its position and is
recorded with its kind; a substitution goes DRAINING, COPYING, READY, or FAILED; the checker restores the majority and counts each copy it rewrites.
The model's choices in it: log entries 54, 55. -/
def Obligations.RecordsFencesAndTriplicates : Prop :=
  ∀ (die : Fin 17) (unit : BitVec 8) (kd : Fin 4) (c : CoreRef) (target : BitVec 4) (fence : Bool) (addr : BitVec 48)
      (x y z v : BitVec 64) (s : State),
    let seq := (s.word .LOG_SEQ 0).toNat + 1
    let source := die.val * 256 + unit.toNat
    let count := SMap.get s.logCounts source (0, 0)
    let oldest (e : Event) : Prop := s.events.find? (fun e => e.die == die.val && e.unit == unit.toNat) = some e
    let room := 2 ^ 62 > (s.word .LOG_SEQ 0).toNat
    let base := v.toNat / 2 ^ 22 * 2 ^ 22
    let placeable := 0x80000000 ≤ base ∧ base + 0x400000 ≤ 0x84000000
    let last := (s.word .LOG_SEQ 0).toNat
    let d := kd.val
    let p := target.toNat
    let k := 9 * d + p
    let st := s.get FENCE_STATUS_SUBST_STATE d
    let busy := (1 ≤ st ∧ st ≤ 3) ∨ s.isFenced k = true ∨ s.get CORE_MAP_SPARE d = p
    let spare := s.get CORE_MAP_SPARE d
    let ready := s.flag BATCH_MARK_VALID k = true ∧ spare ≤ 8 ∧ s.isFenced (9 * d + spare) = false ∧ spare ≠ p
    let fenced (t : State) (k : Nat) : Prop := let h := s.core k
      t.core k = { h with
        st := .fenced, drain := .none, redirect := none, held := none, force := false, pipe := [], claims := [],
        waitCount := if h.st = .frozenWait then 0 else h.waitCount, l1 := if h.st = .frozenWait then false else h.l1,
        wakeAsked := if h.st = .frozenWait then false else h.wakeAsked }
      ∧ (∀ j, j ≠ k → t.core j = s.core j) ∧ t.get FENCE_STATUS_FENCED (k / 9) = s.get FENCE_STATUS_FENCED (k / 9) ||| 2 ^ (k % 9)
    let records (t : State) (k : Nat) (l : List (Nat × Nat × Nat)) : Prop :=
      ∃ new : List Event, t.events = s.events ++ new ∧ new.map (fun e => (e.code, e.sev, e.d2.toNat)) = l
        ∧ ∀ e ∈ new, e.cls = 2 ∧ e.die = k / 9 ∧ e.unit = k % 9
    -- the log
    ((∀ e ∈ s.events, ¬ (e.die = die.val ∧ e.unit = unit.toNat)) → exec (.eventRecordAppend die ⟨unit, none⟩) s = .next s)
    ∧ (∀ e, oldest e → room → e.sev = 3 ∨ count.1 < 64 → ∃ t, exec (.eventRecordAppend die ⟨unit, none⟩) s = .next t
        ∧ t.events = s.events.erase e ∧ (t.word .LOG_SEQ 0).toNat = seq
        ∧ (s.logBase = 0 → Mem.bytes t.early (seq % 256 * 64) 64 = s.recordBytes seq e ∧ t.stewardMem = s.stewardMem)
        ∧ (s.logBase ≠ 0 → Mem.bytes t.stewardMem (s.logBase + seq % 65536 * 64) 64 = s.recordBytes seq e)
        ∧ (e.sev ≠ 3 → SMap.get t.logCounts source (0, 0) = (count.1 + 1, count.2) ∧ t.fatal = s.fatal)
        ∧ (e.sev = 3 → t.fatal = (s.fatal ++ [s.recordBytes seq e]).drop (s.fatal.length - 1023)))
    ∧ (∀ e, oldest e → e.sev ≠ 3 → 64 ≤ count.1 → ∃ t, exec (.eventRecordAppend die ⟨unit, none⟩) s = .next t ∧ t.events = s.events.erase e
        ∧ t.regs = s.regs ∧ t.early = s.early ∧ t.stewardMem = s.stewardMem
        ∧ SMap.get t.logCounts source (0, 0) = (count.1, count.2 + 1))
    ∧ exec (.eventRecordAppend die ⟨unit, some (0, v)⟩) s
        = exec (.eventRecordAppend die ⟨unit, none⟩) (s.raise 1 4 2 die.val unit.toNat 0x3FF 0 v 0)
    ∧ (∀ r i, addr ≠ 0 → locate addr.toNat = .reg r i → exec (.eventRecordAppend die ⟨unit, some (addr, v)⟩) s
        = exec (.eventRecordAppend die ⟨unit, none⟩)
            (if outsideList r i v = true then s.raise 1 4 2 die.val unit.toNat 0x3FF (BitVec.ofNat 64 addr.toNat) v 0 else s))
    ∧ (s.logCounts.filter (fun q => q.2.2 != 0) = [] → exec .suppressionIntervalEnd s = .next { s with logCounts := [] })
    ∧ (∀ q, s.logCounts.filter (fun q => q.2.2 != 0) = [q] → room → ∃ t, exec .suppressionIntervalEnd s = .next t ∧ t.logCounts = []
        ∧ t.get LOG_STATUS_SUPPRESSED 0 = min 0xFFFFFFFF (s.get LOG_STATUS_SUPPRESSED 0 + q.2.2) ∧ (t.word .LOG_SEQ 0).toNat = seq
        ∧ (s.logBase = 0 → Mem.bytes t.early (seq % 256 * 64) 64 = s.recordBytes seq
            ⟨0x0E, 1, 1, q.1 / 256, q.1 % 256, 0x3FF, s.stepCount (q.1 / 256), BitVec.ofNat 64 q.2.2, 0, 0, none⟩))
    ∧ (s.logBase ≠ 0 ∨ ¬ placeable → ∃ t, exec (.logBaseWrite v) s = .next t ∧ t.regs = s.regs ∧ t.stewardMem = s.stewardMem
        ∧ ∃ e, t.events = s.events ++ [e] ∧ e.cls = 1 ∧ e.code = (if s.logBase ≠ 0 then 3 else 1))
    ∧ (s.logBase = 0 → placeable → ∃ t, exec (.logBaseWrite v) s = .next t ∧ t.logBase = base ∧ t.early = s.early
        ∧ ∀ i < min last 256, Mem.bytes t.stewardMem (base + (last - i) % 65536 * 64) 64 = Mem.bytes s.early ((last - i) % 256 * 64) 64)
    -- fences
    ∧ (p ≤ 8 → ¬ busy → ∃ t, exec (.fenceWrite kd target) s = .next t ∧ t.get CORE_FENCE_TARGET d = p ∧ fenced t k
        ∧ records t k [(3, 2, 1)] ∧ t.get FENCE_STATUS_SUBST_STATE d = st)
    ∧ (p ≤ 8 → busy → ∀ i ∈ [Instr.fenceWrite kd target, .substWrite kd target fence], ∃ t, exec i s = .next t ∧ t.regs = s.regs
        ∧ t.cores = s.cores ∧ ∃ e, t.events = s.events ++ [e] ∧ e.cls = 1 ∧ e.code = 3)
    ∧ (p ≤ 8 → ¬ busy → ready → ∃ t, exec (.substWrite kd target fence) s = .next t ∧ t.get FENCE_STATUS_SUBST_STATE d = 1
        ∧ t.get FENCE_STATUS_SUBST_FROM d = p ∧ fenced t k ∧ records t k [(3, 1, 2)])
    ∧ (p ≤ 8 → ¬ busy → ¬ ready → SMap.get s.held d [] = [] → ∃ t, exec (.substWrite kd target fence) s = .next t
        ∧ t.get FENCE_STATUS_SUBST_STATE d = 5 ∧ t.get FENCE_STATUS_SUBST_FROM d = p ∧ fenced t k
        ∧ records t k [(3, 1, 2), (5, 2, 1)])
    ∧ (let k := coreNum c
        let st := s.get FENCE_STATUS_SUBST_STATE (k / 9)
        let from_ := s.get FENCE_STATUS_SUBST_FROM (k / 9)
        (s.isFenced k = false → s.get CORE_MAP_SPARE (k / 9) ≠ k % 9 ∨ st = 0 ∨ 3 < st →
          ∃ t, exec (.regionPowerFail c) s = .next t ∧ fenced t k ∧ records t k [(3, 2, 3)])
        ∧ (s.isFenced k = true → from_ ≠ k % 9 ∨ (st ≠ 1 ∧ st ≠ 2) → exec (.regionPowerFail c) s = .next s)
        ∧ (s.isFenced k = true → from_ = k % 9 → st = 1 ∨ st = 2 → SMap.get s.held (k / 9) [] = [] →
          ∃ t, exec (.regionPowerFail c) s = .next t ∧ t.get FENCE_STATUS_SUBST_STATE (k / 9) = 5 ∧ records t k [(5, 2, st + 1)]
            ∧ t.cores = s.cores))
    ∧ (let from_ := 9 * d + s.get FENCE_STATUS_SUBST_FROM d
        let dest := 9 * d + spare
        (st ≠ 1 ∨ s.unacked from_ ≠ 0 → exec (.substDrainComplete kd) s = .next s)
        ∧ (st = 1 → s.unacked from_ = 0 → exec (.substDrainComplete kd) s = .next (s.put FENCE_STATUS_SUBST_STATE d 2))
        ∧ (st ≠ 2 → exec (.substCopyComplete kd) s = .next s)
        ∧ (st = 2 → from_ ≠ dest → SMap.wf Ecc.good (s.core from_).storeEcc = true → ∃ t, exec (.substCopyComplete kd) s = .next t ∧ t.get FENCE_STATUS_SUBST_STATE d = 3
          ∧ (t.core dest).store = (s.core from_).store ∧ (t.core dest).imem = (s.core from_).imem
          ∧ (∀ w, (t.core dest).ecc w = (if (s.core from_).ecc w = .bad then .bad else .good)) ∧ (t.core dest).cairns = (s.core dest).cairns
          ∧ (∀ w, (t.core from_).ecc w = (if (s.core from_).ecc w = .bad then .bad else .good))
          ∧ ∀ j, j ≠ dest → j ≠ from_ → t.core j = s.core j))
    -- triplicated words
    ∧ (∀ r i f, locate addr.toNat = .reg r i → triplicated r = some f →
        let value (w : Word) := bits f.hi f.lo w.toNat
        let m := majority x y z
        let holder := holderDie (addrOf r i)
        ∃ t, exec (.triplicateCheck addr (x, y, z)) s = .next t ∧ t.get f i = value m ∧ t.get TMR_STATUS_CORRECTIONS holder
            = min 0xFFFFFFFF (s.get TMR_STATUS_CORRECTIONS holder + ([x, y, z].filter (fun w => value w != value m)).length)
          ∧ State.sameBits [(f, i), (TMR_STATUS_CORRECTIONS, holder)] s t)
    ∧ (∀ r i, locate addr.toNat = .reg r i → triplicated r = none → exec (.triplicateCheck addr (x, y, z)) s = .next s)

/-- The supply, shedding, saving and restoring, the input limit, and the power ladder (R437, R440-R442, R446-R453, R457, R458): what each
event leaves of PWR_STATUS, the counts, the shed hold, POD_SAVING and the rungs.
The model's choices in it: log entries 5, 31, 56, 57. -/
def Obligations.SupplyAndLadder : Prop :=
  ∀ (c : CoreRef) (vin : BitVec 14) (iin pin avg : BitVec 13) (settled vinHeld : Bool) (area : List Byte) (device : Fin 64) (die : Fin 14)
      (s : State),
    let st := s.powerState
    let w := s.power
    let free := s.pins.resetLow = false ∧ s.pins.held = false
    let sheds (t : State) (reason : Nat) (hold : Bool) : Prop := t.powerState = 1 ∧ t.power.shed = true ∧ t.power.reason = reason
      ∧ t.power.hold = hold ∧ t.isSaving s.device = true ∧ t.podnet.sent = s.podnet.sent ++ [.saving] ∧ t.cores = s.cores
      ∧ ∀ x < 30, (t.link x).stopped = true
    let record (t : State) (code sev : Nat) : Prop := s.recorded t 12 code sev 13 0xFF 0x3FF 0 0 0
    let dark (t : State) : Prop := t.pins.held = true ∧ t.pins.up = false ∧ t.powerState = 0 ∧ t.flash = s.flash ∧ t.pending = s.pending
      ∧ t.part = s.part ∧ ∀ k, t.core k = Core.reset
    let k := coreNum c
    let resting := (s.core k).st = .stopped ∨ (s.core k).st = .halted
    let limit := s.powerLimit
    let rung := s.get MODULE_PWR_RUNG 0
    -- the supply
    (¬ free → exec .vinOvervoltage s = .next s)
    ∧ (free → st = 0 → ∃ t, exec .vinOvervoltage s = .next t ∧ sheds t 3 true)
    ∧ (free → st = 1 ∨ st = 2 → exec .vinOvervoltage s = .next { s with power := { w with hold := true } })
    ∧ (free → st = 3 → ∃ t, exec .vinOvervoltage s = .next t ∧ t.powerState = 5 ∧ t.pins.held = true ∧ t.pins.up = false
        ∧ t.flash = s.flash ∧ ∀ k < 36, t.core k = (s.core k).afterReset)
    ∧ (st = 5 → exec .vinOvervoltage s = .next s)
    ∧ (∃ t, exec (.vinLowBand vin) s = .next t ∧ t.get PWR_STATUS_VIN 0 = vin.toNat ∧ t.get PWR_STATUS_UNDERVOLT 0 = 1
        ∧ (s.get PWR_STATUS_UNDERVOLT 0 = 0 → record t 1 1) ∧ (s.get PWR_STATUS_UNDERVOLT 0 = 1 → t.events = s.events)
        ∧ State.sameBits ([(PWR_STATUS_VIN, 0), (PWR_STATUS_UNDERVOLT, 0)] ++ clockFields) s t)
    ∧ (∃ t, exec (.vinLowBandExit vin) s = .next t ∧ t.get PWR_STATUS_VIN 0 = vin.toNat ∧ t.get PWR_STATUS_UNDERVOLT 0 = 0
        ∧ s.onlyFields ([(PWR_STATUS_VIN, 0), (PWR_STATUS_UNDERVOLT, 0)] ++ clockFields) t)
    ∧ (s.pins.resetLow = true → exec .powerWarning s = .next s)
    ∧ (free → st = 0 ∨ st = 4 → ∃ t, exec .powerWarning s = .next t ∧ sheds t 1 false ∧ t.get PWR_STATUS_WARN 0 = 1
        ∧ t.get PWR_COUNTS_WARNINGS 0 = min 0xFFFF (s.get PWR_COUNTS_WARNINGS 0 + 1))
    ∧ (s.pins.resetLow = false → s.pins.held = true ∨ (st ≠ 0 ∧ st ≠ 4) → ∃ t, exec .powerWarning s = .next t ∧ t.powerState = st
        ∧ t.get PWR_STATUS_WARN 0 = 1 ∧ t.get PWR_COUNTS_WARNINGS 0 = min 0xFFFF (s.get PWR_COUNTS_WARNINGS 0 + 1) ∧ t.power = w
        ∧ record t 2 1)
    ∧ exec .warningClear s = .next (s.put PWR_STATUS_WARN 0 0)
    ∧ (∃ t, exec .brownOut s = .next t ∧ dark t)
    ∧ exec .inrush s = .next { s with power := { w with inrush := true } }
    -- saving and restoring
    ∧ (st ≠ 1 → exec .shedComplete s = .next s)
    ∧ (st = 1 → w.noSave = true → exec .shedComplete s = .next (s.put PWR_STATUS_STATE 0 3))
    ∧ (st = 1 → w.noSave = false → ∃ t, exec .shedComplete s = .next t ∧ t.powerState = 2 ∧ t.pins.pfsave = false
        ∧ t.power = { w with begun := s.uptime } ∧ t.slot w.slot = [0])
    ∧ (st ≠ 2 → exec (.saveComplete vinHeld area) s = .next s)
    ∧ (st = 2 → w.resetWaits = false → w.hold = false → w.dogWaits = false → w.noSave = false →
        ∃ t, exec (.saveComplete vinHeld area) s = .next t ∧ t.powerState = (if vinHeld then 4 else 3) ∧ t.pins.pfsave = true
          ∧ t.get PWR_COUNTS_SAVES 0 = min 0xFFFF (s.get PWR_COUNTS_SAVES 0 + 1)
          ∧ t.get PWR_COUNTS_RECOVERED 0 = (if vinHeld then min 0xFFFF (s.get PWR_COUNTS_RECOVERED 0 + 1) else s.get PWR_COUNTS_RECOVERED 0)
          ∧ t.power = w ∧ t.cores = s.cores)
    ∧ (st = 2 → w.resetWaits = false → w.hold = true → ∃ t, exec (.saveComplete vinHeld area) s = .next t ∧ t.powerState = 5
        ∧ t.pins.held = true ∧ t.pins.up = false)
    ∧ (st ≠ 3 → exec .saveWaitTimeout s = .next s ∧ exec .restoreStart s = .next s)
    ∧ (st = 3 → ∃ t, exec .saveWaitTimeout s = .next t ∧ dark t)
    ∧ (st = 3 → ∃ t, exec .restoreStart s = .next t ∧ t.powerState = 4 ∧ t.power = w
        ∧ ∀ x < 30, (t.link x).stopped = false ∧ t.get POD_LINK_STATUS_STATE x
          = (if s.get POD_LINK_STATUS_STATE x = 2 then 1 else s.get POD_LINK_STATUS_STATE x))
    ∧ (st ≠ 4 → exec .restoreComplete s = .next s)
    ∧ (st = 4 → w.noSave = false → w.requests = [] → SMap.get s.wakeHeld 37 [] = [] → ∃ t, exec .restoreComplete s = .next t ∧ t.powerState = 0 ∧ t.power.shed = false
        ∧ t.isSaving s.device = false ∧ t.podnet.sent = s.podnet.sent ++ [.resumed] ∧ t.cores = s.cores)
    ∧ (∃ t, exec (.saving device) s = .next t ∧ t.isSaving device.val = true ∧ s.onlyFields [(RegName.POD_SAVING.whole, 0)] t
        ∧ ∀ q, q ≠ device.val → t.isSaving q = s.isSaving q)
    ∧ (SMap.get s.podnet.saving device.val [] = [] → ∃ t, exec (.resumed device) s = .next t ∧ t.isSaving device.val = false
        ∧ (∀ q, q ≠ device.val → t.isSaving q = s.isSaving q) ∧ t.out = s.out ∧ t.events = s.events)
    -- the limit
    ∧ (∃ t, exec (.powerSample vin iin pin avg settled) s = .next t ∧ t.get PWR_STATUS_VIN 0 = vin.toNat
        ∧ t.get PWR_STATUS_IIN 0 = iin.toNat ∧ t.get PWR_STATUS_PIN 0 = pin.toNat ∧ t.power.avg = avg.toNat
        ∧ t.get PWR_STATUS_LIMITING 0 = (if limit < pin.toNat then 1 else if settled ∧ pin.toNat * 100 ≤ limit * 98 then 0
            else s.get PWR_STATUS_LIMITING 0)
        ∧ (limit < pin.toNat → s.get PWR_STATUS_LIMITING 0 = 0 → record t 8 0)
        ∧ (w.trip = true → pin.toNat < limit → t.power.trip = false ∧ t.get PWR_STATUS_TRIPPED 0 = 0)
        ∧ (t.get PWR_STATUS_LIMITING 0 = 1 → s.clk.lastLower = 0 → 0x60 < s.clockNow.1 → s.stepsTo t (s.clockNow.1 - 1))
        ∧ (t.get PWR_STATUS_LIMITING 0 = 0 → w.trip = false → t.clockNow = s.clockNow))
    ∧ (st ≠ 0 → exec .currentTrip s = .next s)
    ∧ (st = 0 → ∃ t, exec .currentTrip s = .next t ∧ t.get PWR_STATUS_TRIPPED 0 = 1 ∧ t.power = { w with trip := true } ∧ record t 7 1
        ∧ t.get PWR_COUNTS_TRIPS 0 = min 0xFFFF (s.get PWR_COUNTS_TRIPS 0 + 1) ∧ t.clockNow = s.clockNow)
    ∧ (SMap.get w.supply die.val 0 ≠ 30 → exec (.supplyMargin die) s = .next s)
    ∧ (SMap.get w.supply die.val 0 = 30 → (∃ r < regionCount die.val, s.flag REGION_STATUS_WARN (die.val * 32 + r) = true) →
        ∃ t, exec (.supplyMargin die) s = .next t ∧ t.regs = s.regs ∧ s.recorded t 12 13 1 die.val 0xFF 0x3FF 0 0 0)
    -- the ladder
    ∧ (∀ p ∈ [(Instr.corePwrL2 c, 2), (.corePwrL3 c, 3), (.corePwrL4 c, 4)],
        (w.shed = false → ∃ t, exec p.1 s = .next t ∧ t.get CORE_PWR_REQ k = p.2
          ∧ t.get CORE_PWR_RUNG k = (if resting then p.2 else s.get CORE_PWR_RUNG k)
          ∧ s.onlyFields [(CORE_PWR_REQ, k), (CORE_PWR_RUNG, k)] t)
        ∧ (w.shed = true → exec p.1 s = .next ((s.put CORE_PWR_REQ k p.2).holdRequest (.core k p.2))))
    ∧ (SMap.get s.wakeHeld k [] = [] → exec (.positionWakeComplete c) s = .next s)
    ∧ (SMap.get s.wakeHeld k [] ≠ [] → exec (.positionWakeComplete c) s
        = .next ({ (if 3 ≤ s.get CORE_PWR_RUNG k then s.put CORE_PWR_RUNG k 2 else s) with
            wakeHeld := SMap.set s.wakeHeld k [] [] }.serveAll (SMap.get s.wakeHeld k [])))
    ∧ (w.shed = true → (∀ p ∈ [(Instr.modulePwrRun, 0), (.modulePwrL5, 1), (.modulePwrL6, 2)],
        exec p.1 s = .next ((s.put MODULE_PWR_REQ 0 p.2).holdRequest (.module p.2)))
        ∧ exec .moduleWake s = .next (s.holdRequest (.wake false)))
    ∧ (rung = 0 → w.shed = false → exec .modulePwrRun s = .next (s.put MODULE_PWR_REQ 0 0))
    ∧ (rung = 6 → w.shed = false → SMap.get s.wakeHeld 36 [] = [] → ∃ t, exec .modulePwrRun s = .next t
        ∧ t.get MODULE_PWR_RUNG 0 = 0 ∧ t.cores = s.cores ∧ ∀ x < 30, (t.link x).stopped = false)
    ∧ (rung = 5 → w.shed = false → SMap.get s.wakeHeld 36 [] = [] → ∀ i ∈ [Instr.modulePwrRun, .moduleWake], ∃ t, exec i s = .next t
        ∧ t.get MODULE_PWR_RUNG 0 = 0 ∧ t.cores = s.cores ∧ ∀ q, 8 ≤ q → q < 32 → t.get PLANE_STATUS_STATE q
          = (if s.get PLANE_STATUS_STATE q = 4 then 2 else s.get PLANE_STATUS_STATE q))
    ∧ (rung ≠ 5 → w.shed = false → exec .moduleWake s = .next s)
    ∧ (w.shed = false → s.allResting = true → rung ≠ 6 → ∃ t, exec .modulePwrL5 s = .next t ∧ t.get MODULE_PWR_RUNG 0 = 5 ∧ t.get MODULE_PWR_REQ 0 = 1
        ∧ t.cores = s.cores ∧ ∀ q, 8 ≤ q → q < 32 → t.get PLANE_STATUS_STATE q
          = (if s.get PLANE_STATUS_STATE q = 2 then 4 else s.get PLANE_STATUS_STATE q))
    ∧ (w.shed = false → s.allResting = false → ∃ t, exec .modulePwrL5 s = .next t ∧ t.get MODULE_PWR_RUNG 0 = rung ∧ record t 14 0
        ∧ State.sameBits [(MODULE_PWR_REQ, 0)] s t)
    ∧ (w.shed = false → s.noOuting = true → ∃ t, exec .modulePwrL6 s = .next t ∧ t.get MODULE_PWR_RUNG 0 = 6 ∧ t.get MODULE_PWR_REQ 0 = 2
        ∧ ∀ x < 30, (t.link x).stopped = true)
    ∧ (w.shed = false → s.noOuting = false → ∃ t, exec .modulePwrL6 s = .next t ∧ t.get MODULE_PWR_RUNG 0 = rung ∧ record t 14 0
        ∧ State.sameBits [(MODULE_PWR_REQ, 0)] s t)

/-- Heat (R454, R456, R457): a sensor pair that agrees works at its larger reading; one whose diode reading is out of range is marked and
works at the other, recorded; a compute die at THROTTLE steps its root down; the shutdown level sheds and holds, or, at the Spur,
takes site 13 away.
The model's choices in it: log entries 19, 32, 57. -/
def Obligations.SensorsAndHeat : Prop :=
  ∀ (die : Fin 17) (diode ring : List Int) (i : Nat) (s : State),
    let ix := die.val * 64 + i
    let n := min (sensorCount die.val) (min diode.length ring.length)
    let d := diode.getD i 0
    let r := ring.getD i 0
    let fine := s.get SENSOR_STATUS_INVALID ix = 0 ∧ s.get SENSOR_STATUS_SUSPECT ix = 0 ∧ badReading r = false
    let level := temp8 (s.get THERM_CTRL_THROTTLE 0)
    (die.val ≠ 14 → ∃ t, exec (.sensorCheck die diode ring) s = .next t ∧ t.cores = s.cores ∧ (i < n →
        t.get SENSOR_STATUS_DIODE ix = shown8 d ∧ t.get SENSOR_STATUS_RING ix = shown8 r
        ∧ (fine → badReading d = false → (d - r).natAbs ≤ 5 → t.get SENSOR_STATUS_OUT_RUNS ix = 0
            ∧ t.get SENSOR_STATUS_INVALID ix = 0 ∧ t.get SENSOR_STATUS_WORKING ix = shown8 (max d r))
        ∧ (fine → badReading d = false → 5 < (d - r).natAbs → s.get SENSOR_STATUS_OUT_RUNS ix < 15 →
            t.get SENSOR_STATUS_OUT_RUNS ix = s.get SENSOR_STATUS_OUT_RUNS ix + 1 ∧ t.get SENSOR_STATUS_SUSPECT ix = 0)
        ∧ (fine → badReading d = false → 5 < (d - r).natAbs → s.get SENSOR_STATUS_OUT_RUNS ix = 15 →
            t.get SENSOR_STATUS_OUT_RUNS ix = 16 ∧ t.get SENSOR_STATUS_SUSPECT ix = 1
            ∧ ∃ e ∈ t.events, e.cls = 12 ∧ e.code = 11 ∧ e.die = die.val ∧ e.unit = i)
        ∧ (fine → badReading d = true → t.get SENSOR_STATUS_INVALID ix = 1 ∧ t.get SENSOR_STATUS_WORKING ix = shown8 r
            ∧ ∃ e ∈ t.events, e.cls = 12 ∧ e.code = 12 ∧ e.die = die.val ∧ e.unit = i)))
    ∧ (die.val = 14 → diode.headD 0 < 110 ∨ s.sitePresent 13 = false → exec (.sensorCheck die diode ring) s = .next s)
    ∧ (die.val = 14 → 110 ≤ diode.headD 0 → s.sitePresent 13 = true →
        exec (.sensorCheck die diode ring) s = exec .spurPowerTrip s ∧ exec (.thermalShutdown true) s = exec .spurPowerTrip s)
    ∧ (s.sitePresent 13 = false → exec (.thermalShutdown true) s = .next s)
    ∧ (s.pins.resetLow = false → s.pins.held = false → s.powerState = 0 → ∃ t, exec (.thermalShutdown false) s = .next t
        ∧ t.powerState = 1 ∧ t.power.shed = true ∧ t.power.reason = 2 ∧ t.power.hold = true
        ∧ ∃ e ∈ t.events, e.cls = 12 ∧ e.code = 10 ∧ e.sev = 3)
    ∧ (s.hottestKc < level → exec .thermalLowerStep s = .next s)
    ∧ (level ≤ s.hottestKc → 0x60 < s.clockNow.1 → ∃ t, exec .thermalLowerStep s = .next t ∧ s.stepsTo t (s.clockNow.1 - 1))
    ∧ (level ≤ s.hottestKc → s.clockNow = (0x60, 2) → ∃ t, exec .thermalLowerStep s = .next t
        ∧ t.clk = { s.clk with floorStop := true } ∧ t.clockNow = s.clockNow)
    ∧ (level ≤ s.hottestKc → s.clockNow = (0x60, 3) → ∃ t, exec .thermalLowerStep s = .next t ∧ s.onlyFields clockFields t)

/-! ### Boot, security, the management port and the pins -/

/-- Boot and the security block (R467-R474, R477, R482, R487, R488): a round runs the first source whose image passes every check, or is
counted, recorded and waited after; network boot asks block by block; READY and the watchdog; security commands run one at a time and
blow what they name.
The model's choices in it: log entries 5, 9, 56, 62, 63. -/
def Obligations.BootAndSecurity : Prop :=
  ∀ (eA eB stage2 fuses : Bool) (slot : Fin 2) (key : Fin 4) (target : BitVec 8) (h : FrameHead) (length offset : BitVec 64)
      (data : List Byte) (s : State),
    let w := s.steward
    let f := w.fuses
    let st := s.stage
    let rounds := s.get BOOT_STATUS_ROUNDS 0
    let records (t : State) (l : List (Nat × Nat)) : Prop :=
      t.events = s.events ++ l.map (fun x => ⟨0x0D, x.1, x.2, 13, 0xFF, 0x3FF, s.stepCount 13, 0, 0, 0, none⟩)
    let rejected (stage : Nat) : List (Nat × Nat) := if 2 ≤ stage then [(2, 1)] else []
    let least := min (125000 * 2 ^ rounds) 64000000
    let failed (t : State) (stage source reason : Nat) (l : List (Nat × Nat)) : Prop := t.stage = stage - 1
      ∧ t.get BOOT_STATUS_ROUNDS 0 = min 0xFFFFFFFF (rounds + 1) ∧ t.get BOOT_STATUS_LAST_SOURCE 0 = source
      ∧ t.get BOOT_STATUS_LAST_REASON 0 = reason ∧ records t (l ++ [(3, 2)]) ∧ t.steward.flags.getLsbD 4 = true
      ∧ t.steward.offer = false ∧ t.steward.net = none ∧ ∃ d, t.steward.wait = some d ∧ least ≤ d ∧ d ≤ least + least / 8
    let runs (t : State) (stage source : Nat) (hd body : List Byte) : Prop := t.stage = stage
      ∧ t.get BOOT_STATUS_LAST_SOURCE 0 = source
      ∧ t.get BOOT_STATUS_NETWORK 0 = (if source = 2 ∨ (stage = 2 ∧ w.net1 = true) then 1 else 0)
      ∧ t.steward.meas1 = (if stage = 1 then sha384 (hd ++ body) else w.meas1)
      ∧ t.steward.meas2 = (if stage = 2 then sha384 (hd ++ body) else w.meas2)
      ∧ t.get (if stage = 1 then SVN_STATUS_RUN_STAGE1 else SVN_STATUS_RUN_STAGE2) 0 = imgSvn hd
      ∧ (t.hart 0).pc = BitVec.ofNat 64 (imgEntry hd) ∧ (t.hart 0).mode = 3 ∧ (t.hart 0).on = true
      ∧ (∀ i < 16, stage = 1 → (t.hart i).on = true) ∧ t.get BOOT_STATUS_ROUNDS 0 = rounds
      ∧ t.stewardMem = Mem.setBytes s.stewardMem (imgLoad hd) body
    let hd (stage source : Nat) : List Byte := Mem.bytes s.flash ((2 * (stage - 1) + source) * 0x2000000) 512
    let body (stage source n : Nat) : List Byte := Mem.bytes s.flash ((2 * (stage - 1) + source) * 0x2000000 + 512) (min n (0x2000000 - 512))
    let judged (stage source : Nat) : Option Nat := imageReason f stage (hd stage source) (body stage source)
    let image (stage source : Nat) : List Byte := body stage source (imgLength (hd stage source))
    let placed (stage : Nat) : Prop := stage = 2 → w.kept.fenced = []
    let idle := s.running = true ∧ st < 2 ∧ w.offer = false ∧ w.net = none ∧ s.powerState = 0
    let asks (n : NetBoot) (at_ : Nat) : State := { s with steward := { w with
      offer := false, net := some n, sent := w.sent ++ [⟨n.server, 3, 0, 0, at_, []⟩] } }
    let busy := s.flag SEC_STATUS_BUSY 0 = true
    let command (t : State) (result : Nat) (fs : Fuses) : Prop := t.get SEC_STATUS_BUSY 0 = 1 ∧ t.steward.sec = result
      ∧ t.steward.fuses = fs ∧ t.get SEC_STATUS_RESULT 0 = s.get SEC_STATUS_RESULT 0 ∧ t.cores = s.cores ∧ t.events = s.events
    -- rounds
    (s.mayRound = false → exec (.bootRoundStart eA eB) s = .next s)
    ∧ (w.wait = none → exec (.bootRetryTimer eA eB) s = .next s)
    ∧ (∀ i, (i = Instr.bootRoundStart ∧ w.wait = none) ∨ (i = Instr.bootRetryTimer ∧ w.wait ≠ none) → idle →
        (judged (st + 1) 0 = none → placed (st + 1) → ∃ t, exec (i false eB) s = .next t
          ∧ runs t (st + 1) 0 (hd (st + 1) 0) (image (st + 1) 0))
        ∧ (judged (st + 1) 1 = none → placed (st + 1) → ∃ t, exec (i true false) s = .next t
          ∧ runs t (st + 1) 1 (hd (st + 1) 1) (image (st + 1) 1) ∧ t.get BOOT_STATUS_LAST_REASON 0 = 0x10)
        ∧ (∀ r q, judged (st + 1) 0 = some r → judged (st + 1) 1 = some q → s.get BOOT_CTRL_NET_EN 0 = 0 →
          ∃ t, exec (i false false) s = .next t ∧ failed t (st + 1) 1 q (rejected (st + 1) ++ rejected (st + 1)))
        ∧ (s.get BOOT_CTRL_NET_EN 0 = 0 → ∃ t, exec (i true true) s = .next t
          ∧ failed t (st + 1) 1 0x10 ([(12, 2)] ++ rejected (st + 1) ++ [(12, 2)] ++ rejected (st + 1)))
        ∧ (s.get BOOT_CTRL_NET_EN 0 = 1 → ∃ t version, exec (i true true) s = .next t ∧ t.steward.offer = true ∧ t.steward.wait = none
          ∧ t.steward.loading = some (st + 1) ∧ t.get BOOT_STATUS_ROUNDS 0 = rounds ∧ version.length = 8
          ∧ t.steward.sent = w.sent ++ [⟨0xFFFFFFFFFFFF, 1, 0, 0, st + 1, toLE 16 f.serial.toNat ++ version⟩]))
    -- the network
    ∧ (w.offer = false ∨ 0x2000200 < length.toNat → exec (.bootOffer h length) s = .next s)
    ∧ (w.offer = true → length.toNat ≤ 0x2000200 → exec (.bootOffer h length) s = .next (asks ⟨h.mac, length.toNat, 0, 1, []⟩ 0))
    ∧ (w.offer = false → exec .bootOfferTimeout s = .next s)
    ∧ (w.offer = true → ∃ t, exec .bootOfferTimeout s = .next t ∧ failed t (st + 1) 2 0x11 (rejected (st + 1)))
    ∧ (w.net = none → exec (.bootData h offset data) s = .next s ∧ exec .bootDataTimeout s = .next s)
    ∧ (∀ n : NetBoot, w.net = some n →
        let asked := h.mac = n.server ∧ offset.toNat = n.offset ∧ data.length = min 1024 (n.length - n.offset)
        let all := n.data ++ data
        let stage := w.loading.getD 1
        let found := imageReason f stage (all.take 512) (fun k => (all.drop 512).take k)
        (¬ asked → exec (.bootData h offset data) s = .next s)
        ∧ (asked → n.offset + 1024 < n.length → w.offer = false →
          exec (.bootData h offset data) s = .next (asks { n with offset := n.offset + 1024, tries := 1, data := all } (n.offset + 1024)))
        ∧ (asked → n.length ≤ n.offset + 1024 → found = none → placed stage → stage = 1 ∨ stage = 2 →
          ∃ t, exec (.bootData h offset data) s = .next t
            ∧ runs t stage 2 (all.take 512) ((all.drop 512).take (imgLength (all.take 512))))
        ∧ (∀ r, asked → n.length ≤ n.offset + 1024 → found = some r →
          ∃ t, exec (.bootData h offset data) s = .next t ∧ failed t (st + 1) 2 r (rejected (st + 1)))
        ∧ (n.tries < 8 → w.offer = false → exec .bootDataTimeout s = .next (asks { n with tries := n.tries + 1 } n.offset))
        ∧ (8 ≤ n.tries → ∃ t, exec .bootDataTimeout s = .next t ∧ failed t (st + 1) 2 0x11 (rejected (st + 1))))
    -- READY
    ∧ (st ≠ 2 ∨ s.flag BOOT_CTRL_READY 0 = true → exec (.stage2Timeout eB) s = .next s)
    ∧ (st = 2 → s.flag BOOT_CTRL_READY 0 = false →
        (s.get BOOT_STATUS_LAST_SOURCE 0 = 2 → ∃ t, exec (.stage2Timeout eB) s = .next t ∧ failed t 2 2 0x12 [(2, 1)]
          ∧ t.steward.harts = [] ∧ t.cores = s.cores)
        ∧ (s.get BOOT_STATUS_LAST_SOURCE 0 = 0 → judged 2 1 = none → placed 2 → ∃ t, exec (.stage2Timeout false) s = .next t
          ∧ runs t 2 1 (hd 2 1) (image 2 1) ∧ t.get BOOT_STATUS_LAST_REASON 0 = 0x12))
    ∧ (∃ t, exec .ready s = .next t ∧ t.get BOOT_CTRL_READY 0 = 1 ∧ t.stage = 3
        ∧ s.onlyFields [(BOOT_CTRL_READY, 0), (BOOT_STATUS_STAGE, 0)] t)
    ∧ exec .kick s = .next s
    ∧ (s.flag BOOT_CTRL_READY 0 = false → exec .stewardWatchdogExpiry s = .next s)
    ∧ (s.flag BOOT_CTRL_READY 0 = true → s.powerState ≠ 1 → s.powerState ≠ 2 → (∀ e ∈ s.events, e.sev ≠ 3) →
        ∃ t b, exec .stewardWatchdogExpiry s = .next t ∧ t.pins.held = true ∧ t.pins.up = false ∧ t.get BOOT_CTRL_READY 0 = 0
          ∧ t.fatal.getLast? = some b ∧ (b.drop 24).take 3 = [0x0D, 5, 3] ∧ t.flash = s.flash ∧ t.pending = s.pending)
    ∧ (s.flag BOOT_CTRL_READY 0 = true → s.powerState = 1 ∨ s.powerState = 2 →
        ∃ t, exec .stewardWatchdogExpiry s = .next t ∧ t.pins = s.pins ∧ t.cores = s.cores ∧ t.power = { s.power with dogWaits := true })
    -- the security block
    ∧ (busy → ∀ i ∈ [Instr.extend, .setUserData, .enrol slot fuses, .revoke key fuses, .advance stage2 target fuses],
        ∃ t, exec i s = .next t ∧ t.regs = s.regs ∧ t.steward = w ∧ ∃ e, t.events = s.events ++ [e] ∧ e.cls = 1 ∧ e.code = 3)
    ∧ (¬ busy → ∃ t, exec .extend s = .next t ∧ command t 1 f ∧ t.steward.user = w.user
        ∧ t.steward.measExt = sha384 (toBE 48 w.measExt.toNat ++ s.secData 48))
    ∧ (¬ busy → ∃ t, exec .setUserData s = .next t ∧ command t 1 f ∧ t.steward.measExt = w.measExt
        ∧ ∀ i < 8, (t.steward.user.toNat / 2 ^ (64 * i)) % 2 ^ 64 = (s.word .SEC_DATA i).toNat)
    ∧ (let k := 2 + slot.val
        let bit := f.programmed.getLsbD k
        (¬ busy → bit = true → ∃ t, exec (.enrol slot fuses) s = .next t ∧ command t 2 f)
        ∧ (¬ busy → bit = false → ∃ t, exec (.enrol slot true) s = .next t ∧ command t 1 { f with
            hashes := SMap.set f.hashes k (BitVec.ofNat 384 (beNat (s.secData 48))) 0, programmed := f.programmed ||| (1 <<< k) }
            ∧ t.get SVN_STATUS_PROGRAMMED 0 = (f.programmed ||| (1 <<< k)).toNat)
        ∧ (¬ busy → bit = false → ∃ t, exec (.enrol slot false) s = .next t ∧ t.steward.sec = 3 ∧ t.get SEC_STATUS_BUSY 0 = 1
            ∧ t.steward.fuses.revoked = f.revoked ∧ t.steward.fuses.min1 = f.min1 ∧ t.steward.fuses.min2 = f.min2))
    ∧ (let bit := f.revoked.getLsbD key.val;
        (¬ busy → bit = true → ∃ t, exec (.revoke key fuses) s = .next t ∧ command t 1 f)
        ∧ (¬ busy → bit = false → ∃ t, exec (.revoke key true) s = .next t ∧ command t 1 { f with revoked := f.revoked ||| (1 <<< key.val) }
            ∧ t.get SVN_STATUS_REVOKED 0 = (f.revoked ||| (1 <<< key.val)).toNat))
    ∧ (let run := s.get (if stage2 then SVN_STATUS_RUN_STAGE2 else SVN_STATUS_RUN_STAGE1) 0
        let old := if stage2 then f.min2 else f.min1
        let new := min target.toNat run
        (¬ busy → new ≤ old → ∃ t, exec (.advance stage2 target fuses) s = .next t ∧ command t 1 f)
        ∧ (¬ busy → old < new → ∃ t, exec (.advance stage2 target true) s = .next t
          ∧ command t 1 (if stage2 then { f with min2 := new } else { f with min1 := new })
          ∧ t.get (if stage2 then SVN_STATUS_MIN_STAGE2 else SVN_STATUS_MIN_STAGE1) 0 = new))
    ∧ (¬ busy → exec .secCommandComplete s = .next s)
    ∧ (busy → w.sec ≤ 3 → ∃ t, exec .secCommandComplete s = .next t ∧ t.get SEC_STATUS_BUSY 0 = 0 ∧ t.get SEC_STATUS_RESULT 0 = w.sec
        ∧ (if w.claimed.getLsbD 20 then t.steward.again.getLsbD 20 = true else t.steward.irq.getLsbD 20 = true) ∧ t.steward.blow = .nothing ∧ t.steward.fuses = f
        ∧ records t (match w.blow with
          | .nothing => []
          | .slot _ _ _ => [(6, 0)]
          | .revoke _ _ => [(7, 0)]
          | .svn _ _ => [(8, 0)]))

/-- The management port, the I3C target, the status window, the harts' timers, and the pins (R437, R462, R463, R465, R478, R480, R483-R486,
R504-R506): which frames are served, refused or answered busy; what each write, reset and test port command leaves.
The model's choices in it: log entries 9, 11, 12, 15, 16, 36, 37, 61. -/
def Obligations.ManagementPortAndPins : Prop :=
  ∀ (h : FrameHead) (nonce : BitVec 384) (a v : BitVec 64) (amount : BitVec 32) (data : List Byte) (kind : BitVec 8) (up fec : Bool)
      (hart : Fin 16) (n : Fin 67) (own : BitVec 7) (page offset code b : BitVec 8) (ready : Bool)
      (vias : List (Fin 8 × Fin 64 × Fin 72)) (load : BitVec 32) (update : Option (BitVec 32)) (s : State),
    let w := s.steward
    let x := a.toNat
    let steward (f : Steward → Steward) : State := { s with steward := f w }
    let calls (n : Nat) (w : Steward) : Steward := if w.claimed.getLsbD n then { w with again := w.again ||| (1 <<< n) }
      else { w with irq := w.irq ||| (1 <<< n) }
    let reply (kind status arg : Nat) (l : List Byte) : Frame := ⟨h.mac, kind + 0x80, status, h.xid, arg, l⟩
    let replied (kind status arg : Nat) (l : List Byte) : State := steward (fun w => { w with sent := w.sent ++ [reply kind status arg l] })
    let refused (i : Instr) (kind arg : Nat) : Prop := ∃ t, exec i s = .next t ∧ t.steward.sent = w.sent ++ [reply kind 1 arg []]
      ∧ s.onlyRecord [] t 13 10 0 13 0xFF 0x3FF 0 0 0
    let named := s.flag HOST_CTRL_EN 0 = true ∧ h.mac = BitVec.ofNat 48 (s.get HOST_CTRL_HOST_MAC 0)
    let summit := s.get POD_TOPO_SUMMIT 0 = s.device
    let known := w.xids.find? (fun q => q.1 == h.xid)
    let dead := s.deviceDead (s.get POD_TOPO_SUMMIT 0) = true ∧ s.deviceDead (s.get POD_TOPO_STANDBY 0) = true
    -- host frames
    (¬ (named ∧ summit) → ∀ p ∈ [(Instr.hostRead h a, 0x20, x), (.hostWrite h a v, 0x21, x), (.hostCairnRead h a, 0x22, x),
        (.hostCairnAdd h a amount, 0x23, x), (.hostStatus h a, 0x24, x), (.hostMailbox h data, 0x25, 0)], refused p.1 p.2.1 p.2.2)
    ∧ (inRegSpace x = false → refused (.hostRead h a) 0x20 x ∧ refused (.hostWrite h a v) 0x21 x)
    ∧ (∀ r i, named → summit → inRegSpace x = true → x % 8 = 0 → locate x = .reg r i → outsideList r i (s.view r i) = false →
        exec (.hostRead h a) s = .next (replied 0x20 0 x (toLE 8 (s.view r i).toNat)))
    ∧ (s.flag HOST_CTRL_WRITE_EN 0 = false ∨ inStewardBlocks x = true → refused (.hostWrite h a v) 0x21 x)
    ∧ (named → summit → s.flag HOST_CTRL_WRITE_EN 0 = true → inStewardBlocks x = false → inRegSpace x = true →
        ∃ t, exec (.registerWrite ⟨none, BitVec.ofNat 48 x⟩ .b8 v) s = .next t
          ∧ exec (.hostWrite h a v) s = .next { t with steward := { t.steward with sent := t.steward.sent ++ [reply 0x21 0 x []] } })
    ∧ (s.hostCairn a = none → refused (.hostCairnRead h a) 0x22 x ∧ refused (.hostCairnAdd h a amount) 0x23 x)
    ∧ (∀ k c, named → summit → s.hostCairn a = some (k, c) →
        exec (.hostCairnRead h a) s = .next (replied 0x22 0 x (toLE 8 (s.cairnRecord k c).toNat))
        ∧ (∀ q, known = some q → exec (.hostCairnAdd h a amount) s = .next (steward (fun w => { w with sent := w.sent ++ [q.2] })))
        ∧ (known = none → ∃ t, exec (.hostCairnAdd h a amount) s = .next t ∧ t.cores = (s.stewardAdd k c amount).cores
          ∧ t.steward.sent.getLast? = some (reply 0x23 0 x []) ∧ t.steward.xids.getLast? = some (h.xid, reply 0x23 0 x [])))
    ∧ (named → summit → ∃ l, exec (.hostStatus h a) s = .next (replied 0x24 0 x l) ∧ l.length = min 1024 (4096 - x)
        ∧ ∀ j < l.length, l.getD j 0 = BitVec.ofNat 8 ((SMap.get w.window ((x + j) / 8) 0).toNat / 256 ^ ((x + j) % 8)))
    ∧ (named → summit → exec (.hostMailbox h data) s = .next (steward (fun w => calls 15 { w with
        queue := w.queue ++ [data], sent := w.sent ++ [reply 0x25 0 0 []] })))
    ∧ (¬ (named ∧ s.flag HOST_CTRL_NAME_EN 0 = true ∧ dead) → refused (.hostNameSummit h) 0x26 0)
    ∧ (named → s.flag HOST_CTRL_NAME_EN 0 = true → dead → ∃ t, exec (.hostNameSummit h) s = .next t ∧ t.role = 1
        ∧ t.get POD_TOPO_SUMMIT 0 = s.device ∧ t.steward.sent = w.sent ++ [reply 0x26 0 0 []] ∧ t.podnet.joining = none
        ∧ t.podnet.swapping = none ∧ t.podnet.snapshot = [] ∧ s.recorded t 13 11 1 13 0xFF 0x3FF 0 0 0
        ∧ ∀ o < 256, s.get OUTING_STATUS_STATE o = 1 → t.get OUTING_STATUS_STATE o = 2)
    ∧ (∀ k ∈ [1, 2, 4], exec (.badFrame h k) s = .next s)
    ∧ (kind ≠ 1 → kind ≠ 2 → kind ≠ 4 → exec (.badFrame h kind) s = .next (replied (kind.toNat % 128) 3 0 []))
    ∧ exec (.firmwareFrame data) s = .next (steward (fun w => calls 15 { w with queue := w.queue ++ [data] }))
    ∧ (w.linkUp = up → exec (.mgmtLinkStateChange ⟨up, fec⟩) s = .next (steward (fun w => { w with fec := fec })))
    ∧ (w.linkUp ≠ up → exec (.mgmtLinkStateChange ⟨up, fec⟩) s = .next (steward (fun w => calls 16 { w with fec := fec, linkUp := up })))
    -- attestation
    ∧ (s.stage = 0 ∨ s.powerState = 2 ∨ w.attest ≠ none → exec (.attestReq h nonce) s = .next (replied 0x10 2 0 []))
    ∧ (1 ≤ s.stage → s.powerState ≠ 2 → w.attest = none →
        exec (.attestReq h nonce) s = .next (steward (fun w => { w with attest := some (h, nonce) })))
    ∧ (w.attest = none → exec .attestReply s = .next s)
    ∧ (w.attest = some (h, nonce) → ∃ t l, exec .attestReply s = .next t ∧ t.steward.sent = w.sent ++ [reply 0x10 0 0 l]
        ∧ t.steward.attest = none ∧ s.recorded t 13 9 0 13 0xFF 0x3FF 0 0 0 ∧ l.length = 1064 ∧ l.take 4 = [0x41, 0x54, 0x53, 0x54]
        ∧ (l.drop 0x18).take 48 = toLE 48 nonce.toNat ∧ (l.drop 0x48).take 48 = toBE 48 w.meas1.toNat
        ∧ (l.drop 0x78).take 48 = toBE 48 w.meas2.toNat ∧ (l.drop 0xA8).take 48 = toBE 48 w.measExt.toNat
        ∧ (l.drop 0x158).take 64 = toLE 64 w.user.toNat ∧ (l.drop 0x198).take 8 = toLE 8 s.uptime)
    -- timers and the status window
    ∧ (s.uptime < (s.hart hart.val).cmp.toNat → exec (.machineTimer hart) s = .next s)
    ∧ ((s.hart hart.val).cmp.toNat ≤ s.uptime → ∃ t, exec (.machineTimer hart) s = .next t
        ∧ t.hart hart.val = { s.hart hart.val with mtip := true } ∧ (∀ j, j ≠ hart.val → t.hart j = s.hart j)
        ∧ { t with steward := w } = s)
    ∧ (∃ z, exec (.statusWindowPush n) s = .next (steward (fun w => { w with window := SMap.set w.window n.val z 0 }))
        ∧ (n.val < 36 → z = s.view .CORE_STATUS n.val)
        ∧ (∀ q ∈ [(36, RegName.PWR_STATUS, 0), (37, .THERM_STATUS, 0), (38, .LOG_SEQ, 0), (39, .POD_TOPO, 0), (40, .POD_DEAD, 0),
            (41, .POD_SAVING, 0), (42, .FENCE_STATUS, 0), (45, .FENCE_STATUS, 3), (46, .CLK_STATUS, 0), (49, .CLK_STATUS, 3),
            (50, .TUNE_STATUS, 0), (51, .STACK_STATUS, 0), (58, .STACK_STATUS, 7)], n.val = q.1 → z = s.view q.2.1 q.2.2)
        ∧ (59 ≤ n.val → ∀ o < 32, z.toNat / 4 ^ o % 4 = s.get OUTING_STATUS_STATE (32 * (n.val - 59) + o)))
    -- the I3C target
    ∧ exec (.i3cDynamicAddress own) s = .next (steward (fun w => { w with dynamic := some own }))
    ∧ exec (.i3cCommonCommand code) s = .next (steward (calls 17))
    ∧ (page ≠ 5 → exec (.i3cPrivateWrite page offset [b]) s = .next (steward (fun w => { w with
        i3cAt := (page.toNat, (offset.toNat + 1) % 256), refused := min 255 (w.refused + 1) })))
    ∧ exec (.i3cPrivateWrite page offset []) s = .next (steward (fun w => { w with i3cAt := (page.toNat, offset.toNat) }))
    ∧ exec (.i3cPrivateWrite 5 2 [b]) s = .next (steward (fun w => calls 17 { w with i3cAt := (5, 3), mask := b }))
    ∧ exec (.i3cPrivateWrite 5 3 [b]) s = .next (steward (fun w => calls 17 { w with i3cAt := (5, 4), flags := w.flags &&& ~~~b }))
    ∧ exec (.i3cPrivateWrite 5 4 [b]) s = .next (steward (fun w => calls 17 { w with i3cAt := (5, 5), request := b }))
    ∧ (5 ≤ offset.toNat → exec (.i3cPrivateWrite 5 offset [b]) s = .next (steward (fun w => calls 17 { w with
        i3cAt := (5, (offset.toNat + 1) % 256), refused := min 255 (w.refused + 1) })))
    ∧ (let cap := code.toNat + 256 * b.toNat;
        (cap = 0 ∨ (1000 ≤ cap ∧ cap ≤ 3600) → ∃ t, exec (.i3cPrivateWrite 5 0 [code, b]) s = .next t
          ∧ t.steward = calls 17 { w with i3cAt := (5, 2), cap := cap } ∧ t.cores = s.cores ∧ t.events = s.events)
        ∧ (¬ (cap = 0 ∨ (1000 ≤ cap ∧ cap ≤ 3600)) →
          exec (.i3cPrivateWrite 5 0 [code, b]) s = .next (steward (fun w => calls 17 { w with i3cAt := (5, 2) }))))
    -- reset and start-up
    ∧ (s.powerState = 1 ∨ s.powerState = 2 → exec .resetNAssert s
        = .next { s with pins := { s.pins with resetLow := true }, power := { s.power with resetWaits := true } })
    ∧ (s.powerState ≠ 1 → s.powerState ≠ 2 → ∃ t, exec .resetNAssert s = .next t ∧ t.pins = { s.pins with resetLow := true, up := false, pfsave := true }
        ∧ t.get BOOT_CTRL_READY 0 = 0 ∧ t.stage = 0 ∧ t.flash = s.flash ∧ t.part = s.part ∧ t.pending = s.pending ∧ t.steward.measExt = 0
        ∧ ∀ k < 36, t.core k = (s.core k).afterReset)
    ∧ (s.pins.up = true → exec (.resetNRelease ready vias) s
        = .next { s with pins := { s.pins with resetLow := false }, power := { s.power with resetWaits := false } })
    ∧ (s.pins.up = false → ready = false ∨ s.pins.ir = .extest → exec (.resetNRelease ready vias) s = .next { s with
        pins := { s.pins with resetLow := false, held := true }, power := { s.power with resetWaits := false } })
    ∧ (let starts (t : State) : Prop := t.pins = { s.pins with resetLow := false, up := true, held := false } ∧ t.stewardMem = []
          ∧ t.get TUNE_STATUS_PHASE 0 = 1 ∧ t.pending = s.pending
        let free := s.pins.resetLow = false ∧ s.pins.up = false ∧ s.powerState ≠ 5 ∧ s.pins.ir ≠ .extest;
        (s.pins.up = false → s.pins.ir ≠ .extest → ∃ t, exec (.resetNRelease true vias) s = .next t ∧ starts t)
        ∧ (free → ∃ t, exec (.powerOnResetRelease vias) s = .next t ∧ starts t)
        ∧ (¬ free → exec (.powerOnResetRelease vias) s = .next s))
    -- the test port
    ∧ exec .bypass s = .next { s with pins := { s.pins with ir := .bypass, shift := 0 } }
    ∧ (∀ i ∈ [Instr.idcode, .jtagTrstN], exec i s = .next { s with pins := { s.pins with ir := .idcode, shift := 0x1B960ABD } })
    ∧ (let shows (z : BitVec 32) : Prop := z.getLsbD 2 = (!s.pins.resetLow) ∧ z.getLsbD 4 = s.flag BOOT_CTRL_READY 0
          ∧ z.getLsbD 6 = (!s.alertLow) ∧ z.getLsbD 8 = s.pins.pfsave ∧ ∀ i, i ∉ [2, 4, 6, 8, 16, 18] → z.getLsbD i = false;
        (∃ t, exec (.samplePreload load) s = .next t ∧ shows t.pins.shift
          ∧ t.pins = { s.pins with ir := .samplePreload, update := load, shift := t.pins.shift } ∧ t.regs = s.regs ∧ t.cores = s.cores
          ∧ t.steward = w)
        ∧ (∃ t, exec (.extest update) s = .next t ∧ shows t.pins.shift
          ∧ t.pins = ⟨s.pins.resetLow, true, false, true, .extest, t.pins.shift, update.getD s.pins.update⟩
          ∧ t.get BOOT_CTRL_READY 0 = 0 ∧ t.stage = 0 ∧ ∀ k < 36, t.core k = (s.core k).afterReset))
end

