-- ==== Sys2Proof/Laws/Sparse.lean ====
section
/-! SUPPORT. Laws of the sparse map and of byte memory: reads after writes, the canonical form kept, bit fields. -/

namespace Sys2Proof.Machine

variable {α : Type}

/-! ### Reads -/

@[simp] theorem SMap.get_nil (k : Nat) (d : α) : SMap.get ([] : SMap α) k d = d := rfl

theorem SMap.get_erase_same (m : SMap α) (k : Nat) (d : α) : SMap.get (SMap.erase m k) k d = d := by
  induction m with
  | nil => rfl
  | cons a t ih =>
    by_cases h : a.1 = k
    · simpa [SMap.erase, h] using ih
    · simpa [SMap.erase, SMap.get, h] using ih

theorem SMap.get_erase_ne (m : SMap α) {j k : Nat} (h : j ≠ k) (d : α) :
    SMap.get (SMap.erase m k) j d = SMap.get m j d := by
  induction m with
  | nil => rfl
  | cons a t ih =>
    obtain ⟨i, v⟩ := a
    by_cases hk : i = k
    · have hj : ¬ i = j := fun e => h (e ▸ hk)
      simpa [SMap.erase, SMap.get, hk, hj, Ne.symm h] using ih
    · by_cases hj : i = j <;> simp_all [SMap.erase, SMap.get]

theorem SMap.get_insert_same (m : SMap α) (k : Nat) (v d : α) (h : ∀ x ∈ m, x.1 ≠ k) :
    SMap.get (SMap.insert m k v) k d = v := by
  induction m with
  | nil => simp [SMap.insert, SMap.get]
  | cons a t ih =>
    obtain ⟨i, w⟩ := a
    have hi : i ≠ k := h (i, w) (by simp)
    have ht := ih (fun x hx => h x (by simp [hx]))
    by_cases hk : k < i <;> simp [SMap.insert, SMap.get, hk, hi, ht]

theorem SMap.get_insert_ne (m : SMap α) {j k : Nat} (h : j ≠ k) (v d : α) :
    SMap.get (SMap.insert m k v) j d = SMap.get m j d := by
  induction m with
  | nil => simp [SMap.insert, SMap.get, Ne.symm h]
  | cons a t ih =>
    obtain ⟨i, w⟩ := a
    by_cases hk : k < i
    · simp [SMap.insert, SMap.get, hk, Ne.symm h]
    · simp only [SMap.insert, hk, if_false, SMap.get, ih]

theorem SMap.key_ne_of_mem_erase {m : SMap α} {k : Nat} {x : Nat × α} (h : x ∈ SMap.erase m k) : x.1 ≠ k := by
  simpa using (List.mem_filter.mp h).2

/-- A key reads as the value last written to it. -/
@[simp] theorem SMap.get_set_same [DecidableEq α] (m : SMap α) (k : Nat) (v d : α) :
    SMap.get (SMap.set m k v d) k d = v := by
  unfold SMap.set
  split
  · next h => rw [SMap.get_erase_same, h]
  · exact SMap.get_insert_same _ _ _ _ (fun x hx => SMap.key_ne_of_mem_erase hx)

/-- Every other key reads as before. -/
theorem SMap.get_set_ne [DecidableEq α] (m : SMap α) {j k : Nat} (h : j ≠ k) (v d e : α) :
    SMap.get (SMap.set m k v d) j e = SMap.get m j e := by
  unfold SMap.set
  split
  · exact SMap.get_erase_ne m h e
  · rw [SMap.get_insert_ne _ h, SMap.get_erase_ne m h]

theorem SMap.get_set [DecidableEq α] (m : SMap α) (j k : Nat) (v d : α) :
    SMap.get (SMap.set m k v d) j d = if j = k then v else SMap.get m j d := by
  split
  · next h => subst h; exact SMap.get_set_same ..
  · next h => exact SMap.get_set_ne m h v d d

/-! ### The canonical form -/

theorem SMap.sorted_iff (m : SMap α) : SMap.sorted m = true ↔ m.Pairwise (fun a b => a.1 < b.1) := by
  induction m with
  | nil => simp [SMap.sorted]
  | cons a t ih =>
    cases t with
    | nil => simp [SMap.sorted]
    | cons b u =>
      simp only [SMap.sorted, Bool.and_eq_true, decide_eq_true_eq, ih, List.pairwise_cons]
      constructor
      · rintro ⟨h, hb, hu⟩
        refine ⟨fun x hx => ?_, hb, hu⟩
        rcases List.mem_cons.mp hx with rfl | hx
        · exact h
        · exact lt_trans h (hb x hx)
      · rintro ⟨h, hb, hu⟩
        exact ⟨h b (by simp), hb, hu⟩

theorem SMap.wf_iff [DecidableEq α] (d : α) (m : SMap α) :
    SMap.wf d m = true ↔ m.Pairwise (fun a b => a.1 < b.1) ∧ ∀ x ∈ m, x.2 ≠ d := by
  simp [SMap.wf, SMap.sorted_iff]

theorem SMap.wf_nil [DecidableEq α] (d : α) : SMap.wf d ([] : SMap α) = true := rfl

theorem SMap.wf_erase [DecidableEq α] {d : α} {m : SMap α} (h : SMap.wf d m = true) (k : Nat) :
    SMap.wf d (SMap.erase m k) = true := by
  rw [SMap.wf_iff] at *
  exact ⟨h.1.filter _, fun x hx => h.2 x (List.mem_filter.mp hx).1⟩

theorem SMap.mem_insert (m : SMap α) (k : Nat) (v : α) (x : Nat × α) :
    x ∈ SMap.insert m k v ↔ x = (k, v) ∨ x ∈ m := by
  induction m with
  | nil => simp [SMap.insert]
  | cons a t ih =>
    obtain ⟨i, w⟩ := a
    by_cases hk : k < i
    · simp [SMap.insert, hk]
    · simp only [SMap.insert, hk, if_false, List.mem_cons, ih]
      tauto

theorem SMap.wf_insert [DecidableEq α] {d : α} {m : SMap α} (h : SMap.wf d m = true) {k : Nat} {v : α}
    (hk : ∀ x ∈ m, x.1 ≠ k) (hv : v ≠ d) : SMap.wf d (SMap.insert m k v) = true := by
  rw [SMap.wf_iff] at *
  refine ⟨?_, fun x hx => ?_⟩
  · induction m with
    | nil => simp [SMap.insert]
    | cons a t ih =>
      obtain ⟨i, w⟩ := a
      obtain ⟨hp, hd⟩ := h
      rw [List.pairwise_cons] at hp
      by_cases hki : k < i
      · simp only [SMap.insert, hki, if_true, List.pairwise_cons]
        refine ⟨fun x hx => ?_, hp.1, hp.2⟩
        rcases List.mem_cons.mp hx with rfl | hx
        · exact hki
        · exact lt_trans hki (hp.1 x hx)
      · simp only [SMap.insert, hki, if_false, List.pairwise_cons]
        refine ⟨fun x hx => ?_, ih ⟨hp.2, fun x hx => hd x (by simp [hx])⟩ (fun x hx => hk x (by simp [hx]))⟩
        rcases (SMap.mem_insert _ _ _ _).mp hx with rfl | hx
        · have := hk (i, w) (by simp)
          exact lt_of_le_of_ne (Nat.le_of_not_lt hki) this
        · exact hp.1 x hx
  · rcases (SMap.mem_insert _ _ _ _).mp hx with rfl | hx
    · exact hv
    · exact h.2 x hx

/-- Every write keeps the canonical form. -/
theorem SMap.wf_set [DecidableEq α] {d : α} {m : SMap α} (h : SMap.wf d m = true) (k : Nat) (v : α) :
    SMap.wf d (SMap.set m k v d) = true := by
  unfold SMap.set
  split
  · exact SMap.wf_erase h k
  · next hv => exact SMap.wf_insert (SMap.wf_erase h k) (fun x hx => SMap.key_ne_of_mem_erase hx) hv

/-- Two canonical maps that read alike are equal. -/
theorem SMap.ext_of_wf [DecidableEq α] {d : α} : ∀ {m n : SMap α}, SMap.wf d m = true → SMap.wf d n = true →
    (∀ k, SMap.get m k d = SMap.get n k d) → m = n := by
  intro m
  induction m with
  | nil =>
    intro n _ hn h
    cases n with
    | nil => rfl
    | cons b u =>
      rw [SMap.wf_iff] at hn
      have := h b.1
      simp [SMap.get] at this
      exact absurd this.symm (hn.2 b (by simp))
  | cons a t ih =>
    intro n hm hn h
    have low : ∀ {l : SMap α} {i : Nat}, (∀ x ∈ l, i < x.1) → SMap.get l i d = d := by
      intro l i hl
      induction l with
      | nil => rfl
      | cons c v ihl =>
        have hc : c.1 ≠ i := Nat.ne_of_gt (hl c (by simp))
        simpa [SMap.get, hc] using ihl (fun x hx => hl x (by simp [hx]))
    cases n with
    | nil =>
      rw [SMap.wf_iff] at hm
      have := h a.1
      simp [SMap.get] at this
      exact absurd this (hm.2 a (by simp))
    | cons b u =>
      have hm' := (SMap.wf_iff d _).mp hm
      have hn' := (SMap.wf_iff d _).mp hn
      rw [List.pairwise_cons] at hm' hn'
      have keys : a.1 = b.1 := by
        rcases Nat.lt_trichotomy a.1 b.1 with hlt | heq | hgt
        · have h1 := h a.1
          have h2 : SMap.get (b :: u) a.1 d = d := low (by
            intro x hx
            rcases List.mem_cons.mp hx with rfl | hx
            · exact hlt
            · exact lt_trans hlt (hn'.1.1 x hx))
          rw [h2] at h1
          simp [SMap.get] at h1
          exact absurd h1 (hm'.2 a (by simp))
        · exact heq
        · have h1 := h b.1
          have h2 : SMap.get (a :: t) b.1 d = d := low (by
            intro x hx
            rcases List.mem_cons.mp hx with rfl | hx
            · exact hgt
            · exact lt_trans hgt (hm'.1.1 x hx))
          rw [h2] at h1
          simp [SMap.get] at h1
          exact absurd h1.symm (hn'.2 b (by simp))
      have vals : a.2 = b.2 := by
        have := h a.1
        simpa [SMap.get, keys] using this
      have tails : t = u := by
        apply ih
        · exact (SMap.wf_iff d t).mpr ⟨hm'.1.2, fun x hx => hm'.2 x (by simp [hx])⟩
        · exact (SMap.wf_iff d u).mpr ⟨hn'.1.2, fun x hx => hn'.2 x (by simp [hx])⟩
        · intro k
          by_cases hk : a.1 = k
          · rw [← hk, low (hm'.1.1), keys, low (hn'.1.1)]
          · have := h k
            have hk' : ¬ b.1 = k := by rwa [← keys]
            simpa [SMap.get, hk, hk'] using this
      rw [tails, Prod.ext keys vals]

/-! ### Byte memory -/

@[simp] theorem Mem.byte_setByte_same (m : Mem) (a : Nat) (b : Byte) : Mem.byte (Mem.setByte m a b) a = b :=
  SMap.get_set_same ..

theorem Mem.byte_setByte_ne (m : Mem) {x a : Nat} (h : x ≠ a) (b : Byte) :
    Mem.byte (Mem.setByte m a b) x = Mem.byte m x := SMap.get_set_ne m h ..

/-- A run of bytes written: inside it the bytes written, outside it the bytes before. -/
theorem Mem.byte_setBytes (l : List Byte) : ∀ (m : Mem) (a x : Nat),
    Mem.byte (Mem.setBytes m a l) x = if a ≤ x ∧ x < a + l.length then l.getD (x - a) 0 else Mem.byte m x := by
  induction l with
  | nil => intro m a x; simp [Mem.setBytes]
  | cons b t ih =>
    intro m a x
    simp only [Mem.setBytes, ih, List.length_cons]
    by_cases hx : x = a
    · subst hx
      simp
    · by_cases h : a + 1 ≤ x ∧ x < a + 1 + t.length
      · have h' : a ≤ x ∧ x < a + (t.length + 1) := by omega
        have e : x - a = (x - (a + 1)) + 1 := by omega
        simp [h, h', e]
      · have h' : ¬ (a ≤ x ∧ x < a + (t.length + 1)) := by omega
        rw [if_neg h, if_neg h', Mem.byte_setByte_ne m hx]

theorem Mem.byte_setBytes_out {m : Mem} {a x : Nat} {l : List Byte} (h : x < a ∨ a + l.length ≤ x) :
    Mem.byte (Mem.setBytes m a l) x = Mem.byte m x := by
  rw [Mem.byte_setBytes, if_neg (by omega)]

/-- Bytes masked out stay. -/
theorem Mem.byte_setMasked (l : List (Byte × Bool)) : ∀ (m : Mem) (a x : Nat),
    Mem.byte (Mem.setMasked m a l) x =
      if a ≤ x ∧ x < a + l.length ∧ (l.getD (x - a) (0, false)).2 = true then (l.getD (x - a) (0, false)).1
      else Mem.byte m x := by
  induction l with
  | nil => intro m a x; simp [Mem.setMasked]
  | cons b t ih =>
    intro m a x
    obtain ⟨v, w⟩ := b
    simp only [Mem.setMasked, ih, List.length_cons]
    by_cases hx : x = a
    · subst hx
      cases w <;> simp
    · by_cases h : a + 1 ≤ x
      · have e : x - a = (x - (a + 1)) + 1 := by omega
        have hr : x < a + 1 + t.length ↔ x < a + (t.length + 1) := by omega
        have hl : a ≤ x := by omega
        cases w <;> simp [h, hl, e, hr, Mem.byte_setByte_ne m hx]
      · have hl : ¬ a ≤ x := by omega
        cases w <;> simp [h, hl, Mem.byte_setByte_ne m hx]

theorem Mem.wf_setByte {m : Mem} (h : Mem.wf m = true) (a : Nat) (b : Byte) : Mem.wf (Mem.setByte m a b) = true :=
  SMap.wf_set h a b

theorem Mem.wf_setBytes (l : List Byte) : ∀ {m : Mem}, Mem.wf m = true → ∀ a, Mem.wf (Mem.setBytes m a l) = true := by
  induction l with
  | nil => intro m h a; exact h
  | cons b t ih => intro m h a; exact ih (Mem.wf_setByte h a b) (a + 1)

theorem Mem.wf_setMasked (l : List (Byte × Bool)) : ∀ {m : Mem}, Mem.wf m = true → ∀ a,
    Mem.wf (Mem.setMasked m a l) = true := by
  induction l with
  | nil => intro m h a; exact h
  | cons b t ih =>
    intro m h a
    obtain ⟨v, w⟩ := b
    cases w
    · exact ih h (a + 1)
    · exact ih (Mem.wf_setByte h a v) (a + 1)

theorem Mem.wf_writeLE {m : Mem} (h : Mem.wf m = true) (a n v : Nat) : Mem.wf (Mem.writeLE m a n v) = true :=
  Mem.wf_setBytes _ h a

@[simp] theorem toLE_length : ∀ n v, (toLE n v).length = n
  | 0, _ => rfl
  | n + 1, v => by simp [toLE, toLE_length n]

@[simp] theorem Mem.bytes_length (m : Mem) (a n : Nat) : (Mem.bytes m a n).length = n := by simp [Mem.bytes]

/-- Little-endian bytes read back as the number they were made from. -/
theorem leNat_toLE : ∀ n v, leNat (toLE n v) = v % 256 ^ n
  | 0, v => by simp [toLE, leNat, Nat.mod_one]
  | n + 1, v => by
    have h : (BitVec.ofNat 8 v).toNat = v % 256 := BitVec.toNat_ofNat v 8
    rw [toLE, leNat, leNat_toLE n, h, Nat.pow_succ', Nat.mod_mul]

theorem Mem.bytes_setBytes_same (m : Mem) (a : Nat) (l : List Byte) :
    Mem.bytes (Mem.setBytes m a l) a l.length = l := by
  apply List.ext_getElem
  · simp
  · intro i h1 h2
    simp [Mem.bytes, Mem.byte_setBytes, h2]

/-- A word written reads back. -/
theorem Mem.word_setBytes_same (m : Mem) (a : Nat) (v : Word) : Mem.word (Mem.setBytes m a (toLE 8 v.toNat)) a = v := by
  have h := Mem.bytes_setBytes_same m a (toLE 8 v.toNat)
  rw [toLE_length] at h
  unfold Mem.word Mem.readLE
  rw [h, leNat_toLE]
  apply BitVec.eq_of_toNat_eq
  have := v.isLt
  simp only [BitVec.toNat_ofNat]
  omega

/-! ### Bit fields -/

/-- A field reads as the value last put there, modulo its size. -/
theorem bits_setBits_same {hi lo v x : Nat} (h : lo ≤ hi) :
    bits hi lo (setBits hi lo v x) = x % 2 ^ (hi + 1 - lo) := by
  unfold bits setBits
  have hp : 2 ^ (hi + 1) = 2 ^ lo * 2 ^ (hi + 1 - lo) := by rw [← Nat.pow_add]; congr 1; omega
  have hl : v % 2 ^ lo < 2 ^ lo := Nat.mod_lt _ (Nat.two_pow_pos lo)
  have e : v / 2 ^ (hi + 1) * 2 ^ (hi + 1) + x % 2 ^ (hi + 1 - lo) * 2 ^ lo + v % 2 ^ lo
      = v % 2 ^ lo + 2 ^ lo * (x % 2 ^ (hi + 1 - lo) + 2 ^ (hi + 1 - lo) * (v / 2 ^ (hi + 1))) := by
    rw [hp]; ring
  rw [e, Nat.add_mul_div_left _ _ (Nat.two_pow_pos lo), Nat.div_eq_of_lt hl, Nat.zero_add, Nat.add_mul_mod_self_left,
    Nat.mod_mod]

theorem testBit_setBits {hi lo v x i : Nat} (h : lo ≤ hi) :
    (setBits hi lo v x).testBit i = if lo ≤ i ∧ i ≤ hi then x.testBit (i - lo) else v.testBit i := by
  have hl : v % 2 ^ lo < 2 ^ lo := Nat.mod_lt _ (Nat.two_pow_pos lo)
  have hp : 2 ^ (hi + 1) = 2 ^ lo * 2 ^ (hi + 1 - lo) := by rw [← Nat.pow_add]; congr 1; omega
  have hx : x % 2 ^ (hi + 1 - lo) < 2 ^ (hi + 1 - lo) := Nat.mod_lt _ (Nat.two_pow_pos _)
  have e : setBits hi lo v x = 2 ^ lo * (2 ^ (hi + 1 - lo) * (v / 2 ^ (hi + 1)) + x % 2 ^ (hi + 1 - lo)) + v % 2 ^ lo := by
    unfold setBits; rw [hp]; ring
  rw [e, Nat.testBit_two_pow_mul_add _ hl, Nat.testBit_two_pow_mul_add _ hx]
  simp only [Nat.testBit_mod_two_pow, Nat.testBit_div_two_pow]
  by_cases h1 : i < lo
  · simp [h1]
  · by_cases h2 : i ≤ hi
    · have h3 : i - lo < hi + 1 - lo := by omega
      have h4 : lo ≤ i := by omega
      simp [h1, h2, h3, h4]
    · have h3 : ¬ i - lo < hi + 1 - lo := by omega
      have h4 : i - lo - (hi + 1 - lo) + (hi + 1) = i := by omega
      simp [h1, h2, h3, h4]

theorem testBit_bits (hi lo v i : Nat) : (bits hi lo v).testBit i = (decide (i < hi + 1 - lo) && v.testBit (i + lo)) := by
  simp [bits, Nat.testBit_mod_two_pow, Nat.testBit_div_two_pow]

/-- A field that shares no bit with the one written reads as before. -/
theorem bits_setBits_ne {hi lo hi' lo' v x : Nat} (h : lo ≤ hi) (h' : lo' ≤ hi') (d : hi < lo' ∨ hi' < lo) :
    bits hi' lo' (setBits hi lo v x) = bits hi' lo' v := by
  apply Nat.eq_of_testBit_eq
  intro i
  simp only [testBit_bits, testBit_setBits h]
  by_cases hi2 : i < hi' + 1 - lo'
  · have : ¬ (lo ≤ i + lo' ∧ i + lo' ≤ hi) := by omega
    simp [this]
  · simp [hi2]

theorem setBits_lt {hi lo v x : Nat} (h : lo ≤ hi) (hh : hi ≤ 63) (hv : v < 2 ^ 64) : setBits hi lo v x < 2 ^ 64 := by
  apply Nat.lt_pow_two_of_testBit
  intro i hi64
  rw [testBit_setBits h, if_neg (by omega)]
  exact Nat.testBit_lt_two_pow (lt_of_lt_of_le hv (Nat.pow_le_pow_right (by omega) hi64))

theorem bits_lt (hi lo v : Nat) : bits hi lo v < 2 ^ (hi + 1 - lo) := Nat.mod_lt _ (Nat.two_pow_pos _)

end Sys2Proof.Machine
end

