-- ==== Sys2Proof/Laws/State.lean ====
section
/-! SUPPORT. Laws of State: one lemma per field per update, reads of registers and cores after writes, and what raising an
event leaves unchanged. -/

namespace Sys2Proof.Machine

/-! ### One lemma per field per update -/


@[simp] theorem State.setWord_part (s : State) (r : RegName) (i : Nat) (w : Word) : (s.setWord r i w).part = s.part := rfl
@[simp] theorem State.setWord_ticks (s : State) (r : RegName) (i : Nat) (w : Word) : (s.setWord r i w).ticks = s.ticks := rfl
@[simp] theorem State.setWord_free (s : State) (r : RegName) (i : Nat) (w : Word) : (s.setWord r i w).free = s.free := rfl
@[simp] theorem State.setWord_cores (s : State) (r : RegName) (i : Nat) (w : Word) : (s.setWord r i w).cores = s.cores := rfl
@[simp] theorem State.setWord_out (s : State) (r : RegName) (i : Nat) (w : Word) : (s.setWord r i w).out = s.out := rfl
@[simp] theorem State.setWord_windows (s : State) (r : RegName) (i : Nat) (w : Word) : (s.setWord r i w).windows = s.windows := rfl
@[simp] theorem State.setWord_admitted (s : State) (r : RegName) (i : Nat) (w : Word) : (s.setWord r i w).admitted = s.admitted := rfl
@[simp] theorem State.setWord_history (s : State) (r : RegName) (i : Nat) (w : Word) : (s.setWord r i w).history = s.history := rfl
@[simp] theorem State.setWord_jobs (s : State) (r : RegName) (i : Nat) (w : Word) : (s.setWord r i w).jobs = s.jobs := rfl
@[simp] theorem State.setWord_nextJob (s : State) (r : RegName) (i : Nat) (w : Word) : (s.setWord r i w).nextJob = s.nextJob := rfl
@[simp] theorem State.setWord_held (s : State) (r : RegName) (i : Nat) (w : Word) : (s.setWord r i w).held = s.held := rfl
@[simp] theorem State.setWord_wakeHeld (s : State) (r : RegName) (i : Nat) (w : Word) : (s.setWord r i w).wakeHeld = s.wakeHeld := rfl
@[simp] theorem State.setWord_combining (s : State) (r : RegName) (i : Nat) (w : Word) : (s.setWord r i w).combining = s.combining := rfl
@[simp] theorem State.setWord_combined (s : State) (r : RegName) (i : Nat) (w : Word) : (s.setWord r i w).combined = s.combined := rfl
@[simp] theorem State.setWord_streamSeq (s : State) (r : RegName) (i : Nat) (w : Word) : (s.setWord r i w).streamSeq = s.streamSeq := rfl
@[simp] theorem State.setWord_unitSends (s : State) (r : RegName) (i : Nat) (w : Word) : (s.setWord r i w).unitSends = s.unitSends := rfl
@[simp] theorem State.setWord_lines (s : State) (r : RegName) (i : Nat) (w : Word) : (s.setWord r i w).lines = s.lines := rfl
@[simp] theorem State.setWord_reds (s : State) (r : RegName) (i : Nat) (w : Word) : (s.setWord r i w).reds = s.reds := rfl
@[simp] theorem State.setWord_stackMem (s : State) (r : RegName) (i : Nat) (w : Word) : (s.setWord r i w).stackMem = s.stackMem := rfl
@[simp] theorem State.setWord_stackSts (s : State) (r : RegName) (i : Nat) (w : Word) : (s.setWord r i w).stackSts = s.stackSts := rfl
@[simp] theorem State.setWord_attnQueue (s : State) (r : RegName) (i : Nat) (w : Word) : (s.setWord r i w).attnQueue = s.attnQueue := rfl
@[simp] theorem State.setWord_stewardMem (s : State) (r : RegName) (i : Nat) (w : Word) : (s.setWord r i w).stewardMem = s.stewardMem := rfl
@[simp] theorem State.setWord_flash (s : State) (r : RegName) (i : Nat) (w : Word) : (s.setWord r i w).flash = s.flash := rfl
@[simp] theorem State.setWord_hamper (s : State) (r : RegName) (i : Nat) (w : Word) : (s.setWord r i w).hamper = s.hamper := rfl
@[simp] theorem State.setWord_hartRead (s : State) (r : RegName) (i : Nat) (w : Word) : (s.setWord r i w).hartRead = s.hartRead := rfl
@[simp] theorem State.setWord_events (s : State) (r : RegName) (i : Nat) (w : Word) : (s.setWord r i w).events = s.events := rfl
@[simp] theorem State.setWord_early (s : State) (r : RegName) (i : Nat) (w : Word) : (s.setWord r i w).early = s.early := rfl
@[simp] theorem State.setWord_fatal (s : State) (r : RegName) (i : Nat) (w : Word) : (s.setWord r i w).fatal = s.fatal := rfl
@[simp] theorem State.setWord_logCounts (s : State) (r : RegName) (i : Nat) (w : Word) : (s.setWord r i w).logCounts = s.logCounts := rfl
@[simp] theorem State.setWord_logFirst (s : State) (r : RegName) (i : Nat) (w : Word) : (s.setWord r i w).logFirst = s.logFirst := rfl
@[simp] theorem State.setWord_ridge (s : State) (r : RegName) (i : Nat) (w : Word) : (s.setWord r i w).ridge = s.ridge := rfl
@[simp] theorem State.setWord_clk (s : State) (r : RegName) (i : Nat) (w : Word) : (s.setWord r i w).clk = s.clk := rfl
@[simp] theorem State.setWord_power (s : State) (r : RegName) (i : Nat) (w : Word) : (s.setWord r i w).power = s.power := rfl
@[simp] theorem State.setWord_podnet (s : State) (r : RegName) (i : Nat) (w : Word) : (s.setWord r i w).podnet = s.podnet := rfl
@[simp] theorem State.setWord_steward (s : State) (r : RegName) (i : Nat) (w : Word) : (s.setWord r i w).steward = s.steward := rfl
@[simp] theorem State.setWord_pins (s : State) (r : RegName) (i : Nat) (w : Word) : (s.setWord r i w).pins = s.pins := rfl
@[simp] theorem State.setWord_pending (s : State) (r : RegName) (i : Nat) (w : Word) : (s.setWord r i w).pending = s.pending := rfl

@[simp] theorem State.put_part (s : State) (f : Fld) (i v : Nat) : (s.put f i v).part = s.part := rfl
@[simp] theorem State.put_ticks (s : State) (f : Fld) (i v : Nat) : (s.put f i v).ticks = s.ticks := rfl
@[simp] theorem State.put_free (s : State) (f : Fld) (i v : Nat) : (s.put f i v).free = s.free := rfl
@[simp] theorem State.put_cores (s : State) (f : Fld) (i v : Nat) : (s.put f i v).cores = s.cores := rfl
@[simp] theorem State.put_out (s : State) (f : Fld) (i v : Nat) : (s.put f i v).out = s.out := rfl
@[simp] theorem State.put_windows (s : State) (f : Fld) (i v : Nat) : (s.put f i v).windows = s.windows := rfl
@[simp] theorem State.put_admitted (s : State) (f : Fld) (i v : Nat) : (s.put f i v).admitted = s.admitted := rfl
@[simp] theorem State.put_history (s : State) (f : Fld) (i v : Nat) : (s.put f i v).history = s.history := rfl
@[simp] theorem State.put_jobs (s : State) (f : Fld) (i v : Nat) : (s.put f i v).jobs = s.jobs := rfl
@[simp] theorem State.put_nextJob (s : State) (f : Fld) (i v : Nat) : (s.put f i v).nextJob = s.nextJob := rfl
@[simp] theorem State.put_held (s : State) (f : Fld) (i v : Nat) : (s.put f i v).held = s.held := rfl
@[simp] theorem State.put_wakeHeld (s : State) (f : Fld) (i v : Nat) : (s.put f i v).wakeHeld = s.wakeHeld := rfl
@[simp] theorem State.put_combining (s : State) (f : Fld) (i v : Nat) : (s.put f i v).combining = s.combining := rfl
@[simp] theorem State.put_combined (s : State) (f : Fld) (i v : Nat) : (s.put f i v).combined = s.combined := rfl
@[simp] theorem State.put_streamSeq (s : State) (f : Fld) (i v : Nat) : (s.put f i v).streamSeq = s.streamSeq := rfl
@[simp] theorem State.put_unitSends (s : State) (f : Fld) (i v : Nat) : (s.put f i v).unitSends = s.unitSends := rfl
@[simp] theorem State.put_lines (s : State) (f : Fld) (i v : Nat) : (s.put f i v).lines = s.lines := rfl
@[simp] theorem State.put_reds (s : State) (f : Fld) (i v : Nat) : (s.put f i v).reds = s.reds := rfl
@[simp] theorem State.put_stackMem (s : State) (f : Fld) (i v : Nat) : (s.put f i v).stackMem = s.stackMem := rfl
@[simp] theorem State.put_stackSts (s : State) (f : Fld) (i v : Nat) : (s.put f i v).stackSts = s.stackSts := rfl
@[simp] theorem State.put_attnQueue (s : State) (f : Fld) (i v : Nat) : (s.put f i v).attnQueue = s.attnQueue := rfl
@[simp] theorem State.put_stewardMem (s : State) (f : Fld) (i v : Nat) : (s.put f i v).stewardMem = s.stewardMem := rfl
@[simp] theorem State.put_flash (s : State) (f : Fld) (i v : Nat) : (s.put f i v).flash = s.flash := rfl
@[simp] theorem State.put_hamper (s : State) (f : Fld) (i v : Nat) : (s.put f i v).hamper = s.hamper := rfl
@[simp] theorem State.put_hartRead (s : State) (f : Fld) (i v : Nat) : (s.put f i v).hartRead = s.hartRead := rfl
@[simp] theorem State.put_events (s : State) (f : Fld) (i v : Nat) : (s.put f i v).events = s.events := rfl
@[simp] theorem State.put_early (s : State) (f : Fld) (i v : Nat) : (s.put f i v).early = s.early := rfl
@[simp] theorem State.put_fatal (s : State) (f : Fld) (i v : Nat) : (s.put f i v).fatal = s.fatal := rfl
@[simp] theorem State.put_logCounts (s : State) (f : Fld) (i v : Nat) : (s.put f i v).logCounts = s.logCounts := rfl
@[simp] theorem State.put_logFirst (s : State) (f : Fld) (i v : Nat) : (s.put f i v).logFirst = s.logFirst := rfl
@[simp] theorem State.put_ridge (s : State) (f : Fld) (i v : Nat) : (s.put f i v).ridge = s.ridge := rfl
@[simp] theorem State.put_clk (s : State) (f : Fld) (i v : Nat) : (s.put f i v).clk = s.clk := rfl
@[simp] theorem State.put_power (s : State) (f : Fld) (i v : Nat) : (s.put f i v).power = s.power := rfl
@[simp] theorem State.put_podnet (s : State) (f : Fld) (i v : Nat) : (s.put f i v).podnet = s.podnet := rfl
@[simp] theorem State.put_steward (s : State) (f : Fld) (i v : Nat) : (s.put f i v).steward = s.steward := rfl
@[simp] theorem State.put_pins (s : State) (f : Fld) (i v : Nat) : (s.put f i v).pins = s.pins := rfl
@[simp] theorem State.put_pending (s : State) (f : Fld) (i v : Nat) : (s.put f i v).pending = s.pending := rfl

@[simp] theorem State.bump_part (s : State) (f : Fld) (i n : Nat) : (s.bump f i n).part = s.part := rfl
@[simp] theorem State.bump_ticks (s : State) (f : Fld) (i n : Nat) : (s.bump f i n).ticks = s.ticks := rfl
@[simp] theorem State.bump_free (s : State) (f : Fld) (i n : Nat) : (s.bump f i n).free = s.free := rfl
@[simp] theorem State.bump_cores (s : State) (f : Fld) (i n : Nat) : (s.bump f i n).cores = s.cores := rfl
@[simp] theorem State.bump_out (s : State) (f : Fld) (i n : Nat) : (s.bump f i n).out = s.out := rfl
@[simp] theorem State.bump_windows (s : State) (f : Fld) (i n : Nat) : (s.bump f i n).windows = s.windows := rfl
@[simp] theorem State.bump_admitted (s : State) (f : Fld) (i n : Nat) : (s.bump f i n).admitted = s.admitted := rfl
@[simp] theorem State.bump_history (s : State) (f : Fld) (i n : Nat) : (s.bump f i n).history = s.history := rfl
@[simp] theorem State.bump_jobs (s : State) (f : Fld) (i n : Nat) : (s.bump f i n).jobs = s.jobs := rfl
@[simp] theorem State.bump_nextJob (s : State) (f : Fld) (i n : Nat) : (s.bump f i n).nextJob = s.nextJob := rfl
@[simp] theorem State.bump_held (s : State) (f : Fld) (i n : Nat) : (s.bump f i n).held = s.held := rfl
@[simp] theorem State.bump_wakeHeld (s : State) (f : Fld) (i n : Nat) : (s.bump f i n).wakeHeld = s.wakeHeld := rfl
@[simp] theorem State.bump_combining (s : State) (f : Fld) (i n : Nat) : (s.bump f i n).combining = s.combining := rfl
@[simp] theorem State.bump_combined (s : State) (f : Fld) (i n : Nat) : (s.bump f i n).combined = s.combined := rfl
@[simp] theorem State.bump_streamSeq (s : State) (f : Fld) (i n : Nat) : (s.bump f i n).streamSeq = s.streamSeq := rfl
@[simp] theorem State.bump_unitSends (s : State) (f : Fld) (i n : Nat) : (s.bump f i n).unitSends = s.unitSends := rfl
@[simp] theorem State.bump_lines (s : State) (f : Fld) (i n : Nat) : (s.bump f i n).lines = s.lines := rfl
@[simp] theorem State.bump_reds (s : State) (f : Fld) (i n : Nat) : (s.bump f i n).reds = s.reds := rfl
@[simp] theorem State.bump_stackMem (s : State) (f : Fld) (i n : Nat) : (s.bump f i n).stackMem = s.stackMem := rfl
@[simp] theorem State.bump_stackSts (s : State) (f : Fld) (i n : Nat) : (s.bump f i n).stackSts = s.stackSts := rfl
@[simp] theorem State.bump_attnQueue (s : State) (f : Fld) (i n : Nat) : (s.bump f i n).attnQueue = s.attnQueue := rfl
@[simp] theorem State.bump_stewardMem (s : State) (f : Fld) (i n : Nat) : (s.bump f i n).stewardMem = s.stewardMem := rfl
@[simp] theorem State.bump_flash (s : State) (f : Fld) (i n : Nat) : (s.bump f i n).flash = s.flash := rfl
@[simp] theorem State.bump_hamper (s : State) (f : Fld) (i n : Nat) : (s.bump f i n).hamper = s.hamper := rfl
@[simp] theorem State.bump_hartRead (s : State) (f : Fld) (i n : Nat) : (s.bump f i n).hartRead = s.hartRead := rfl
@[simp] theorem State.bump_events (s : State) (f : Fld) (i n : Nat) : (s.bump f i n).events = s.events := rfl
@[simp] theorem State.bump_early (s : State) (f : Fld) (i n : Nat) : (s.bump f i n).early = s.early := rfl
@[simp] theorem State.bump_fatal (s : State) (f : Fld) (i n : Nat) : (s.bump f i n).fatal = s.fatal := rfl
@[simp] theorem State.bump_logCounts (s : State) (f : Fld) (i n : Nat) : (s.bump f i n).logCounts = s.logCounts := rfl
@[simp] theorem State.bump_logFirst (s : State) (f : Fld) (i n : Nat) : (s.bump f i n).logFirst = s.logFirst := rfl
@[simp] theorem State.bump_ridge (s : State) (f : Fld) (i n : Nat) : (s.bump f i n).ridge = s.ridge := rfl
@[simp] theorem State.bump_clk (s : State) (f : Fld) (i n : Nat) : (s.bump f i n).clk = s.clk := rfl
@[simp] theorem State.bump_power (s : State) (f : Fld) (i n : Nat) : (s.bump f i n).power = s.power := rfl
@[simp] theorem State.bump_podnet (s : State) (f : Fld) (i n : Nat) : (s.bump f i n).podnet = s.podnet := rfl
@[simp] theorem State.bump_steward (s : State) (f : Fld) (i n : Nat) : (s.bump f i n).steward = s.steward := rfl
@[simp] theorem State.bump_pins (s : State) (f : Fld) (i n : Nat) : (s.bump f i n).pins = s.pins := rfl
@[simp] theorem State.bump_pending (s : State) (f : Fld) (i n : Nat) : (s.bump f i n).pending = s.pending := rfl

@[simp] theorem State.setCore_part (s : State) (k : Nat) (c : Core) : (s.setCore k c).part = s.part := rfl
@[simp] theorem State.setCore_regs (s : State) (k : Nat) (c : Core) : (s.setCore k c).regs = s.regs := rfl
@[simp] theorem State.setCore_ticks (s : State) (k : Nat) (c : Core) : (s.setCore k c).ticks = s.ticks := rfl
@[simp] theorem State.setCore_free (s : State) (k : Nat) (c : Core) : (s.setCore k c).free = s.free := rfl
@[simp] theorem State.setCore_out (s : State) (k : Nat) (c : Core) : (s.setCore k c).out = s.out := rfl
@[simp] theorem State.setCore_windows (s : State) (k : Nat) (c : Core) : (s.setCore k c).windows = s.windows := rfl
@[simp] theorem State.setCore_admitted (s : State) (k : Nat) (c : Core) : (s.setCore k c).admitted = s.admitted := rfl
@[simp] theorem State.setCore_history (s : State) (k : Nat) (c : Core) : (s.setCore k c).history = s.history := rfl
@[simp] theorem State.setCore_jobs (s : State) (k : Nat) (c : Core) : (s.setCore k c).jobs = s.jobs := rfl
@[simp] theorem State.setCore_nextJob (s : State) (k : Nat) (c : Core) : (s.setCore k c).nextJob = s.nextJob := rfl
@[simp] theorem State.setCore_held (s : State) (k : Nat) (c : Core) : (s.setCore k c).held = s.held := rfl
@[simp] theorem State.setCore_wakeHeld (s : State) (k : Nat) (c : Core) : (s.setCore k c).wakeHeld = s.wakeHeld := rfl
@[simp] theorem State.setCore_combining (s : State) (k : Nat) (c : Core) : (s.setCore k c).combining = s.combining := rfl
@[simp] theorem State.setCore_combined (s : State) (k : Nat) (c : Core) : (s.setCore k c).combined = s.combined := rfl
@[simp] theorem State.setCore_streamSeq (s : State) (k : Nat) (c : Core) : (s.setCore k c).streamSeq = s.streamSeq := rfl
@[simp] theorem State.setCore_unitSends (s : State) (k : Nat) (c : Core) : (s.setCore k c).unitSends = s.unitSends := rfl
@[simp] theorem State.setCore_lines (s : State) (k : Nat) (c : Core) : (s.setCore k c).lines = s.lines := rfl
@[simp] theorem State.setCore_reds (s : State) (k : Nat) (c : Core) : (s.setCore k c).reds = s.reds := rfl
@[simp] theorem State.setCore_stackMem (s : State) (k : Nat) (c : Core) : (s.setCore k c).stackMem = s.stackMem := rfl
@[simp] theorem State.setCore_stackSts (s : State) (k : Nat) (c : Core) : (s.setCore k c).stackSts = s.stackSts := rfl
@[simp] theorem State.setCore_attnQueue (s : State) (k : Nat) (c : Core) : (s.setCore k c).attnQueue = s.attnQueue := rfl
@[simp] theorem State.setCore_stewardMem (s : State) (k : Nat) (c : Core) : (s.setCore k c).stewardMem = s.stewardMem := rfl
@[simp] theorem State.setCore_flash (s : State) (k : Nat) (c : Core) : (s.setCore k c).flash = s.flash := rfl
@[simp] theorem State.setCore_hamper (s : State) (k : Nat) (c : Core) : (s.setCore k c).hamper = s.hamper := rfl
@[simp] theorem State.setCore_hartRead (s : State) (k : Nat) (c : Core) : (s.setCore k c).hartRead = s.hartRead := rfl
@[simp] theorem State.setCore_events (s : State) (k : Nat) (c : Core) : (s.setCore k c).events = s.events := rfl
@[simp] theorem State.setCore_early (s : State) (k : Nat) (c : Core) : (s.setCore k c).early = s.early := rfl
@[simp] theorem State.setCore_fatal (s : State) (k : Nat) (c : Core) : (s.setCore k c).fatal = s.fatal := rfl
@[simp] theorem State.setCore_logCounts (s : State) (k : Nat) (c : Core) : (s.setCore k c).logCounts = s.logCounts := rfl
@[simp] theorem State.setCore_logFirst (s : State) (k : Nat) (c : Core) : (s.setCore k c).logFirst = s.logFirst := rfl
@[simp] theorem State.setCore_ridge (s : State) (k : Nat) (c : Core) : (s.setCore k c).ridge = s.ridge := rfl
@[simp] theorem State.setCore_clk (s : State) (k : Nat) (c : Core) : (s.setCore k c).clk = s.clk := rfl
@[simp] theorem State.setCore_power (s : State) (k : Nat) (c : Core) : (s.setCore k c).power = s.power := rfl
@[simp] theorem State.setCore_podnet (s : State) (k : Nat) (c : Core) : (s.setCore k c).podnet = s.podnet := rfl
@[simp] theorem State.setCore_steward (s : State) (k : Nat) (c : Core) : (s.setCore k c).steward = s.steward := rfl
@[simp] theorem State.setCore_pins (s : State) (k : Nat) (c : Core) : (s.setCore k c).pins = s.pins := rfl
@[simp] theorem State.setCore_pending (s : State) (k : Nat) (c : Core) : (s.setCore k c).pending = s.pending := rfl

@[simp] theorem State.modCore_part (s : State) (k : Nat) (f : Core → Core) : (s.modCore k f).part = s.part := rfl
@[simp] theorem State.modCore_regs (s : State) (k : Nat) (f : Core → Core) : (s.modCore k f).regs = s.regs := rfl
@[simp] theorem State.modCore_ticks (s : State) (k : Nat) (f : Core → Core) : (s.modCore k f).ticks = s.ticks := rfl
@[simp] theorem State.modCore_free (s : State) (k : Nat) (f : Core → Core) : (s.modCore k f).free = s.free := rfl
@[simp] theorem State.modCore_out (s : State) (k : Nat) (f : Core → Core) : (s.modCore k f).out = s.out := rfl
@[simp] theorem State.modCore_windows (s : State) (k : Nat) (f : Core → Core) : (s.modCore k f).windows = s.windows := rfl
@[simp] theorem State.modCore_admitted (s : State) (k : Nat) (f : Core → Core) : (s.modCore k f).admitted = s.admitted := rfl
@[simp] theorem State.modCore_history (s : State) (k : Nat) (f : Core → Core) : (s.modCore k f).history = s.history := rfl
@[simp] theorem State.modCore_jobs (s : State) (k : Nat) (f : Core → Core) : (s.modCore k f).jobs = s.jobs := rfl
@[simp] theorem State.modCore_nextJob (s : State) (k : Nat) (f : Core → Core) : (s.modCore k f).nextJob = s.nextJob := rfl
@[simp] theorem State.modCore_held (s : State) (k : Nat) (f : Core → Core) : (s.modCore k f).held = s.held := rfl
@[simp] theorem State.modCore_wakeHeld (s : State) (k : Nat) (f : Core → Core) : (s.modCore k f).wakeHeld = s.wakeHeld := rfl
@[simp] theorem State.modCore_combining (s : State) (k : Nat) (f : Core → Core) : (s.modCore k f).combining = s.combining := rfl
@[simp] theorem State.modCore_combined (s : State) (k : Nat) (f : Core → Core) : (s.modCore k f).combined = s.combined := rfl
@[simp] theorem State.modCore_streamSeq (s : State) (k : Nat) (f : Core → Core) : (s.modCore k f).streamSeq = s.streamSeq := rfl
@[simp] theorem State.modCore_unitSends (s : State) (k : Nat) (f : Core → Core) : (s.modCore k f).unitSends = s.unitSends := rfl
@[simp] theorem State.modCore_lines (s : State) (k : Nat) (f : Core → Core) : (s.modCore k f).lines = s.lines := rfl
@[simp] theorem State.modCore_reds (s : State) (k : Nat) (f : Core → Core) : (s.modCore k f).reds = s.reds := rfl
@[simp] theorem State.modCore_stackMem (s : State) (k : Nat) (f : Core → Core) : (s.modCore k f).stackMem = s.stackMem := rfl
@[simp] theorem State.modCore_stackSts (s : State) (k : Nat) (f : Core → Core) : (s.modCore k f).stackSts = s.stackSts := rfl
@[simp] theorem State.modCore_attnQueue (s : State) (k : Nat) (f : Core → Core) : (s.modCore k f).attnQueue = s.attnQueue := rfl
@[simp] theorem State.modCore_stewardMem (s : State) (k : Nat) (f : Core → Core) : (s.modCore k f).stewardMem = s.stewardMem := rfl
@[simp] theorem State.modCore_flash (s : State) (k : Nat) (f : Core → Core) : (s.modCore k f).flash = s.flash := rfl
@[simp] theorem State.modCore_hamper (s : State) (k : Nat) (f : Core → Core) : (s.modCore k f).hamper = s.hamper := rfl
@[simp] theorem State.modCore_hartRead (s : State) (k : Nat) (f : Core → Core) : (s.modCore k f).hartRead = s.hartRead := rfl
@[simp] theorem State.modCore_events (s : State) (k : Nat) (f : Core → Core) : (s.modCore k f).events = s.events := rfl
@[simp] theorem State.modCore_early (s : State) (k : Nat) (f : Core → Core) : (s.modCore k f).early = s.early := rfl
@[simp] theorem State.modCore_fatal (s : State) (k : Nat) (f : Core → Core) : (s.modCore k f).fatal = s.fatal := rfl
@[simp] theorem State.modCore_logCounts (s : State) (k : Nat) (f : Core → Core) : (s.modCore k f).logCounts = s.logCounts := rfl
@[simp] theorem State.modCore_logFirst (s : State) (k : Nat) (f : Core → Core) : (s.modCore k f).logFirst = s.logFirst := rfl
@[simp] theorem State.modCore_ridge (s : State) (k : Nat) (f : Core → Core) : (s.modCore k f).ridge = s.ridge := rfl
@[simp] theorem State.modCore_clk (s : State) (k : Nat) (f : Core → Core) : (s.modCore k f).clk = s.clk := rfl
@[simp] theorem State.modCore_power (s : State) (k : Nat) (f : Core → Core) : (s.modCore k f).power = s.power := rfl
@[simp] theorem State.modCore_podnet (s : State) (k : Nat) (f : Core → Core) : (s.modCore k f).podnet = s.podnet := rfl
@[simp] theorem State.modCore_steward (s : State) (k : Nat) (f : Core → Core) : (s.modCore k f).steward = s.steward := rfl
@[simp] theorem State.modCore_pins (s : State) (k : Nat) (f : Core → Core) : (s.modCore k f).pins = s.pins := rfl
@[simp] theorem State.modCore_pending (s : State) (k : Nat) (f : Core → Core) : (s.modCore k f).pending = s.pending := rfl

@[simp] theorem State.send_part (s : State) (m : Msg) : (s.send m).part = s.part := rfl
@[simp] theorem State.send_regs (s : State) (m : Msg) : (s.send m).regs = s.regs := rfl
@[simp] theorem State.send_ticks (s : State) (m : Msg) : (s.send m).ticks = s.ticks := rfl
@[simp] theorem State.send_free (s : State) (m : Msg) : (s.send m).free = s.free := rfl
@[simp] theorem State.send_cores (s : State) (m : Msg) : (s.send m).cores = s.cores := rfl
@[simp] theorem State.send_windows (s : State) (m : Msg) : (s.send m).windows = s.windows := rfl
@[simp] theorem State.send_admitted (s : State) (m : Msg) : (s.send m).admitted = s.admitted := rfl
@[simp] theorem State.send_history (s : State) (m : Msg) : (s.send m).history = s.history := rfl
@[simp] theorem State.send_jobs (s : State) (m : Msg) : (s.send m).jobs = s.jobs := rfl
@[simp] theorem State.send_nextJob (s : State) (m : Msg) : (s.send m).nextJob = s.nextJob := rfl
@[simp] theorem State.send_held (s : State) (m : Msg) : (s.send m).held = s.held := rfl
@[simp] theorem State.send_wakeHeld (s : State) (m : Msg) : (s.send m).wakeHeld = s.wakeHeld := rfl
@[simp] theorem State.send_combining (s : State) (m : Msg) : (s.send m).combining = s.combining := rfl
@[simp] theorem State.send_combined (s : State) (m : Msg) : (s.send m).combined = s.combined := rfl
@[simp] theorem State.send_streamSeq (s : State) (m : Msg) : (s.send m).streamSeq = s.streamSeq := rfl
@[simp] theorem State.send_unitSends (s : State) (m : Msg) : (s.send m).unitSends = s.unitSends := rfl
@[simp] theorem State.send_lines (s : State) (m : Msg) : (s.send m).lines = s.lines := rfl
@[simp] theorem State.send_reds (s : State) (m : Msg) : (s.send m).reds = s.reds := rfl
@[simp] theorem State.send_stackMem (s : State) (m : Msg) : (s.send m).stackMem = s.stackMem := rfl
@[simp] theorem State.send_stackSts (s : State) (m : Msg) : (s.send m).stackSts = s.stackSts := rfl
@[simp] theorem State.send_attnQueue (s : State) (m : Msg) : (s.send m).attnQueue = s.attnQueue := rfl
@[simp] theorem State.send_stewardMem (s : State) (m : Msg) : (s.send m).stewardMem = s.stewardMem := rfl
@[simp] theorem State.send_flash (s : State) (m : Msg) : (s.send m).flash = s.flash := rfl
@[simp] theorem State.send_hamper (s : State) (m : Msg) : (s.send m).hamper = s.hamper := rfl
@[simp] theorem State.send_hartRead (s : State) (m : Msg) : (s.send m).hartRead = s.hartRead := rfl
@[simp] theorem State.send_events (s : State) (m : Msg) : (s.send m).events = s.events := rfl
@[simp] theorem State.send_early (s : State) (m : Msg) : (s.send m).early = s.early := rfl
@[simp] theorem State.send_fatal (s : State) (m : Msg) : (s.send m).fatal = s.fatal := rfl
@[simp] theorem State.send_logCounts (s : State) (m : Msg) : (s.send m).logCounts = s.logCounts := rfl
@[simp] theorem State.send_logFirst (s : State) (m : Msg) : (s.send m).logFirst = s.logFirst := rfl
@[simp] theorem State.send_ridge (s : State) (m : Msg) : (s.send m).ridge = s.ridge := rfl
@[simp] theorem State.send_clk (s : State) (m : Msg) : (s.send m).clk = s.clk := rfl
@[simp] theorem State.send_power (s : State) (m : Msg) : (s.send m).power = s.power := rfl
@[simp] theorem State.send_podnet (s : State) (m : Msg) : (s.send m).podnet = s.podnet := rfl
@[simp] theorem State.send_steward (s : State) (m : Msg) : (s.send m).steward = s.steward := rfl
@[simp] theorem State.send_pins (s : State) (m : Msg) : (s.send m).pins = s.pins := rfl
@[simp] theorem State.send_pending (s : State) (m : Msg) : (s.send m).pending = s.pending := rfl

@[simp] theorem State.arrived_part (s : State) (m : Msg) : (s.arrived m).part = s.part := rfl
@[simp] theorem State.arrived_regs (s : State) (m : Msg) : (s.arrived m).regs = s.regs := rfl
@[simp] theorem State.arrived_ticks (s : State) (m : Msg) : (s.arrived m).ticks = s.ticks := rfl
@[simp] theorem State.arrived_free (s : State) (m : Msg) : (s.arrived m).free = s.free := rfl
@[simp] theorem State.arrived_cores (s : State) (m : Msg) : (s.arrived m).cores = s.cores := rfl
@[simp] theorem State.arrived_windows (s : State) (m : Msg) : (s.arrived m).windows = s.windows := rfl
@[simp] theorem State.arrived_admitted (s : State) (m : Msg) : (s.arrived m).admitted = s.admitted := rfl
@[simp] theorem State.arrived_history (s : State) (m : Msg) : (s.arrived m).history = s.history := rfl
@[simp] theorem State.arrived_jobs (s : State) (m : Msg) : (s.arrived m).jobs = s.jobs := rfl
@[simp] theorem State.arrived_nextJob (s : State) (m : Msg) : (s.arrived m).nextJob = s.nextJob := rfl
@[simp] theorem State.arrived_held (s : State) (m : Msg) : (s.arrived m).held = s.held := rfl
@[simp] theorem State.arrived_wakeHeld (s : State) (m : Msg) : (s.arrived m).wakeHeld = s.wakeHeld := rfl
@[simp] theorem State.arrived_combining (s : State) (m : Msg) : (s.arrived m).combining = s.combining := rfl
@[simp] theorem State.arrived_combined (s : State) (m : Msg) : (s.arrived m).combined = s.combined := rfl
@[simp] theorem State.arrived_streamSeq (s : State) (m : Msg) : (s.arrived m).streamSeq = s.streamSeq := rfl
@[simp] theorem State.arrived_unitSends (s : State) (m : Msg) : (s.arrived m).unitSends = s.unitSends := rfl
@[simp] theorem State.arrived_lines (s : State) (m : Msg) : (s.arrived m).lines = s.lines := rfl
@[simp] theorem State.arrived_reds (s : State) (m : Msg) : (s.arrived m).reds = s.reds := rfl
@[simp] theorem State.arrived_stackMem (s : State) (m : Msg) : (s.arrived m).stackMem = s.stackMem := rfl
@[simp] theorem State.arrived_stackSts (s : State) (m : Msg) : (s.arrived m).stackSts = s.stackSts := rfl
@[simp] theorem State.arrived_attnQueue (s : State) (m : Msg) : (s.arrived m).attnQueue = s.attnQueue := rfl
@[simp] theorem State.arrived_stewardMem (s : State) (m : Msg) : (s.arrived m).stewardMem = s.stewardMem := rfl
@[simp] theorem State.arrived_flash (s : State) (m : Msg) : (s.arrived m).flash = s.flash := rfl
@[simp] theorem State.arrived_hamper (s : State) (m : Msg) : (s.arrived m).hamper = s.hamper := rfl
@[simp] theorem State.arrived_hartRead (s : State) (m : Msg) : (s.arrived m).hartRead = s.hartRead := rfl
@[simp] theorem State.arrived_events (s : State) (m : Msg) : (s.arrived m).events = s.events := rfl
@[simp] theorem State.arrived_early (s : State) (m : Msg) : (s.arrived m).early = s.early := rfl
@[simp] theorem State.arrived_fatal (s : State) (m : Msg) : (s.arrived m).fatal = s.fatal := rfl
@[simp] theorem State.arrived_logCounts (s : State) (m : Msg) : (s.arrived m).logCounts = s.logCounts := rfl
@[simp] theorem State.arrived_logFirst (s : State) (m : Msg) : (s.arrived m).logFirst = s.logFirst := rfl
@[simp] theorem State.arrived_clk (s : State) (m : Msg) : (s.arrived m).clk = s.clk := rfl
@[simp] theorem State.arrived_power (s : State) (m : Msg) : (s.arrived m).power = s.power := rfl
@[simp] theorem State.arrived_podnet (s : State) (m : Msg) : (s.arrived m).podnet = s.podnet := rfl
@[simp] theorem State.arrived_steward (s : State) (m : Msg) : (s.arrived m).steward = s.steward := rfl
@[simp] theorem State.arrived_pins (s : State) (m : Msg) : (s.arrived m).pins = s.pins := rfl
@[simp] theorem State.arrived_pending (s : State) (m : Msg) : (s.arrived m).pending = s.pending := rfl

@[simp] theorem State.setStack_part (s : State) (m : Nat) (v : Mem) : (s.setStack m v).part = s.part := rfl
@[simp] theorem State.setStack_regs (s : State) (m : Nat) (v : Mem) : (s.setStack m v).regs = s.regs := rfl
@[simp] theorem State.setStack_ticks (s : State) (m : Nat) (v : Mem) : (s.setStack m v).ticks = s.ticks := rfl
@[simp] theorem State.setStack_free (s : State) (m : Nat) (v : Mem) : (s.setStack m v).free = s.free := rfl
@[simp] theorem State.setStack_cores (s : State) (m : Nat) (v : Mem) : (s.setStack m v).cores = s.cores := rfl
@[simp] theorem State.setStack_out (s : State) (m : Nat) (v : Mem) : (s.setStack m v).out = s.out := rfl
@[simp] theorem State.setStack_windows (s : State) (m : Nat) (v : Mem) : (s.setStack m v).windows = s.windows := rfl
@[simp] theorem State.setStack_admitted (s : State) (m : Nat) (v : Mem) : (s.setStack m v).admitted = s.admitted := rfl
@[simp] theorem State.setStack_history (s : State) (m : Nat) (v : Mem) : (s.setStack m v).history = s.history := rfl
@[simp] theorem State.setStack_jobs (s : State) (m : Nat) (v : Mem) : (s.setStack m v).jobs = s.jobs := rfl
@[simp] theorem State.setStack_nextJob (s : State) (m : Nat) (v : Mem) : (s.setStack m v).nextJob = s.nextJob := rfl
@[simp] theorem State.setStack_held (s : State) (m : Nat) (v : Mem) : (s.setStack m v).held = s.held := rfl
@[simp] theorem State.setStack_wakeHeld (s : State) (m : Nat) (v : Mem) : (s.setStack m v).wakeHeld = s.wakeHeld := rfl
@[simp] theorem State.setStack_combining (s : State) (m : Nat) (v : Mem) : (s.setStack m v).combining = s.combining := rfl
@[simp] theorem State.setStack_combined (s : State) (m : Nat) (v : Mem) : (s.setStack m v).combined = s.combined := rfl
@[simp] theorem State.setStack_streamSeq (s : State) (m : Nat) (v : Mem) : (s.setStack m v).streamSeq = s.streamSeq := rfl
@[simp] theorem State.setStack_unitSends (s : State) (m : Nat) (v : Mem) : (s.setStack m v).unitSends = s.unitSends := rfl
@[simp] theorem State.setStack_lines (s : State) (m : Nat) (v : Mem) : (s.setStack m v).lines = s.lines := rfl
@[simp] theorem State.setStack_reds (s : State) (m : Nat) (v : Mem) : (s.setStack m v).reds = s.reds := rfl
@[simp] theorem State.setStack_stackSts (s : State) (m : Nat) (v : Mem) : (s.setStack m v).stackSts = s.stackSts := rfl
@[simp] theorem State.setStack_attnQueue (s : State) (m : Nat) (v : Mem) : (s.setStack m v).attnQueue = s.attnQueue := rfl
@[simp] theorem State.setStack_stewardMem (s : State) (m : Nat) (v : Mem) : (s.setStack m v).stewardMem = s.stewardMem := rfl
@[simp] theorem State.setStack_flash (s : State) (m : Nat) (v : Mem) : (s.setStack m v).flash = s.flash := rfl
@[simp] theorem State.setStack_hamper (s : State) (m : Nat) (v : Mem) : (s.setStack m v).hamper = s.hamper := rfl
@[simp] theorem State.setStack_hartRead (s : State) (m : Nat) (v : Mem) : (s.setStack m v).hartRead = s.hartRead := rfl
@[simp] theorem State.setStack_events (s : State) (m : Nat) (v : Mem) : (s.setStack m v).events = s.events := rfl
@[simp] theorem State.setStack_early (s : State) (m : Nat) (v : Mem) : (s.setStack m v).early = s.early := rfl
@[simp] theorem State.setStack_fatal (s : State) (m : Nat) (v : Mem) : (s.setStack m v).fatal = s.fatal := rfl
@[simp] theorem State.setStack_logCounts (s : State) (m : Nat) (v : Mem) : (s.setStack m v).logCounts = s.logCounts := rfl
@[simp] theorem State.setStack_logFirst (s : State) (m : Nat) (v : Mem) : (s.setStack m v).logFirst = s.logFirst := rfl
@[simp] theorem State.setStack_ridge (s : State) (m : Nat) (v : Mem) : (s.setStack m v).ridge = s.ridge := rfl
@[simp] theorem State.setStack_clk (s : State) (m : Nat) (v : Mem) : (s.setStack m v).clk = s.clk := rfl
@[simp] theorem State.setStack_power (s : State) (m : Nat) (v : Mem) : (s.setStack m v).power = s.power := rfl
@[simp] theorem State.setStack_podnet (s : State) (m : Nat) (v : Mem) : (s.setStack m v).podnet = s.podnet := rfl
@[simp] theorem State.setStack_steward (s : State) (m : Nat) (v : Mem) : (s.setStack m v).steward = s.steward := rfl
@[simp] theorem State.setStack_pins (s : State) (m : Nat) (v : Mem) : (s.setStack m v).pins = s.pins := rfl
@[simp] theorem State.setStack_pending (s : State) (m : Nat) (v : Mem) : (s.setStack m v).pending = s.pending := rfl

@[simp] theorem State.modStack_part (s : State) (m : Nat) (f : StackSt → StackSt) : (s.modStack m f).part = s.part := rfl
@[simp] theorem State.modStack_regs (s : State) (m : Nat) (f : StackSt → StackSt) : (s.modStack m f).regs = s.regs := rfl
@[simp] theorem State.modStack_ticks (s : State) (m : Nat) (f : StackSt → StackSt) : (s.modStack m f).ticks = s.ticks := rfl
@[simp] theorem State.modStack_free (s : State) (m : Nat) (f : StackSt → StackSt) : (s.modStack m f).free = s.free := rfl
@[simp] theorem State.modStack_cores (s : State) (m : Nat) (f : StackSt → StackSt) : (s.modStack m f).cores = s.cores := rfl
@[simp] theorem State.modStack_out (s : State) (m : Nat) (f : StackSt → StackSt) : (s.modStack m f).out = s.out := rfl
@[simp] theorem State.modStack_windows (s : State) (m : Nat) (f : StackSt → StackSt) : (s.modStack m f).windows = s.windows := rfl
@[simp] theorem State.modStack_admitted (s : State) (m : Nat) (f : StackSt → StackSt) : (s.modStack m f).admitted = s.admitted := rfl
@[simp] theorem State.modStack_history (s : State) (m : Nat) (f : StackSt → StackSt) : (s.modStack m f).history = s.history := rfl
@[simp] theorem State.modStack_jobs (s : State) (m : Nat) (f : StackSt → StackSt) : (s.modStack m f).jobs = s.jobs := rfl
@[simp] theorem State.modStack_nextJob (s : State) (m : Nat) (f : StackSt → StackSt) : (s.modStack m f).nextJob = s.nextJob := rfl
@[simp] theorem State.modStack_held (s : State) (m : Nat) (f : StackSt → StackSt) : (s.modStack m f).held = s.held := rfl
@[simp] theorem State.modStack_wakeHeld (s : State) (m : Nat) (f : StackSt → StackSt) : (s.modStack m f).wakeHeld = s.wakeHeld := rfl
@[simp] theorem State.modStack_combining (s : State) (m : Nat) (f : StackSt → StackSt) : (s.modStack m f).combining = s.combining := rfl
@[simp] theorem State.modStack_combined (s : State) (m : Nat) (f : StackSt → StackSt) : (s.modStack m f).combined = s.combined := rfl
@[simp] theorem State.modStack_streamSeq (s : State) (m : Nat) (f : StackSt → StackSt) : (s.modStack m f).streamSeq = s.streamSeq := rfl
@[simp] theorem State.modStack_unitSends (s : State) (m : Nat) (f : StackSt → StackSt) : (s.modStack m f).unitSends = s.unitSends := rfl
@[simp] theorem State.modStack_lines (s : State) (m : Nat) (f : StackSt → StackSt) : (s.modStack m f).lines = s.lines := rfl
@[simp] theorem State.modStack_reds (s : State) (m : Nat) (f : StackSt → StackSt) : (s.modStack m f).reds = s.reds := rfl
@[simp] theorem State.modStack_stackMem (s : State) (m : Nat) (f : StackSt → StackSt) : (s.modStack m f).stackMem = s.stackMem := rfl
@[simp] theorem State.modStack_attnQueue (s : State) (m : Nat) (f : StackSt → StackSt) : (s.modStack m f).attnQueue = s.attnQueue := rfl
@[simp] theorem State.modStack_stewardMem (s : State) (m : Nat) (f : StackSt → StackSt) : (s.modStack m f).stewardMem = s.stewardMem := rfl
@[simp] theorem State.modStack_flash (s : State) (m : Nat) (f : StackSt → StackSt) : (s.modStack m f).flash = s.flash := rfl
@[simp] theorem State.modStack_hamper (s : State) (m : Nat) (f : StackSt → StackSt) : (s.modStack m f).hamper = s.hamper := rfl
@[simp] theorem State.modStack_hartRead (s : State) (m : Nat) (f : StackSt → StackSt) : (s.modStack m f).hartRead = s.hartRead := rfl
@[simp] theorem State.modStack_events (s : State) (m : Nat) (f : StackSt → StackSt) : (s.modStack m f).events = s.events := rfl
@[simp] theorem State.modStack_early (s : State) (m : Nat) (f : StackSt → StackSt) : (s.modStack m f).early = s.early := rfl
@[simp] theorem State.modStack_fatal (s : State) (m : Nat) (f : StackSt → StackSt) : (s.modStack m f).fatal = s.fatal := rfl
@[simp] theorem State.modStack_logCounts (s : State) (m : Nat) (f : StackSt → StackSt) : (s.modStack m f).logCounts = s.logCounts := rfl
@[simp] theorem State.modStack_logFirst (s : State) (m : Nat) (f : StackSt → StackSt) : (s.modStack m f).logFirst = s.logFirst := rfl
@[simp] theorem State.modStack_ridge (s : State) (m : Nat) (f : StackSt → StackSt) : (s.modStack m f).ridge = s.ridge := rfl
@[simp] theorem State.modStack_clk (s : State) (m : Nat) (f : StackSt → StackSt) : (s.modStack m f).clk = s.clk := rfl
@[simp] theorem State.modStack_power (s : State) (m : Nat) (f : StackSt → StackSt) : (s.modStack m f).power = s.power := rfl
@[simp] theorem State.modStack_podnet (s : State) (m : Nat) (f : StackSt → StackSt) : (s.modStack m f).podnet = s.podnet := rfl
@[simp] theorem State.modStack_steward (s : State) (m : Nat) (f : StackSt → StackSt) : (s.modStack m f).steward = s.steward := rfl
@[simp] theorem State.modStack_pins (s : State) (m : Nat) (f : StackSt → StackSt) : (s.modStack m f).pins = s.pins := rfl
@[simp] theorem State.modStack_pending (s : State) (m : Nat) (f : StackSt → StackSt) : (s.modStack m f).pending = s.pending := rfl

@[simp] theorem State.interrupt_part (s : State) (n : Nat) : (s.interrupt n).part = s.part := rfl
@[simp] theorem State.interrupt_regs (s : State) (n : Nat) : (s.interrupt n).regs = s.regs := rfl
@[simp] theorem State.interrupt_ticks (s : State) (n : Nat) : (s.interrupt n).ticks = s.ticks := rfl
@[simp] theorem State.interrupt_free (s : State) (n : Nat) : (s.interrupt n).free = s.free := rfl
@[simp] theorem State.interrupt_cores (s : State) (n : Nat) : (s.interrupt n).cores = s.cores := rfl
@[simp] theorem State.interrupt_out (s : State) (n : Nat) : (s.interrupt n).out = s.out := rfl
@[simp] theorem State.interrupt_windows (s : State) (n : Nat) : (s.interrupt n).windows = s.windows := rfl
@[simp] theorem State.interrupt_admitted (s : State) (n : Nat) : (s.interrupt n).admitted = s.admitted := rfl
@[simp] theorem State.interrupt_history (s : State) (n : Nat) : (s.interrupt n).history = s.history := rfl
@[simp] theorem State.interrupt_jobs (s : State) (n : Nat) : (s.interrupt n).jobs = s.jobs := rfl
@[simp] theorem State.interrupt_nextJob (s : State) (n : Nat) : (s.interrupt n).nextJob = s.nextJob := rfl
@[simp] theorem State.interrupt_held (s : State) (n : Nat) : (s.interrupt n).held = s.held := rfl
@[simp] theorem State.interrupt_wakeHeld (s : State) (n : Nat) : (s.interrupt n).wakeHeld = s.wakeHeld := rfl
@[simp] theorem State.interrupt_combining (s : State) (n : Nat) : (s.interrupt n).combining = s.combining := rfl
@[simp] theorem State.interrupt_combined (s : State) (n : Nat) : (s.interrupt n).combined = s.combined := rfl
@[simp] theorem State.interrupt_streamSeq (s : State) (n : Nat) : (s.interrupt n).streamSeq = s.streamSeq := rfl
@[simp] theorem State.interrupt_unitSends (s : State) (n : Nat) : (s.interrupt n).unitSends = s.unitSends := rfl
@[simp] theorem State.interrupt_lines (s : State) (n : Nat) : (s.interrupt n).lines = s.lines := rfl
@[simp] theorem State.interrupt_reds (s : State) (n : Nat) : (s.interrupt n).reds = s.reds := rfl
@[simp] theorem State.interrupt_stackMem (s : State) (n : Nat) : (s.interrupt n).stackMem = s.stackMem := rfl
@[simp] theorem State.interrupt_stackSts (s : State) (n : Nat) : (s.interrupt n).stackSts = s.stackSts := rfl
@[simp] theorem State.interrupt_attnQueue (s : State) (n : Nat) : (s.interrupt n).attnQueue = s.attnQueue := rfl
@[simp] theorem State.interrupt_stewardMem (s : State) (n : Nat) : (s.interrupt n).stewardMem = s.stewardMem := rfl
@[simp] theorem State.interrupt_flash (s : State) (n : Nat) : (s.interrupt n).flash = s.flash := rfl
@[simp] theorem State.interrupt_hamper (s : State) (n : Nat) : (s.interrupt n).hamper = s.hamper := rfl
@[simp] theorem State.interrupt_hartRead (s : State) (n : Nat) : (s.interrupt n).hartRead = s.hartRead := rfl
@[simp] theorem State.interrupt_events (s : State) (n : Nat) : (s.interrupt n).events = s.events := rfl
@[simp] theorem State.interrupt_early (s : State) (n : Nat) : (s.interrupt n).early = s.early := rfl
@[simp] theorem State.interrupt_fatal (s : State) (n : Nat) : (s.interrupt n).fatal = s.fatal := rfl
@[simp] theorem State.interrupt_logCounts (s : State) (n : Nat) : (s.interrupt n).logCounts = s.logCounts := rfl
@[simp] theorem State.interrupt_logFirst (s : State) (n : Nat) : (s.interrupt n).logFirst = s.logFirst := rfl
@[simp] theorem State.interrupt_ridge (s : State) (n : Nat) : (s.interrupt n).ridge = s.ridge := rfl
@[simp] theorem State.interrupt_clk (s : State) (n : Nat) : (s.interrupt n).clk = s.clk := rfl
@[simp] theorem State.interrupt_power (s : State) (n : Nat) : (s.interrupt n).power = s.power := rfl
@[simp] theorem State.interrupt_podnet (s : State) (n : Nat) : (s.interrupt n).podnet = s.podnet := rfl
@[simp] theorem State.interrupt_pins (s : State) (n : Nat) : (s.interrupt n).pins = s.pins := rfl
@[simp] theorem State.interrupt_pending (s : State) (n : Nat) : (s.interrupt n).pending = s.pending := rfl

@[simp] theorem State.alert_part (s : State) (f : Nat) : (s.alert f).part = s.part := rfl
@[simp] theorem State.alert_regs (s : State) (f : Nat) : (s.alert f).regs = s.regs := rfl
@[simp] theorem State.alert_ticks (s : State) (f : Nat) : (s.alert f).ticks = s.ticks := rfl
@[simp] theorem State.alert_free (s : State) (f : Nat) : (s.alert f).free = s.free := rfl
@[simp] theorem State.alert_cores (s : State) (f : Nat) : (s.alert f).cores = s.cores := rfl
@[simp] theorem State.alert_out (s : State) (f : Nat) : (s.alert f).out = s.out := rfl
@[simp] theorem State.alert_windows (s : State) (f : Nat) : (s.alert f).windows = s.windows := rfl
@[simp] theorem State.alert_admitted (s : State) (f : Nat) : (s.alert f).admitted = s.admitted := rfl
@[simp] theorem State.alert_history (s : State) (f : Nat) : (s.alert f).history = s.history := rfl
@[simp] theorem State.alert_jobs (s : State) (f : Nat) : (s.alert f).jobs = s.jobs := rfl
@[simp] theorem State.alert_nextJob (s : State) (f : Nat) : (s.alert f).nextJob = s.nextJob := rfl
@[simp] theorem State.alert_held (s : State) (f : Nat) : (s.alert f).held = s.held := rfl
@[simp] theorem State.alert_wakeHeld (s : State) (f : Nat) : (s.alert f).wakeHeld = s.wakeHeld := rfl
@[simp] theorem State.alert_combining (s : State) (f : Nat) : (s.alert f).combining = s.combining := rfl
@[simp] theorem State.alert_combined (s : State) (f : Nat) : (s.alert f).combined = s.combined := rfl
@[simp] theorem State.alert_streamSeq (s : State) (f : Nat) : (s.alert f).streamSeq = s.streamSeq := rfl
@[simp] theorem State.alert_unitSends (s : State) (f : Nat) : (s.alert f).unitSends = s.unitSends := rfl
@[simp] theorem State.alert_lines (s : State) (f : Nat) : (s.alert f).lines = s.lines := rfl
@[simp] theorem State.alert_reds (s : State) (f : Nat) : (s.alert f).reds = s.reds := rfl
@[simp] theorem State.alert_stackMem (s : State) (f : Nat) : (s.alert f).stackMem = s.stackMem := rfl
@[simp] theorem State.alert_stackSts (s : State) (f : Nat) : (s.alert f).stackSts = s.stackSts := rfl
@[simp] theorem State.alert_attnQueue (s : State) (f : Nat) : (s.alert f).attnQueue = s.attnQueue := rfl
@[simp] theorem State.alert_stewardMem (s : State) (f : Nat) : (s.alert f).stewardMem = s.stewardMem := rfl
@[simp] theorem State.alert_flash (s : State) (f : Nat) : (s.alert f).flash = s.flash := rfl
@[simp] theorem State.alert_hamper (s : State) (f : Nat) : (s.alert f).hamper = s.hamper := rfl
@[simp] theorem State.alert_hartRead (s : State) (f : Nat) : (s.alert f).hartRead = s.hartRead := rfl
@[simp] theorem State.alert_events (s : State) (f : Nat) : (s.alert f).events = s.events := rfl
@[simp] theorem State.alert_early (s : State) (f : Nat) : (s.alert f).early = s.early := rfl
@[simp] theorem State.alert_fatal (s : State) (f : Nat) : (s.alert f).fatal = s.fatal := rfl
@[simp] theorem State.alert_logCounts (s : State) (f : Nat) : (s.alert f).logCounts = s.logCounts := rfl
@[simp] theorem State.alert_logFirst (s : State) (f : Nat) : (s.alert f).logFirst = s.logFirst := rfl
@[simp] theorem State.alert_ridge (s : State) (f : Nat) : (s.alert f).ridge = s.ridge := rfl
@[simp] theorem State.alert_clk (s : State) (f : Nat) : (s.alert f).clk = s.clk := rfl
@[simp] theorem State.alert_power (s : State) (f : Nat) : (s.alert f).power = s.power := rfl
@[simp] theorem State.alert_podnet (s : State) (f : Nat) : (s.alert f).podnet = s.podnet := rfl
@[simp] theorem State.alert_pins (s : State) (f : Nat) : (s.alert f).pins = s.pins := rfl
@[simp] theorem State.alert_pending (s : State) (f : Nat) : (s.alert f).pending = s.pending := rfl

@[simp] theorem State.raise_part (s : State) (cls code sev die unit outing : Nat) (d0 d1 d2 : Word) :
    (s.raise cls code sev die unit outing d0 d1 d2).part = s.part := by unfold State.raise; dsimp only; split <;> rfl
@[simp] theorem State.raise_regs (s : State) (cls code sev die unit outing : Nat) (d0 d1 d2 : Word) :
    (s.raise cls code sev die unit outing d0 d1 d2).regs = s.regs := by unfold State.raise; dsimp only; split <;> rfl
@[simp] theorem State.raise_ticks (s : State) (cls code sev die unit outing : Nat) (d0 d1 d2 : Word) :
    (s.raise cls code sev die unit outing d0 d1 d2).ticks = s.ticks := by unfold State.raise; dsimp only; split <;> rfl
@[simp] theorem State.raise_free (s : State) (cls code sev die unit outing : Nat) (d0 d1 d2 : Word) :
    (s.raise cls code sev die unit outing d0 d1 d2).free = s.free := by unfold State.raise; dsimp only; split <;> rfl
@[simp] theorem State.raise_cores (s : State) (cls code sev die unit outing : Nat) (d0 d1 d2 : Word) :
    (s.raise cls code sev die unit outing d0 d1 d2).cores = s.cores := by unfold State.raise; dsimp only; split <;> rfl
@[simp] theorem State.raise_out (s : State) (cls code sev die unit outing : Nat) (d0 d1 d2 : Word) :
    (s.raise cls code sev die unit outing d0 d1 d2).out = s.out := by unfold State.raise; dsimp only; split <;> rfl
@[simp] theorem State.raise_windows (s : State) (cls code sev die unit outing : Nat) (d0 d1 d2 : Word) :
    (s.raise cls code sev die unit outing d0 d1 d2).windows = s.windows := by unfold State.raise; dsimp only; split <;> rfl
@[simp] theorem State.raise_admitted (s : State) (cls code sev die unit outing : Nat) (d0 d1 d2 : Word) :
    (s.raise cls code sev die unit outing d0 d1 d2).admitted = s.admitted := by unfold State.raise; dsimp only; split <;> rfl
@[simp] theorem State.raise_history (s : State) (cls code sev die unit outing : Nat) (d0 d1 d2 : Word) :
    (s.raise cls code sev die unit outing d0 d1 d2).history = s.history := by unfold State.raise; dsimp only; split <;> rfl
@[simp] theorem State.raise_jobs (s : State) (cls code sev die unit outing : Nat) (d0 d1 d2 : Word) :
    (s.raise cls code sev die unit outing d0 d1 d2).jobs = s.jobs := by unfold State.raise; dsimp only; split <;> rfl
@[simp] theorem State.raise_nextJob (s : State) (cls code sev die unit outing : Nat) (d0 d1 d2 : Word) :
    (s.raise cls code sev die unit outing d0 d1 d2).nextJob = s.nextJob := by unfold State.raise; dsimp only; split <;> rfl
@[simp] theorem State.raise_held (s : State) (cls code sev die unit outing : Nat) (d0 d1 d2 : Word) :
    (s.raise cls code sev die unit outing d0 d1 d2).held = s.held := by unfold State.raise; dsimp only; split <;> rfl
@[simp] theorem State.raise_wakeHeld (s : State) (cls code sev die unit outing : Nat) (d0 d1 d2 : Word) :
    (s.raise cls code sev die unit outing d0 d1 d2).wakeHeld = s.wakeHeld := by unfold State.raise; dsimp only; split <;> rfl
@[simp] theorem State.raise_combining (s : State) (cls code sev die unit outing : Nat) (d0 d1 d2 : Word) :
    (s.raise cls code sev die unit outing d0 d1 d2).combining = s.combining := by unfold State.raise; dsimp only; split <;> rfl
@[simp] theorem State.raise_combined (s : State) (cls code sev die unit outing : Nat) (d0 d1 d2 : Word) :
    (s.raise cls code sev die unit outing d0 d1 d2).combined = s.combined := by unfold State.raise; dsimp only; split <;> rfl
@[simp] theorem State.raise_streamSeq (s : State) (cls code sev die unit outing : Nat) (d0 d1 d2 : Word) :
    (s.raise cls code sev die unit outing d0 d1 d2).streamSeq = s.streamSeq := by unfold State.raise; dsimp only; split <;> rfl
@[simp] theorem State.raise_unitSends (s : State) (cls code sev die unit outing : Nat) (d0 d1 d2 : Word) :
    (s.raise cls code sev die unit outing d0 d1 d2).unitSends = s.unitSends := by unfold State.raise; dsimp only; split <;> rfl
@[simp] theorem State.raise_lines (s : State) (cls code sev die unit outing : Nat) (d0 d1 d2 : Word) :
    (s.raise cls code sev die unit outing d0 d1 d2).lines = s.lines := by unfold State.raise; dsimp only; split <;> rfl
@[simp] theorem State.raise_reds (s : State) (cls code sev die unit outing : Nat) (d0 d1 d2 : Word) :
    (s.raise cls code sev die unit outing d0 d1 d2).reds = s.reds := by unfold State.raise; dsimp only; split <;> rfl
@[simp] theorem State.raise_stackMem (s : State) (cls code sev die unit outing : Nat) (d0 d1 d2 : Word) :
    (s.raise cls code sev die unit outing d0 d1 d2).stackMem = s.stackMem := by unfold State.raise; dsimp only; split <;> rfl
@[simp] theorem State.raise_stackSts (s : State) (cls code sev die unit outing : Nat) (d0 d1 d2 : Word) :
    (s.raise cls code sev die unit outing d0 d1 d2).stackSts = s.stackSts := by unfold State.raise; dsimp only; split <;> rfl
@[simp] theorem State.raise_attnQueue (s : State) (cls code sev die unit outing : Nat) (d0 d1 d2 : Word) :
    (s.raise cls code sev die unit outing d0 d1 d2).attnQueue = s.attnQueue := by unfold State.raise; dsimp only; split <;> rfl
@[simp] theorem State.raise_stewardMem (s : State) (cls code sev die unit outing : Nat) (d0 d1 d2 : Word) :
    (s.raise cls code sev die unit outing d0 d1 d2).stewardMem = s.stewardMem := by unfold State.raise; dsimp only; split <;> rfl
@[simp] theorem State.raise_flash (s : State) (cls code sev die unit outing : Nat) (d0 d1 d2 : Word) :
    (s.raise cls code sev die unit outing d0 d1 d2).flash = s.flash := by unfold State.raise; dsimp only; split <;> rfl
@[simp] theorem State.raise_hamper (s : State) (cls code sev die unit outing : Nat) (d0 d1 d2 : Word) :
    (s.raise cls code sev die unit outing d0 d1 d2).hamper = s.hamper := by unfold State.raise; dsimp only; split <;> rfl
@[simp] theorem State.raise_hartRead (s : State) (cls code sev die unit outing : Nat) (d0 d1 d2 : Word) :
    (s.raise cls code sev die unit outing d0 d1 d2).hartRead = s.hartRead := by unfold State.raise; dsimp only; split <;> rfl
@[simp] theorem State.raise_early (s : State) (cls code sev die unit outing : Nat) (d0 d1 d2 : Word) :
    (s.raise cls code sev die unit outing d0 d1 d2).early = s.early := by unfold State.raise; dsimp only; split <;> rfl
@[simp] theorem State.raise_fatal (s : State) (cls code sev die unit outing : Nat) (d0 d1 d2 : Word) :
    (s.raise cls code sev die unit outing d0 d1 d2).fatal = s.fatal := by unfold State.raise; dsimp only; split <;> rfl
@[simp] theorem State.raise_logCounts (s : State) (cls code sev die unit outing : Nat) (d0 d1 d2 : Word) :
    (s.raise cls code sev die unit outing d0 d1 d2).logCounts = s.logCounts := by unfold State.raise; dsimp only; split <;> rfl
@[simp] theorem State.raise_logFirst (s : State) (cls code sev die unit outing : Nat) (d0 d1 d2 : Word) :
    (s.raise cls code sev die unit outing d0 d1 d2).logFirst = s.logFirst := by unfold State.raise; dsimp only; split <;> rfl
@[simp] theorem State.raise_ridge (s : State) (cls code sev die unit outing : Nat) (d0 d1 d2 : Word) :
    (s.raise cls code sev die unit outing d0 d1 d2).ridge = s.ridge := by unfold State.raise; dsimp only; split <;> rfl
@[simp] theorem State.raise_clk (s : State) (cls code sev die unit outing : Nat) (d0 d1 d2 : Word) :
    (s.raise cls code sev die unit outing d0 d1 d2).clk = s.clk := by unfold State.raise; dsimp only; split <;> rfl
@[simp] theorem State.raise_power (s : State) (cls code sev die unit outing : Nat) (d0 d1 d2 : Word) :
    (s.raise cls code sev die unit outing d0 d1 d2).power = s.power := by unfold State.raise; dsimp only; split <;> rfl
@[simp] theorem State.raise_podnet (s : State) (cls code sev die unit outing : Nat) (d0 d1 d2 : Word) :
    (s.raise cls code sev die unit outing d0 d1 d2).podnet = s.podnet := by unfold State.raise; dsimp only; split <;> rfl
@[simp] theorem State.raise_pins (s : State) (cls code sev die unit outing : Nat) (d0 d1 d2 : Word) :
    (s.raise cls code sev die unit outing d0 d1 d2).pins = s.pins := by unfold State.raise; dsimp only; split <;> rfl
@[simp] theorem State.raise_pending (s : State) (cls code sev die unit outing : Nat) (d0 d1 d2 : Word) :
    (s.raise cls code sev die unit outing d0 d1 d2).pending = s.pending := by unfold State.raise; dsimp only; split <;> rfl

/-! ### Words and fields -/

theorem RegName.num_lt (r : RegName) : r.num < 256 := by cases r <;> decide

theorem RegName.num_inj {r q : RegName} (h : r.num = q.num) : r = q := by
  have hr := RegName.ofNat_ctorIdx r
  have hq := RegName.ofNat_ctorIdx q
  unfold RegName.num at h
  rw [← hr, ← hq, h]

/-- Two register instances share a key only when they are the same. -/
theorem RegName.key_inj {r q : RegName} {i j : Nat} : r.key i = q.key j ↔ r = q ∧ i = j := by
  constructor
  · intro h
    have h1 := r.num_lt
    have h2 := q.num_lt
    unfold RegName.key at h
    have : i = j := by omega
    subst this
    exact ⟨RegName.num_inj (by omega), rfl⟩
  · rintro ⟨rfl, rfl⟩; rfl

@[simp] theorem State.word_setWord_same (s : State) (r : RegName) (i : Nat) (w : Word) : (s.setWord r i w).word r i = w :=
  SMap.get_set_same ..

theorem State.word_setWord_ne (s : State) {r q : RegName} {i j : Nat} (h : ¬ (q = r ∧ j = i)) (w : Word) :
    (s.setWord r i w).word q j = s.word q j :=
  SMap.get_set_ne _ (fun e => h (RegName.key_inj.mp e)) _ _ _

theorem State.word_setWord (s : State) (r q : RegName) (i j : Nat) (w : Word) :
    (s.setWord r i w).word q j = if q = r ∧ j = i then w else s.word q j := by
  split
  · next h => obtain ⟨rfl, rfl⟩ := h; simp
  · next h => exact State.word_setWord_ne s h w

/-- A field's bits lie in the word, low bit first. -/
def Fld.ok (f : Fld) : Bool := decide (f.lo ≤ f.hi) && decide (f.hi ≤ 63)

theorem Fld.ok_iff (f : Fld) : f.ok = true ↔ f.lo ≤ f.hi ∧ f.hi ≤ 63 := by simp [Fld.ok]

theorem State.word_put_same (s : State) {f : Fld} (h : f.ok = true) (i v : Nat) :
    ((s.put f i v).word f.reg i).toNat = setBits f.hi f.lo (s.word f.reg i).toNat v := by
  rw [Fld.ok_iff] at h
  unfold State.put
  rw [State.word_setWord_same, BitVec.toNat_ofNat, Nat.mod_eq_of_lt (setBits_lt h.1 h.2 (s.word f.reg i).isLt)]

theorem State.word_put_ne (s : State) {f : Fld} {q : RegName} {i j : Nat} (h : ¬ (q = f.reg ∧ j = i)) (v : Nat) :
    (s.put f i v).word q j = s.word q j := State.word_setWord_ne s h _

/-- A field put reads as the value, modulo its size. -/
theorem State.get_put_same (s : State) {f : Fld} (h : f.ok = true) (i v : Nat) :
    (s.put f i v).get f i = v % 2 ^ (f.hi + 1 - f.lo) := by
  unfold State.get
  rw [State.word_put_same s h, bits_setBits_same ((Fld.ok_iff f).mp h).1]

/-- A field of another register, or of another instance, stays. -/
theorem State.get_put_ne (s : State) {f g : Fld} {i j : Nat} (h : ¬ (g.reg = f.reg ∧ j = i)) (v : Nat) :
    (s.put f i v).get g j = s.get g j := by
  unfold State.get
  rw [State.word_put_ne s h]

/-- Two fields of one register that share no bit. -/
def Fld.apart (f g : Fld) : Bool := decide (f.hi < g.lo) || decide (g.hi < f.lo)

/-- A field of the same word that shares no bit stays. -/
theorem State.get_put_apart (s : State) {f g : Fld} (h : f.ok = true) (hg : g.ok = true) (hr : g.reg = f.reg)
    (ha : f.apart g = true) (i v : Nat) : (s.put f i v).get g i = s.get g i := by
  unfold State.get
  rw [hr, State.word_put_same s h]
  simp only [Fld.apart, Bool.or_eq_true, decide_eq_true_eq] at ha
  exact bits_setBits_ne ((Fld.ok_iff f).mp h).1 ((Fld.ok_iff g).mp hg).1 ha

theorem State.get_setWord_same (s : State) (f : Fld) (i : Nat) (w : Word) :
    (s.setWord f.reg i w).get f i = bits f.hi f.lo w.toNat := by
  unfold State.get; rw [State.word_setWord_same]

theorem State.get_setWord_ne (s : State) {r : RegName} {g : Fld} {i j : Nat} (h : ¬ (g.reg = r ∧ j = i)) (w : Word) :
    (s.setWord r i w).get g j = s.get g j := by
  unfold State.get; rw [State.word_setWord_ne s h]

theorem State.get_lt (s : State) (f : Fld) (i : Nat) : s.get f i < 2 ^ (f.hi + 1 - f.lo) := bits_lt ..

/-- A counting field bumped reads as the sum, or the field's largest value. -/
theorem State.get_bump_same (s : State) {f : Fld} (h : f.ok = true) (i n : Nat) :
    (s.bump f i n).get f i = min f.max (s.get f i + n) := by
  unfold State.bump
  rw [State.get_put_same s h, Nat.mod_eq_of_lt]
  have : 0 < 2 ^ (f.hi + 1 - f.lo) := Nat.two_pow_pos _
  unfold Fld.max
  omega

theorem State.get_bump_ne (s : State) {f g : Fld} {i j : Nat} (h : ¬ (g.reg = f.reg ∧ j = i)) (n : Nat) :
    (s.bump f i n).get g j = s.get g j := State.get_put_ne s h _

theorem State.get_bump_apart (s : State) {f g : Fld} (h : f.ok = true) (hg : g.ok = true) (hr : g.reg = f.reg)
    (ha : f.apart g = true) (i n : Nat) : (s.bump f i n).get g i = s.get g i := State.get_put_apart s h hg hr ha i _

/-! ### Cores -/

@[simp] theorem State.core_setCore_same (s : State) (k : Nat) (c : Core) : (s.setCore k c).core k = c :=
  SMap.get_set_same ..

theorem State.core_setCore_ne (s : State) {j k : Nat} (h : j ≠ k) (c : Core) : (s.setCore k c).core j = s.core j :=
  SMap.get_set_ne _ h ..

@[simp] theorem State.core_modCore_same (s : State) (k : Nat) (f : Core → Core) : (s.modCore k f).core k = f (s.core k) :=
  SMap.get_set_same ..

theorem State.core_modCore_ne (s : State) {j k : Nat} (h : j ≠ k) (f : Core → Core) : (s.modCore k f).core j = s.core j :=
  SMap.get_set_ne _ h ..

/-! ### What each update leaves of registers and cores -/

@[simp] theorem State.core_setWord (s : State) (r : RegName) (i : Nat) (w : Word) (j : Nat) : (s.setWord r i w).core j = s.core j := rfl
@[simp] theorem State.core_put (s : State) (f : Fld) (i v : Nat) (j : Nat) : (s.put f i v).core j = s.core j := rfl
@[simp] theorem State.core_bump (s : State) (f : Fld) (i n : Nat) (j : Nat) : (s.bump f i n).core j = s.core j := rfl
@[simp] theorem State.word_setCore (s : State) (k : Nat) (c : Core) (q : RegName) (j : Nat) : (s.setCore k c).word q j = s.word q j := rfl
@[simp] theorem State.get_setCore (s : State) (k : Nat) (c : Core) (g : Fld) (j : Nat) : (s.setCore k c).get g j = s.get g j := rfl
@[simp] theorem State.flag_setCore (s : State) (k : Nat) (c : Core) (g : Fld) (j : Nat) : (s.setCore k c).flag g j = s.flag g j := rfl
@[simp] theorem State.word_modCore (s : State) (k : Nat) (f : Core → Core) (q : RegName) (j : Nat) : (s.modCore k f).word q j = s.word q j := rfl
@[simp] theorem State.get_modCore (s : State) (k : Nat) (f : Core → Core) (g : Fld) (j : Nat) : (s.modCore k f).get g j = s.get g j := rfl
@[simp] theorem State.flag_modCore (s : State) (k : Nat) (f : Core → Core) (g : Fld) (j : Nat) : (s.modCore k f).flag g j = s.flag g j := rfl
@[simp] theorem State.word_send (s : State) (m : Msg) (q : RegName) (j : Nat) : (s.send m).word q j = s.word q j := rfl
@[simp] theorem State.get_send (s : State) (m : Msg) (g : Fld) (j : Nat) : (s.send m).get g j = s.get g j := rfl
@[simp] theorem State.flag_send (s : State) (m : Msg) (g : Fld) (j : Nat) : (s.send m).flag g j = s.flag g j := rfl
@[simp] theorem State.core_send (s : State) (m : Msg) (j : Nat) : (s.send m).core j = s.core j := rfl
@[simp] theorem State.word_arrived (s : State) (m : Msg) (q : RegName) (j : Nat) : (s.arrived m).word q j = s.word q j := rfl
@[simp] theorem State.get_arrived (s : State) (m : Msg) (g : Fld) (j : Nat) : (s.arrived m).get g j = s.get g j := rfl
@[simp] theorem State.flag_arrived (s : State) (m : Msg) (g : Fld) (j : Nat) : (s.arrived m).flag g j = s.flag g j := rfl
@[simp] theorem State.core_arrived (s : State) (m : Msg) (j : Nat) : (s.arrived m).core j = s.core j := rfl
@[simp] theorem State.word_setStack (s : State) (m : Nat) (v : Mem) (q : RegName) (j : Nat) : (s.setStack m v).word q j = s.word q j := rfl
@[simp] theorem State.get_setStack (s : State) (m : Nat) (v : Mem) (g : Fld) (j : Nat) : (s.setStack m v).get g j = s.get g j := rfl
@[simp] theorem State.flag_setStack (s : State) (m : Nat) (v : Mem) (g : Fld) (j : Nat) : (s.setStack m v).flag g j = s.flag g j := rfl
@[simp] theorem State.core_setStack (s : State) (m : Nat) (v : Mem) (j : Nat) : (s.setStack m v).core j = s.core j := rfl
@[simp] theorem State.word_modStack (s : State) (m : Nat) (f : StackSt → StackSt) (q : RegName) (j : Nat) : (s.modStack m f).word q j = s.word q j := rfl
@[simp] theorem State.get_modStack (s : State) (m : Nat) (f : StackSt → StackSt) (g : Fld) (j : Nat) : (s.modStack m f).get g j = s.get g j := rfl
@[simp] theorem State.flag_modStack (s : State) (m : Nat) (f : StackSt → StackSt) (g : Fld) (j : Nat) : (s.modStack m f).flag g j = s.flag g j := rfl
@[simp] theorem State.core_modStack (s : State) (m : Nat) (f : StackSt → StackSt) (j : Nat) : (s.modStack m f).core j = s.core j := rfl
@[simp] theorem State.word_interrupt (s : State) (n : Nat) (q : RegName) (j : Nat) : (s.interrupt n).word q j = s.word q j := rfl
@[simp] theorem State.get_interrupt (s : State) (n : Nat) (g : Fld) (j : Nat) : (s.interrupt n).get g j = s.get g j := rfl
@[simp] theorem State.flag_interrupt (s : State) (n : Nat) (g : Fld) (j : Nat) : (s.interrupt n).flag g j = s.flag g j := rfl
@[simp] theorem State.core_interrupt (s : State) (n : Nat) (j : Nat) : (s.interrupt n).core j = s.core j := rfl
@[simp] theorem State.word_alert (s : State) (f : Nat) (q : RegName) (j : Nat) : (s.alert f).word q j = s.word q j := rfl
@[simp] theorem State.get_alert (s : State) (f : Nat) (g : Fld) (j : Nat) : (s.alert f).get g j = s.get g j := rfl
@[simp] theorem State.flag_alert (s : State) (f : Nat) (g : Fld) (j : Nat) : (s.alert f).flag g j = s.flag g j := rfl
@[simp] theorem State.core_alert (s : State) (f : Nat) (j : Nat) : (s.alert f).core j = s.core j := rfl
@[simp] theorem State.word_raise (s : State) (cls code sev die unit outing : Nat) (d0 d1 d2 : Word) (q : RegName) (j : Nat) :
    (s.raise cls code sev die unit outing d0 d1 d2).word q j = s.word q j := by unfold State.word; rw [State.raise_regs]
@[simp] theorem State.get_raise (s : State) (cls code sev die unit outing : Nat) (d0 d1 d2 : Word) (g : Fld) (j : Nat) :
    (s.raise cls code sev die unit outing d0 d1 d2).get g j = s.get g j := by unfold State.get; rw [State.word_raise]
@[simp] theorem State.flag_raise (s : State) (cls code sev die unit outing : Nat) (d0 d1 d2 : Word) (g : Fld) (j : Nat) :
    (s.raise cls code sev die unit outing d0 d1 d2).flag g j = s.flag g j := by unfold State.flag; rw [State.get_raise]
@[simp] theorem State.core_raise (s : State) (cls code sev die unit outing : Nat) (d0 d1 d2 : Word) (j : Nat) :
    (s.raise cls code sev die unit outing d0 d1 d2).core j = s.core j := by unfold State.core; rw [State.raise_cores]

/-- Raising an event appends it to those waiting for the log. -/
theorem State.events_raise (s : State) (cls code sev die unit outing : Nat) (d0 d1 d2 : Word) :
    (s.raise cls code sev die unit outing d0 d1 d2).events = s.events ++ [⟨cls, code, sev, die, unit, outing, s.stepCount die, d0, d1, d2, none⟩] := by
  unfold State.raise; dsimp only; split <;> rfl

end Sys2Proof.Machine
end

