-- ==== Sys2Proof/Laws/Port.lean ====
section
/-! SUPPORT. What the port of a core leaves unchanged: its bundle address, its registers, its pipelines, and the counters and
flags of issue (R97, R217). -/

namespace Sys2Proof.Machine

/-- The parts of a core that its port never writes. -/
structure Core.SameRun (c d : Core) : Prop where
  pc : d.pc = c.pc
  st : d.st = c.st
  drain : d.drain = c.drain
  landed : d.landed = c.landed
  cyc : d.cyc = c.cyc
  s : d.s = c.s
  v : d.v = c.v
  p : d.p = c.p
  t : d.t = c.t
  parity : d.parity = c.parity
  pipe : d.pipe = c.pipe
  claims : d.claims = c.claims
  engine : d.engine = c.engine
  redirect : d.redirect = c.redirect
  force : d.force = c.force

/-- The words of a core that its port never writes. -/
def issueWords : List RegName := [.CYCLE_ISSUE, .CYCLE_FROZEN, .FP_FLAGS, .SR_SEED_V, .SR_SEED_M, .SR_STATE, .CORE_FAULT]

/-- From `s` to `t`, core `k` keeps what its port never writes. -/
structure State.SameRun (k : Nat) (s t : State) : Prop where
  core : (s.core k).SameRun (t.core k)
  word : ∀ r ∈ issueWords, t.word r k = s.word r k

theorem Core.SameRun.refl (c : Core) : c.SameRun c := by constructor <;> rfl

theorem Core.SameRun.trans {a b c : Core} (h : a.SameRun b) (g : b.SameRun c) : a.SameRun c := by
  constructor
  · rw [g.pc, h.pc]
  · rw [g.st, h.st]
  · rw [g.drain, h.drain]
  · rw [g.landed, h.landed]
  · rw [g.cyc, h.cyc]
  · rw [g.s, h.s]
  · rw [g.v, h.v]
  · rw [g.p, h.p]
  · rw [g.t, h.t]
  · rw [g.parity, h.parity]
  · rw [g.pipe, h.pipe]
  · rw [g.claims, h.claims]
  · rw [g.engine, h.engine]
  · rw [g.redirect, h.redirect]
  · rw [g.force, h.force]

namespace State

variable {k : Nat}

theorem SameRun.refl (s : State) : s.SameRun k s := ⟨Core.SameRun.refl _, fun _ _ => rfl⟩

theorem SameRun.trans {s t u : State} (h : s.SameRun k t) (g : t.SameRun k u) : s.SameRun k u :=
  ⟨h.core.trans g.core, fun r hr => (g.word r hr).trans (h.word r hr)⟩

/-- An update that changes neither cores nor register words. -/
theorem SameRun.of_eq {s t : State} (hc : t.cores = s.cores) (hr : t.regs = s.regs) : s.SameRun k t := by
  refine ⟨?_, fun r _ => ?_⟩
  · unfold State.core; rw [hc]; exact Core.SameRun.refl _
  · unfold State.word; rw [hr]

theorem sameRun_modCore (s : State) (j : Nat) (f : Core → Core) (h : ∀ c : Core, c.SameRun (f c)) :
    s.SameRun k (s.modCore j f) := by
  refine ⟨?_, fun r _ => rfl⟩
  by_cases e : k = j
  · subst e; rw [State.core_modCore_same]; exact h _
  · rw [State.core_modCore_ne s e]; exact Core.SameRun.refl _

theorem sameRun_setWord (s : State) (q : RegName) (i : Nat) (w : Word) (h : q ∉ issueWords) :
    s.SameRun k (s.setWord q i w) := by
  refine ⟨Core.SameRun.refl _, fun r hr => State.word_setWord_ne s ?_ w⟩
  rintro ⟨rfl, -⟩
  exact h hr

theorem sameRun_put (s : State) (f : Fld) (i v : Nat) (h : f.reg ∉ issueWords) : s.SameRun k (s.put f i v) :=
  sameRun_setWord s _ _ _ h

theorem sameRun_bump (s : State) (f : Fld) (i n : Nat) (h : f.reg ∉ issueWords) : s.SameRun k (s.bump f i n) :=
  sameRun_setWord s _ _ _ h

theorem sameRun_send (s : State) (m : Msg) : s.SameRun k (s.send m) := .of_eq rfl rfl

theorem sameRun_raise (s : State) (cls code sev die unit outing : Nat) (d0 d1 d2 : Word) :
    s.SameRun k (s.raise cls code sev die unit outing d0 d1 d2) := .of_eq (by simp) (by simp)

theorem SameRun.foldl {α : Type} {s : State} (f : State → α → State) (h : ∀ (s : State) (a : α), s.SameRun k (f s a)) (l : List α) :
    ∀ {t : State}, s.SameRun k t → s.SameRun k (l.foldl f t) := by
  induction l with
  | nil => intro t g; exact g
  | cons a _ ih => intro t g; exact ih (g.trans (h t a))

variable {s t : State}

theorem SameRun.modCore (g : s.SameRun k t) (j : Nat) (f : Core → Core) (h : ∀ c : Core, c.SameRun (f c)) :
    s.SameRun k (t.modCore j f) := g.trans (sameRun_modCore t j f h)

theorem SameRun.put (g : s.SameRun k t) (f : Fld) (i v : Nat) (h : f.reg ∉ issueWords) : s.SameRun k (t.put f i v) :=
  g.trans (sameRun_put t f i v h)

theorem SameRun.bump (g : s.SameRun k t) (f : Fld) (i n : Nat) (h : f.reg ∉ issueWords) : s.SameRun k (t.bump f i n) :=
  g.trans (sameRun_bump t f i n h)

theorem SameRun.send (g : s.SameRun k t) (m : Msg) : s.SameRun k (t.send m) := g.trans (sameRun_send t m)

theorem SameRun.raise (g : s.SameRun k t) (cls code sev die unit outing : Nat) (d0 d1 d2 : Word) :
    s.SameRun k (t.raise cls code sev die unit outing d0 d1 d2) := g.trans (sameRun_raise t ..)

/-! ### The core store and the cairns -/

theorem SameRun.setEcc (g : s.SameRun k t) (j w : Nat) (e : Ecc) : s.SameRun k (t.modCore j (·.setEcc w e)) :=
  g.modCore j _ (fun c => by constructor <;> rfl)

theorem SameRun.readWordEcc (g : s.SameRun k t) (j w : Nat) : s.SameRun k (t.readWordEcc j w) := by
  unfold State.readWordEcc
  split
  · exact g
  · exact (g.setEcc j w _).bump _ _ _ (by decide)
  · exact (g.bump _ _ _ (by decide)).put _ _ _ (by decide)

theorem SameRun.readStore (g : s.SameRun k t) (j a n : Nat) : s.SameRun k (t.readStore j a n) :=
  SameRun.foldl _ (fun s w => (SameRun.refl s).readWordEcc j w) _ g

theorem SameRun.writeWordEcc (g : s.SameRun k t) (j w : Nat) (b : Bool) : s.SameRun k (t.writeWordEcc j w b) := by
  unfold State.writeWordEcc
  split
  · exact g.setEcc j w _
  · split
    · exact g
    · exact (g.setEcc j w _).bump _ _ _ (by decide)
    · exact (g.bump _ _ _ (by decide)).put _ _ _ (by decide)

theorem sameRun_writeStep (s : State) (j a : Nat) (l : List (Byte × Bool)) (w : Nat) :
    s.SameRun k (if covered a l w = 0 then s else s.writeWordEcc j w (covered a l w == 8)) := by
  split
  · exact SameRun.refl s
  · exact (SameRun.refl s).writeWordEcc j w _

theorem SameRun.writeStore (g : s.SameRun k t) (j a : Nat) (l : List (Byte × Bool)) : s.SameRun k (t.writeStore j a l) := by
  unfold State.writeStore
  exact SameRun.modCore (SameRun.foldl _ (fun s w => sameRun_writeStep s j a l w) _ g) _ _ (fun c => by constructor <;> rfl)

theorem SameRun.writeBytes (g : s.SameRun k t) (j a : Nat) (l : List Byte) : s.SameRun k (t.writeBytes j a l) :=
  g.writeStore j a _

theorem SameRun.addCairn (g : s.SameRun k t) (j n : Nat) (a : BitVec 32) (kd : BitVec 3) :
    s.SameRun k (t.addCairn j n a kd) := by
  unfold State.addCairn
  dsimp only
  split
  · refine SameRun.raise (SameRun.bump (SameRun.modCore g _ _ (fun c => ?_)) _ _ _ (by decide)) ..
    constructor <;> rfl
  · exact SameRun.modCore g _ _ (fun c => by constructor <;> rfl)

theorem SameRun.addShadow (g : s.SameRun k t) (j n : Nat) (a : BitVec 32) : s.SameRun k (t.addShadow j n a) := by
  unfold State.addShadow
  split
  · exact SameRun.modCore g _ _ (fun c => by constructor <;> rfl)
  · exact g

theorem SameRun.watch (g : s.SameRun k t) (j : Nat) : s.SameRun k (t.watch j) := by
  unfold State.watch
  extract_lets +onlyGivenNames c
  split
  · exact g.modCore _ _ (fun c => by constructor <;> rfl)
  · exact g

theorem SameRun.outsideAdd (g : s.SameRun k t) (j n : Nat) (a : BitVec 32) (kd : BitVec 3) :
    s.SameRun k (t.outsideAdd j n a kd) := ((g.addCairn j n a kd).addShadow j n a).watch j

theorem SameRun.windowPass (g : s.SameRun k t) (site kind stream : Nat) (q : BitVec 32) :
    s.SameRun k (t.windowPass site kind stream q).2 := by
  unfold State.windowPass
  extract_lets +onlyGivenNames key w r u
  have hu : s.SameRun k u := g.trans (.of_eq rfl rfl)
  split
  · exact hu
  · split
    · dsimp only
      exact hu.raise ..
    · exact hu

theorem SameRun.ownAdd (g : s.SameRun k t) (j n a q : Nat) : s.SameRun k (t.ownAdd j n a q) := by
  unfold State.ownAdd
  split
  · exact g
  · extract_lets +onlyGivenNames w
    have hw : s.SameRun k w.2 := g.windowPass ..
    split
    · exact hw.outsideAdd ..
    · exact hw

/-! ### The port -/

theorem SameRun.takeSeq (g : s.SameRun k t) (j : Nat) : s.SameRun k (t.takeSeq j).2 :=
  SameRun.put g _ _ _ (by decide)

theorem SameRun.takeId (g : s.SameRun k t) (j : Nat) : s.SameRun k (t.takeId j).2 :=
  SameRun.modCore g j (fun c => { c with nextId := c.nextId + 1 }) (fun c => by constructor <;> rfl)

theorem SameRun.attnRecord (g : s.SameRun k t) (j base cairn add q st re fl sk tk : Nat) :
    s.SameRun k (t.attnRecord j base cairn add q st re fl sk tk) := by
  unfold State.attnRecord
  split
  · exact g
  · exact SameRun.ownAdd (g.writeBytes j _ _) ..

theorem SameRun.attnPoison (g : s.SameRun k t) (j : Nat) (r : AttnReq) : s.SameRun k (t.attnPoison j r) := by
  unfold State.attnPoison
  split
  · exact g.writeBytes ..
  · exact g

theorem SameRun.attnStart (g : s.SameRun k t) (j : Nat) (op : PodOp) (q : Nat) : s.SameRun k (t.attnStart j op q) := by
  unfold State.attnStart
  extract_lets +onlyGivenNames c base r segs add
  split
  · exact g
  · extract_lets +onlyGivenNames u reason d v
    have hu : s.SameRun k u := g.readStore ..
    have hv : s.SameRun k v := by
      unfold v
      split
      · exact hu
      · exact (hu.readStore ..).readStore ..
    split
    · exact (hv.attnPoison ..).attnRecord ..
    · cases reason with
      | some n => exact hv.attnRecord ..
      | none =>
        dsimp only
        split
        · exact hv.attnRecord ..
        · refine SameRun.foldl _ (fun s i => ?_) _ (hv.modCore _ _ (fun c => by constructor <;> rfl))
          split
          · exact SameRun.refl _
          · exact sameRun_send ..

theorem SameRun.sendOp (g : s.SameRun k t) (j : Nat) (o : PodOp) : s.SameRun k (t.sendOp j o) := by
  unfold State.sendOp
  extract_lets +onlyGivenNames q u
  have hu : s.SameRun k u := (g.takeSeq j).modCore _ _ (fun c => by constructor <;> rfl)
  split
  · exact hu.attnStart ..
  · exact SameRun.send (hu.modCore _ _ (fun c => by constructor <;> rfl)) _

theorem SameRun.setCopy (g : s.SameRun k t) (j ch : Nat) (c : Copy) : s.SameRun k (t.setCopy j ch c) :=
  SameRun.modCore g j _ (fun c => by constructor <;> rfl)

theorem SameRun.copyEnd (g : s.SameRun k t) (j ch st re : Nat) : s.SameRun k (t.copyEnd j ch st re) := by
  unfold State.copyEnd
  extract_lets +onlyGivenNames c check c' u
  have hu : s.SameRun k u := g.setCopy ..
  split
  · exact hu
  · exact hu.raise ..

theorem SameRun.copyMsg (g : s.SameRun k t) (j : Nat) (c : Copy) (opc : Opc) (a x : Word) (n : Nat) (d : List Byte) :
    s.SameRun k (t.copyMsg j c opc a x n d) := g.send _

theorem SameRun.copySend (g : s.SameRun k t) (j ch : Nat) : s.SameRun k (t.copySend j ch) := by
  unfold State.copySend
  extract_lets +onlyGivenNames c
  split
  · exact g
  · split
    · extract_lets +onlyGivenNames n d phase u
      have hu : s.SameRun k u := g.setCopy ..
      split
      · exact hu.copyMsg ..
      · exact hu.copyMsg ..
    · split
      · exact (g.setCopy ..).copyMsg ..
      · exact g

theorem SameRun.admitCopy (g : s.SameRun k t) (site stream : Nat) (q : BitVec 32) (read : Bool) (l : List Nat) :
    s.SameRun k (t.admitCopy site stream q read l) := g.trans (.of_eq rfl rfl)

theorem SameRun.copyBegin (g : s.SameRun k t) (j ch : Nat) : s.SameRun k (t.copyBegin j ch) := by
  unfold State.copyBegin
  extract_lets +onlyGivenNames q c u own bad letIn
  have hu : s.SameRun k u := (g.takeSeq j).setCopy ..
  have ha : ∀ (v : State) (a : Word) (n : Nat) (b : Bool), s.SameRun k v → s.SameRun k (letIn v a n b) := by
    intro v a n b hv
    simp only [letIn]
    split
    · exact hv.admitCopy ..
    · exact hv
  cases bad with
  | some code => exact hu.copyEnd ..
  | none => exact SameRun.copySend (ha _ _ _ _ (ha _ _ _ _ hu)) ..

theorem SameRun.copyAbort (g : s.SameRun k t) (j ch : Nat) : s.SameRun k (t.copyAbort j ch) := by
  unfold State.copyAbort
  extract_lets +onlyGivenNames c
  split
  · exact g
  · extract_lets +onlyGivenNames u
    have hu : s.SameRun k u := g.setCopy ..
    split
    · exact hu.copyEnd ..
    · exact hu

theorem SameRun.reachAborts (g : s.SameRun k t) (j : Nat) : s.SameRun k (t.reachAborts j) :=
  SameRun.modCore (SameRun.foldl _ (fun s ch => (SameRun.refl s).copyAbort j ch) _ g) _ _ (fun c => by constructor <;> rfl)

theorem SameRun.releaseCopies (g : s.SameRun k t) (j : Nat) : s.SameRun k (t.releaseCopies j) := by
  unfold State.releaseCopies
  extract_lets +onlyGivenNames u
  have hu : s.SameRun k u := by
    refine SameRun.foldl _ (fun s ch => ?_) _ g
    extract_lets +onlyGivenNames c x
    split
    · exact (SameRun.refl s).copyBegin ..
    · exact SameRun.refl s
  exact hu.modCore _ _ (fun c => by constructor <;> rfl)

theorem SameRun.pump (g : s.SameRun k t) (j : Nat) : s.SameRun k (t.pump j) := by
  unfold State.pump
  extract_lets +onlyGivenNames u
  have hu : s.SameRun k u := g.releaseCopies j
  split
  · exact (hu.sendOp ..).modCore _ _ (fun c => by constructor <;> rfl)
  · exact hu

/-- What an X slot asks of its port changes neither the registers nor the pipelines of any core. -/
theorem SameRun.portIssue (g : s.SameRun k t) (j pc : Nat) (x : XAct) : s.SameRun k (t.portIssue j pc x).1 := by
  have hr : s.SameRun k (t.reachAborts j) := g.reachAborts j
  have hq : s.SameRun k ((t.reachAborts j).takeId j).2 := hr.takeId j
  unfold State.portIssue
  extract_lets +onlyGivenNames u q outing
  cases x with
  | none => exact hr
  | op o =>
    dsimp only
    split
    · dsimp only
      exact SameRun.pump (hq.modCore _ _ (fun c => by constructor <;> rfl)) j
    · exact hq
    · split
      · dsimp only
        exact (hq.takeSeq j).attnRecord ..
      · exact hq
  | fence kd =>
    dsimp only
    exact hq.modCore _ _ (fun c => by constructor <;> rfl)
  | copy c =>
    dsimp only
    split
    · dsimp only
      exact (hq.setCopy ..).copyEnd ..
    · dsimp only
      exact (hq.setCopy ..).releaseCopies j
  | abort ch =>
    dsimp only
    exact hr.modCore _ _ (fun c => by constructor <;> rfl)

end State
end Sys2Proof.Machine
end

