-- ==== Sys2Proof/Laws/Land.lean ====
section
/-! SUPPORT. What the end of a pipeline cycle does (R87, R88): operations that are due act in order, the others stay in flight, and
no landing moves the bundle address or the counters of issue. -/

namespace Sys2Proof.Machine

/-- The words of a core that no landing writes. -/
def flowWords : List RegName := [.CYCLE_ISSUE, .SR_SEED_V, .SR_SEED_M, .SR_STATE]

/-- From `s` to `t`, core `k` keeps its bundle address, its cycle, its engine and the words that no landing writes. -/
structure State.SameFlow (k : Nat) (s t : State) : Prop where
  pc : (t.core k).pc = (s.core k).pc
  cyc : (t.core k).cyc = (s.core k).cyc
  engine : (t.core k).engine = (s.core k).engine
  word : ∀ r ∈ flowWords, t.word r k = s.word r k

namespace State

variable {k : Nat} {s t : State}

theorem SameFlow.refl (s : State) : s.SameFlow k s := ⟨rfl, rfl, rfl, fun _ _ => rfl⟩

theorem SameFlow.trans {u : State} (h : s.SameFlow k t) (g : t.SameFlow k u) : s.SameFlow k u :=
  ⟨g.pc.trans h.pc, g.cyc.trans h.cyc, g.engine.trans h.engine, fun r hr => (g.word r hr).trans (h.word r hr)⟩

theorem SameRun.flow (h : s.SameRun k t) : s.SameFlow k t :=
  ⟨h.core.pc, h.core.cyc, h.core.engine, fun r hr => h.word r (by simp [flowWords, issueWords] at hr ⊢; tauto)⟩

theorem SameFlow.modCore (g : s.SameFlow k t) (f : Core → Core) (h1 : ∀ c, (f c).pc = c.pc) (h2 : ∀ c, (f c).cyc = c.cyc)
    (h3 : ∀ c, (f c).engine = c.engine) : s.SameFlow k (t.modCore k f) := by
  refine g.trans ⟨?_, ?_, ?_, fun r _ => rfl⟩ <;> rw [State.core_modCore_same]
  · exact h1 _
  · exact h2 _
  · exact h3 _

theorem SameFlow.setWord (g : s.SameFlow k t) (q : RegName) (i : Nat) (w : Word) (h : q ∉ flowWords) :
    s.SameFlow k (t.setWord q i w) := by
  refine g.trans ⟨rfl, rfl, rfl, fun r hr => State.word_setWord_ne t ?_ w⟩
  rintro ⟨rfl, -⟩
  exact h hr

theorem SameFlow.put (g : s.SameFlow k t) (f : Fld) (i v : Nat) (h : f.reg ∉ flowWords) : s.SameFlow k (t.put f i v) :=
  SameFlow.setWord g _ _ _ h

theorem SameFlow.bump (g : s.SameFlow k t) (f : Fld) (i n : Nat) (h : f.reg ∉ flowWords) : s.SameFlow k (t.bump f i n) :=
  SameFlow.setWord g _ _ _ h

theorem SameFlow.foldl {α : Type} (f : State → α → State) (h : ∀ (s : State) (a : α), s.SameFlow k (f s a)) (l : List α) :
    ∀ {t : State}, s.SameFlow k t → s.SameFlow k (l.foldl f t) := by
  induction l with
  | nil => intro t g; exact g
  | cons a _ ih => intro t g; exact ih (g.trans (h t a))

theorem SameFlow.noteFault (g : s.SameFlow k t) (f : FaultRec) : s.SameFlow k (t.noteFault k f) := by
  unfold State.noteFault
  split
  · exact SameFlow.setWord g _ _ _ (by decide)
  · exact SameFlow.bump g _ _ _ (by decide)

theorem SameFlow.endWait (g : s.SameFlow k t) : s.SameFlow k (t.endWait k) := by
  unfold State.endWait
  exact SameFlow.modCore (SameFlow.put (SameFlow.put (SameFlow.put (SameFlow.put g _ _ _ (by decide)) _ _ _ (by decide)) _ _ _
    (by decide)) _ _ _ (by decide)) _ (fun _ => rfl) (fun _ => rfl) (fun _ => rfl)

/-- Faults end issue; they move neither the bundle address nor the pipelines. -/
theorem SameFlow.takeFaults (g : s.SameFlow k t) (l : List FaultRec) : s.SameFlow k (t.takeFaults k l) := by
  unfold State.takeFaults
  split
  · exact g
  · extract_lets +onlyGivenNames u
    have hu : s.SameFlow k u := SameFlow.foldl _ (fun s f => (SameFlow.refl s).noteFault f) _ g
    split
    · exact hu
    · have hv : s.SameFlow k (if (u.core k).st = .frozenWait then u.endWait k else u) := by
        split
        · exact hu.endWait
        · exact hu
      generalize (if (u.core k).st = .frozenWait then u.endWait k else u) = v at hv
      dsimp only
      unfold State.coreFaultEvent
      refine SameFlow.trans (SameFlow.modCore hv _ (fun c => ?_) (fun c => ?_) (fun c => ?_)) (sameRun_raise ..).flow <;> rfl

/-- No landing moves the bundle address, the cycle, the engine or the counters of issue. -/
theorem SameFlow.land (g : s.SameFlow k t) (it : Item) : s.SameFlow k (t.land k it).1 := by
  unfold State.land
  split <;> dsimp only
  · refine SameFlow.modCore g _ (fun c => ?_) (fun c => ?_) (fun c => ?_) <;> (unfold Core.setS; split <;> rfl)
  · refine SameFlow.modCore g _ (fun c => ?_) (fun c => ?_) (fun c => ?_) <;> rfl
  · refine SameFlow.modCore g _ (fun c => ?_) (fun c => ?_) (fun c => ?_) <;> (unfold Core.setP; split <;> rfl)
  · refine SameFlow.modCore g _ (fun c => ?_) (fun c => ?_) (fun c => ?_) <;> rfl
  · unfold State.orFlags
    refine SameFlow.modCore (SameFlow.setWord g _ _ _ (by decide)) _ (fun c => ?_) (fun c => ?_) (fun c => ?_) <;> rfl
  · exact g.trans ((SameRun.refl _).addCairn ..).flow
  · unfold State.setCairnCount
    refine SameFlow.modCore g _ (fun c => ?_) (fun c => ?_) (fun c => ?_) <;> rfl
  · exact g.trans ((SameRun.refl _).writeStore ..).flow
  · split <;> exact g.trans ((SameRun.refl _).readStore ..).flow
  · split <;> exact g.trans ((SameRun.refl _).readStore ..).flow
  · split
    · exact g
    · split
      · exact g.trans ((SameRun.refl _).readStore ..).flow
      · split <;> exact g.trans ((SameRun.refl _).readStore ..).flow

theorem SameFlow.landAll (n : Nat) (l : List Item) : ∀ {t : State}, s.SameFlow k t → s.SameFlow k (landAll k n l t).1 := by
  induction l with
  | nil => intro t g; exact g
  | cons it l ih =>
    intro t g
    refine ih (t := _) ?_
    split
    · exact g.land it
    · exact g

/-! ### The list of landings -/

/-- Nothing due: nothing acts, and everything stays in flight. -/
theorem landAll_none (n : Nat) (l : List Item) (h : ∀ it ∈ l, it.due ≠ n) (s : State) : landAll k n l s = (s, l, []) := by
  induction l with
  | nil => rfl
  | cons it l ih =>
    unfold landAll
    rw [if_neg (h it (by simp))]
    dsimp only
    rw [ih (fun x hx => h x (by simp [hx]))]
    rfl

theorem landAll_append (n : Nat) (l m : List Item) : ∀ s : State, landAll k n (l ++ m) s =
    ((landAll k n m (landAll k n l s).1).1, (landAll k n l s).2.1 ++ (landAll k n m (landAll k n l s).1).2.1,
      (landAll k n l s).2.2 ++ (landAll k n m (landAll k n l s).1).2.2) := by
  induction l with
  | nil => intro s; rfl
  | cons it l ih =>
    intro s
    simp only [List.cons_append, landAll, ih, List.append_assoc]

/-- An operation that is not due stays in flight. -/
theorem mem_landAll (n : Nat) (l : List Item) {it : Item} (hm : it ∈ l) (hd : it.due ≠ n) : ∀ s : State,
    it ∈ (landAll k n l s).2.1 := by
  induction l with
  | nil => cases hm
  | cons x l ih =>
    intro s
    unfold landAll
    rcases List.mem_cons.mp hm with rfl | h
    · rw [if_neg hd]; simp
    · exact List.mem_append_right _ (ih h _)

/-! ### The end of a cycle -/

/-- The end of a cycle keeps everything that no landing writes, but for the cycle itself. -/
theorem endCycle_flow (s : State) (k : Nat) : ((s.endCycle k).1.core k).pc = (s.core k).pc
    ∧ ((s.endCycle k).1.core k).cyc = (s.core k).cyc + 1 ∧ ((s.endCycle k).1.core k).engine = (s.core k).engine
    ∧ ∀ r ∈ flowWords, (s.endCycle k).1.word r k = s.word r k := by
  unfold State.endCycle
  extract_lets +onlyGivenNames c u r
  have hu : s.SameFlow k u := SameFlow.modCore (SameFlow.refl s) _ (fun _ => rfl) (fun _ => rfl) (fun _ => rfl)
  have hr : s.SameFlow k r.1 := SameFlow.landAll _ _ hu
  refine ⟨?_, ?_, ?_, fun q hq => hr.word q hq⟩ <;> rw [State.core_modCore_same]
  · exact hr.pc
  · exact hr.engine

/-- An operation that is not due this cycle is still in flight at its end. -/
theorem mem_endCycle (s : State) (k : Nat) {it : Item} (hm : it ∈ (s.core k).pipe) (hd : it.due ≠ (s.core k).cyc) :
    it ∈ ((s.endCycle k).1.core k).pipe := by
  unfold State.endCycle
  dsimp only
  rw [State.core_modCore_same]
  exact mem_landAll _ _ hm hd _

end State
end Sys2Proof.Machine
end

