-- ==== Sys2Proof/Laws/Slot.lean ====
section
/-! SUPPORT. What an issue cycle does (R86-R91, R115): the items a bundle puts in flight, where the bundle address goes, what lands in
the cycle itself. -/

namespace Sys2Proof.Machine

/-! ### A slot enters its pipelines -/

/-- The items a slot effect puts in flight from a core. -/
def Core.newItems (c : Core) (i : Nat) (e : SlotEff) : List Item := e.items.map (fun x => Item.mk (c.cyc + x.1) c.cyc c.pc i x.2)

/-- A core after the effect of slot `i` entered its pipelines. -/
def Core.start (c : Core) (n i : Nat) (e : SlotEff) : Core :=
  { c with
    pipe := c.pipe ++ c.newItems i e
    claims := c.claims ++ e.banks.map (fun x => Claim.mk (c.cyc + x.1) (c.cyc + x.2.1) x.2.2 n)
    engine := match e.engine with
      | some (busy, t) => ⟨c.cyc + busy, if t < 32 then some (t, c.cyc, busy) else none⟩
      | none => c.engine
    redirect := match e.target with | some t => some (c.cyc + 3, t) | none => c.redirect }

/-- The words of a core that a start does not write. -/
def startWords : List RegName := [.CYCLE_ISSUE, .FP_FLAGS, .SR_SEED_V, .SR_SEED_M]

theorem startSlot_spec (s : State) (k : Nat) (b : Bundle) (i : Nat) :
    (s.startSlot k b i).core k = (s.core k).start (s.word .CYCLE_ISSUE k).toNat i (b.eff i)
    ∧ ∀ r, r ≠ .SR_STATE → ∀ j, (s.startSlot k b i).word r j = s.word r j := by
  unfold State.startSlot
  extract_lets +onlyGivenNames e n u v
  have hu : u.core k = (s.core k).start n i e := by
    simp only [u]; rw [State.core_modCore_same]; rfl
  have hv : v.core k = u.core k ∧ ∀ r, r ≠ .SR_STATE → ∀ j, v.word r j = s.word r j := by
    simp only [v]
    split
    · exact ⟨State.core_put .., fun r hr j => (State.word_put_ne _ (fun h => hr h.1) _).trans (State.word_modCore ..)⟩
    · exact ⟨rfl, fun r hr j => State.word_modCore ..⟩
  split
  · exact ⟨(State.core_put ..).trans (hv.1.trans hu), fun r hr j => (State.word_put_ne _ (fun h => hr h.1) _).trans (hv.2 r hr j)⟩
  · exact ⟨hv.1.trans hu, hv.2⟩

/-- The core after all four slots entered. -/
def Core.start4 (c : Core) (n : Nat) (b : Bundle) : Core :=
  (((c.start n 0 (b.eff 0)).start n 1 (b.eff 1)).start n 2 (b.eff 2)).start n 3 (b.eff 3)

theorem startAll_spec (s : State) (k : Nat) (b : Bundle) :
    let u := (List.range 4).foldl (fun s i => s.startSlot k b i) s
    u.core k = (s.core k).start4 (s.word .CYCLE_ISSUE k).toNat b ∧ ∀ r, r ≠ .SR_STATE → ∀ j, u.word r j = s.word r j := by
  have e : List.range 4 = [0, 1, 2, 3] := by decide
  rw [e]
  simp only [List.foldl]
  obtain ⟨c0, w0⟩ := startSlot_spec s k b 0
  obtain ⟨c1, w1⟩ := startSlot_spec (s.startSlot k b 0) k b 1
  obtain ⟨c2, w2⟩ := startSlot_spec ((s.startSlot k b 0).startSlot k b 1) k b 2
  obtain ⟨c3, w3⟩ := startSlot_spec (((s.startSlot k b 0).startSlot k b 1).startSlot k b 2) k b 3
  refine ⟨?_, fun r hr j => (w3 r hr j).trans ((w2 r hr j).trans ((w1 r hr j).trans (w0 r hr j)))⟩
  rw [c3, c2, c1, c0, w2 _ (by decide), w1 _ (by decide), w0 _ (by decide)]
  rfl

theorem Core.start4_pipe (c : Core) (n : Nat) (b : Bundle) : (c.start4 n b).pipe =
    c.pipe ++ c.newItems 0 (b.eff 0) ++ c.newItems 1 (b.eff 1) ++ c.newItems 2 (b.eff 2) ++ c.newItems 3 (b.eff 3) := rfl

theorem Core.start_pc (c : Core) (n i : Nat) (e : SlotEff) : (c.start n i e).pc = c.pc := rfl
theorem Core.start_cyc (c : Core) (n i : Nat) (e : SlotEff) : (c.start n i e).cyc = c.cyc := rfl
theorem Core.start_drain (c : Core) (n i : Nat) (e : SlotEff) : (c.start n i e).drain = c.drain := rfl

theorem Core.start4_pc (c : Core) (n : Nat) (b : Bundle) : (c.start4 n b).pc = c.pc := by
  simp only [Core.start4, Core.start_pc]

theorem Core.start4_cyc (c : Core) (n : Nat) (b : Bundle) : (c.start4 n b).cyc = c.cyc := by
  simp only [Core.start4, Core.start_cyc]

theorem Core.start4_drain (c : Core) (n : Nat) (b : Bundle) : (c.start4 n b).drain = c.drain := by
  simp only [Core.start4, Core.start_drain]

/-- The redirect of a bundle: only its S slot can redirect. -/
theorem Core.start4_redirect (c : Core) (n : Nat) (b : Bundle) (h : ∀ i, i = 1 ∨ i = 2 ∨ i = 3 → (b.eff i).target = none) :
    (c.start4 n b).redirect = match (b.eff 0).target with | some t => some (c.cyc + 3, t) | none => c.redirect := by
  simp only [Core.start4, Core.start, h 1 (by simp), h 2 (by simp), h 3 (by simp)]

/-- A core with STATE RUNNING. -/
def Core.asRunning (c : Core) : Core := { c with st := .running }

theorem Core.asRunning_pc (c : Core) : c.asRunning.pc = c.pc := rfl
theorem Core.asRunning_cyc (c : Core) : c.asRunning.cyc = c.cyc := rfl
theorem Core.asRunning_redirect (c : Core) : c.asRunning.redirect = c.redirect := rfl
theorem Core.asRunning_drain (c : Core) : c.asRunning.drain = c.drain := rfl
theorem Core.asRunning_pipe (c : Core) : c.asRunning.pipe = c.pipe := rfl

/-! ### Running or faulted -/

namespace State

variable {k : Nat} {s t : State}

/-- If core `k` runs in `t`, it ran in `s`, and neither its redirect nor its drain has changed. -/
def OnlyFaults (k : Nat) (s t : State) : Prop :=
  (t.core k).st = .running → (s.core k).st = .running ∧ (t.core k).redirect = (s.core k).redirect
    ∧ (t.core k).drain = (s.core k).drain

theorem OnlyFaults.refl (s : State) : s.OnlyFaults k s := fun h => ⟨h, rfl, rfl⟩

theorem OnlyFaults.trans {u : State} (h : s.OnlyFaults k t) (g : t.OnlyFaults k u) : s.OnlyFaults k u := fun hu =>
  let ⟨a, b, c⟩ := g hu
  let ⟨d, e, f⟩ := h a
  ⟨d, b.trans e, c.trans f⟩

theorem SameRun.onlyFaults (h : s.SameRun k t) : s.OnlyFaults k t := fun ht =>
  ⟨h.core.st ▸ ht, h.core.redirect, h.core.drain⟩

theorem OnlyFaults.modCore (g : s.OnlyFaults k t) (f : Core → Core) (h1 : ∀ c, (f c).st = c.st)
    (h2 : ∀ c, (f c).redirect = c.redirect) (h3 : ∀ c, (f c).drain = c.drain) : s.OnlyFaults k (t.modCore k f) := by
  refine g.trans fun h => ?_
  rw [State.core_modCore_same] at h ⊢
  exact ⟨h1 _ ▸ h, h2 _, h3 _⟩

theorem OnlyFaults.cores_eq (g : s.OnlyFaults k t) {u : State} (h : u.cores = t.cores) : s.OnlyFaults k u := by
  unfold OnlyFaults State.core at *; rw [h]; exact g

theorem noteFault_cores (s : State) (k : Nat) (f : FaultRec) : (s.noteFault k f).cores = s.cores := by
  unfold State.noteFault
  split
  · exact State.setWord_cores ..
  · exact State.bump_cores ..

theorem noteFaults_cores (k : Nat) (l : List FaultRec) : ∀ s : State, (l.foldl (fun s f => s.noteFault k f) s).cores = s.cores := by
  induction l with
  | nil => intro s; rfl
  | cons f l ih => intro s; exact (ih _).trans (noteFault_cores s k f)

theorem OnlyFaults.takeFaults (g : s.OnlyFaults k t) (l : List FaultRec) : s.OnlyFaults k (t.takeFaults k l) := by
  unfold State.takeFaults
  split
  · exact g
  · extract_lets +onlyGivenNames u
    have hc : u.cores = t.cores := noteFaults_cores k (rankFaults l) t
    split
    · exact g.cores_eq hc
    · intro h
      unfold State.coreFaultEvent at h
      dsimp only at h
      rw [State.core_raise, State.core_modCore_same] at h
      cases h

theorem OnlyFaults.land (g : s.OnlyFaults k t) (it : Item) : s.OnlyFaults k (t.land k it).1 := by
  unfold State.land
  split <;> dsimp only
  · refine OnlyFaults.modCore g _ (fun c => ?_) (fun c => ?_) (fun c => ?_) <;> (unfold Core.setS; split <;> rfl)
  · refine OnlyFaults.modCore g _ (fun c => ?_) (fun c => ?_) (fun c => ?_) <;> rfl
  · refine OnlyFaults.modCore g _ (fun c => ?_) (fun c => ?_) (fun c => ?_) <;> (unfold Core.setP; split <;> rfl)
  · refine OnlyFaults.modCore g _ (fun c => ?_) (fun c => ?_) (fun c => ?_) <;> rfl
  · unfold State.orFlags
    refine OnlyFaults.modCore (g.cores_eq (u := t.setWord _ _ _) rfl) _ (fun c => ?_) (fun c => ?_) (fun c => ?_) <;> rfl
  · exact g.trans ((SameRun.refl _).addCairn ..).onlyFaults
  · unfold State.setCairnCount
    refine OnlyFaults.modCore g _ (fun c => ?_) (fun c => ?_) (fun c => ?_) <;> rfl
  · exact g.trans ((SameRun.refl _).writeStore ..).onlyFaults
  · split <;> exact g.trans ((SameRun.refl _).readStore ..).onlyFaults
  · split <;> exact g.trans ((SameRun.refl _).readStore ..).onlyFaults
  · split
    · exact g
    · split
      · exact g.trans ((SameRun.refl _).readStore ..).onlyFaults
      · split <;> exact g.trans ((SameRun.refl _).readStore ..).onlyFaults

theorem OnlyFaults.landAll (n : Nat) (l : List Item) : ∀ {t : State}, s.OnlyFaults k t →
    s.OnlyFaults k (State.landAll k n l t).1 := by
  induction l with
  | nil => intro t g; exact g
  | cons it l ih =>
    intro t g
    refine ih (t := _) ?_
    split
    · exact g.land it
    · exact g

theorem OnlyFaults.endCycle (g : s.OnlyFaults k t) : s.OnlyFaults k (t.endCycle k).1 := by
  unfold State.endCycle
  extract_lets +onlyGivenNames c u r
  have hu : s.OnlyFaults k u := OnlyFaults.modCore g _ (fun _ => rfl) (fun _ => rfl) (fun _ => rfl)
  have hr : s.OnlyFaults k r.1 := OnlyFaults.landAll _ _ hu
  exact OnlyFaults.modCore hr _ (fun _ => rfl) (fun _ => rfl) (fun _ => rfl)

/-! ### Before the cycle ends -/

theorem SameRun.consume (g : s.SameRun k t) (b : Bundle) : s.SameRun k (t.consume k b) := by
  unfold State.consume
  split
  · split
    · exact g
    · exact SameRun.modCore g _ _ (fun c => by constructor <;> rfl)
  · exact g

theorem SameRun.setWord (g : s.SameRun k t) (q : RegName) (i : Nat) (w : Word) (h : q ∉ issueWords) :
    s.SameRun k (t.setWord q i w) := g.trans (sameRun_setWord t q i w h)

theorem SameRun.batchMark (g : s.SameRun k t) (b : Bundle) : s.SameRun k (t.batchMark k b) := by
  unfold State.batchMark
  split
  · split
    · dsimp only
      refine SameRun.modCore (SameRun.setWord (SameRun.put (SameRun.put (SameRun.put (SameRun.put (SameRun.put g _ _ _ (by decide))
        _ _ _ (by decide)) _ _ _ (by decide)) _ _ _ (by decide)) _ _ _ (by decide)) _ _ _ (by decide)) _ _ (fun c => ?_)
      constructor <;> rfl
    · exact g
  · exact g

/-- A bundle without a wait. -/
theorem consume_none (s : State) (k : Nat) (b : Bundle) (h : (b.eff 3).wait = none) : s.consume k b = s := by
  unfold State.consume; rw [h]

theorem batchMark_none (s : State) (k : Nat) (b : Bundle) (h : (b.eff 3).wait = none) : s.batchMark k b = s := by
  unfold State.batchMark; rw [h]

theorem landCrw_core (s : State) (k : Nat) (x : Option (Nat × Word)) (j : Nat) : (s.landCrw k x).core j = s.core j := by
  unfold State.landCrw
  split
  · exact State.core_setWord ..
  · exact (State.core_put ..).trans (State.core_put ..)
  · exact (State.core_put ..).trans (State.core_put ..)
  · rfl

theorem landCrw_word (s : State) (k : Nat) (x : Option (Nat × Word)) {r : RegName}
    (h : r ∉ [RegName.FP_FLAGS, .SR_SEED_V, .SR_SEED_M, .SR_STATE]) (j : Nat) : (s.landCrw k x).word r j = s.word r j := by
  simp only [List.mem_cons, List.not_mem_nil, or_false, not_or] at h
  unfold State.landCrw
  split
  · exact State.word_setWord_ne _ (fun e => h.1 e.1) _
  · unfold State.seed
    rw [State.word_put_ne _ (fun e => h.2.2.2 e.1), State.word_put_ne _ (fun e => h.2.1 e.1)]
  · unfold State.seed
    rw [State.word_put_ne _ (fun e => h.2.2.2 e.1), State.word_put_ne _ (fun e => h.2.2.1 e.1)]
  · rfl

/-- The state of an issue after its slots have entered their pipelines. -/
def started (s : State) (k : Nat) (b : Bundle) : State :=
  (List.range 4).foldl (fun s i => s.startSlot k b i) ((s.modCore k (fun c => { c with st := .running })).batchMark k b)

/-- The state of an issue just before its cycle ends, and the faults of its port. -/
def launched (s : State) (k : Nat) (b : Bundle) : State × List FaultRec :=
  let p := (s.started k b).portIssue k (s.core k).pc (b.eff 3).x
  (p.1.landCrw k (b.eff 0).crw, p.2)

theorem keep_effs (b : Bundle) (hb : b.effs.length = 4) :
    (List.range 4).map (fun i => if ([] : List Nat).contains i then (b.eff i).dropped else b.eff i) = b.effs := by
  refine List.ext_getElem (by simp [hb]) fun i h1 h2 => ?_
  rw [List.getElem_map, List.getElem_range]
  simp only [List.contains_nil, Bool.false_eq_true, if_false]
  unfold Bundle.eff
  rw [List.getD_eq_getElem?_getD, List.getElem?_eq_getElem h2]
  rfl

/-- Without an accumulator parity error, an issue is the launch, the advance, and the port's faults. -/
theorem issueNow_eq (s : State) (k : Nat) (b : Bundle) (h : (s.core k).badTiles b = []) (hb : b.effs.length = 4) :
    s.issueNow k b = let r := (s.launched k b).1.advance k ((b.eff 0).halt && (s.launched k b).2.isEmpty)
      r.1.takeFaults k ((s.launched k b).2 ++ r.2) := by
  unfold State.issueNow launched started
  extract_lets +onlyGivenNames pc bad faults b' u v x p y
  have hbad : bad = [] := h
  have hf : faults = [] := by simp only [faults, hbad, List.map_nil]
  have hb' : b' = b := by
    simp only [b', hbad]
    rw [keep_effs b hb]
  simp only [y, p, x, v, u, hf, hb', List.nil_append]
  rfl

theorem core_running (c : Core) (h : c.st = .running) : { c with st := .running } = c := by cases c; simp_all

theorem started_spec (s : State) (k : Nat) (b : Bundle) (hs : (s.core k).st = .running) :
    ((s.core k).start4 (s.word .CYCLE_ISSUE k).toNat b).SameRun ((s.started k b).core k)
      ∧ ∀ r ∈ startWords, (s.started k b).word r k = s.word r k := by
  unfold started
  generalize hw : (s.modCore k (fun c => { c with st := .running })).batchMark k b = w
  have h0 : s.SameRun k w := by
    rw [← hw]
    refine SameRun.batchMark ⟨?_, fun r _ => State.word_modCore ..⟩ b
    rw [State.core_modCore_same, core_running _ hs]
    exact Core.SameRun.refl _
  obtain ⟨hc, hr⟩ := startAll_spec w k b
  refine ⟨?_, fun r h => (hr r (by rintro rfl; simp [startWords] at h) k).trans (h0.word r ?_)⟩
  · rw [hc, h0.word .CYCLE_ISSUE (by decide)]
    generalize (s.word .CYCLE_ISSUE k).toNat = n
    have hk := h0.core
    constructor <;> simp only [Core.start4, Core.start, Core.newItems, hk.pc, hk.st, hk.drain, hk.landed, hk.cyc, hk.s, hk.v, hk.p,
      hk.t, hk.parity, hk.pipe, hk.claims, hk.engine, hk.redirect, hk.force]
  · simp only [startWords, issueWords, List.mem_cons, List.not_mem_nil, or_false] at h ⊢
    tauto

theorem launched_spec (s : State) (k : Nat) (b : Bundle) (hs : (s.core k).st = .running) :
    ((s.core k).start4 (s.word .CYCLE_ISSUE k).toNat b).SameRun ((s.launched k b).1.core k)
      ∧ (s.launched k b).1.word .CYCLE_ISSUE k = s.word .CYCLE_ISSUE k := by
  obtain ⟨hc, hw⟩ := started_spec s k b hs
  have h1 : (s.started k b).SameRun k ((s.started k b).portIssue k (s.core k).pc (b.eff 3).x).1 :=
    (SameRun.refl _).portIssue k _ _
  unfold launched
  dsimp only
  rw [landCrw_core, landCrw_word _ _ _ (by decide)]
  exact ⟨hc.trans h1.core, (h1.word _ (by decide)).trans (hw _ (by decide))⟩

/-! ### The cycle ends -/

theorem countRefusals_run (s : State) (k : Nat) : ((s.countRefusals k).core k).pc = (s.core k).pc
    ∧ ((s.countRefusals k).core k).cyc = (s.core k).cyc ∧ ((s.countRefusals k).core k).pipe = (s.core k).pipe
    ∧ ((s.countRefusals k).core k).st = (s.core k).st ∧ ((s.countRefusals k).core k).redirect = (s.core k).redirect
    ∧ ((s.countRefusals k).core k).drain = (s.core k).drain ∧ ((s.countRefusals k).core k).s = (s.core k).s
    ∧ ∀ r j, (s.countRefusals k).word r j = s.word r j := by
  unfold State.countRefusals
  rw [State.core_modCore_same]
  exact ⟨rfl, rfl, rfl, rfl, rfl, rfl, rfl, fun r j => State.word_modCore ..⟩


/-- The state of an advance just before its pipelines move. -/
def counted (s : State) (k : Nat) : State := (s.setWord .CYCLE_ISSUE k (s.word .CYCLE_ISSUE k + 1)).countRefusals k

theorem advance_eq (s : State) (k : Nat) (halt : Bool) : (s.advance k halt).1 =
    ((s.counted k).endCycle k).1.modCore k (fun c =>
      if halt then { c with drain := .halt, redirect := none }
      else match (s.core k).redirect with
        | some (due, t) => if due = c.cyc then { c with pc := t, redirect := none } else { c with pc := (c.pc + 1) % 32768 }
        | none => { c with pc := (c.pc + 1) % 32768 }) := rfl

/-- What an advance leaves of the bundle address, the cycle, the counter, the pipelines and the drain. -/
theorem advance_spec (s : State) (k : Nat) (halt : Bool) :
    let t := (s.advance k halt).1
    (t.core k).pc = (if halt then (s.core k).pc else (s.core k).nextPc) ∧ (t.core k).cyc = (s.core k).cyc + 1
      ∧ t.word .CYCLE_ISSUE k = s.word .CYCLE_ISSUE k + 1 ∧ (t.core k).pipe = (((s.counted k).endCycle k).1.core k).pipe
      ∧ (t.core k).s = (((s.counted k).endCycle k).1.core k).s
      ∧ ((t.core k).st = .running → (s.core k).st = .running
        ∧ (t.core k).drain = (if halt then .halt else (s.core k).drain)
        ∧ (t.core k).redirect = (if halt then none else match (s.core k).redirect with
            | some (due, _) => if due = (s.core k).cyc + 1 then none else (s.core k).redirect
            | none => none)) := by
  have hc := countRefusals_run (s.setWord .CYCLE_ISSUE k (s.word .CYCLE_ISSUE k + 1)) k
  have he := endCycle_flow (s.counted k) k
  have ho : (s.counted k).OnlyFaults k ((s.counted k).endCycle k).1 := (OnlyFaults.refl _).endCycle
  change ((s.counted k).core k).pc = (s.core k).pc ∧ ((s.counted k).core k).cyc = (s.core k).cyc
    ∧ ((s.counted k).core k).pipe = (s.core k).pipe ∧ ((s.counted k).core k).st = (s.core k).st
    ∧ ((s.counted k).core k).redirect = (s.core k).redirect ∧ ((s.counted k).core k).drain = (s.core k).drain
    ∧ ((s.counted k).core k).s = (s.core k).s ∧ ∀ r j, (s.counted k).word r j = _ at hc
  have hw : ((s.counted k).endCycle k).1.word .CYCLE_ISSUE k = s.word .CYCLE_ISSUE k + 1 := by
    rw [he.2.2.2 _ (by decide), hc.2.2.2.2.2.2.2, State.word_setWord_same]
  rw [advance_eq]
  generalize hu : ((s.counted k).endCycle k).1 = u at *
  generalize hv : s.counted k = v at *
  intro t
  have ht : t.core k = _ := State.core_modCore_same ..
  have htw : t.word .CYCLE_ISSUE k = u.word .CYCLE_ISSUE k := State.word_modCore ..
  rw [htw, hw, ht]
  have h1 : (u.core k).pc = (s.core k).pc := he.1.trans hc.1
  have h2 : (u.core k).cyc = (s.core k).cyc + 1 := by rw [he.2.1, hc.2.1]
  unfold Core.nextPc
  unfold OnlyFaults at ho
  rw [hc.2.2.2.1, hc.2.2.2.2.1, hc.2.2.2.2.2.1] at ho
  cases halt with
  | true => exact ⟨h1, h2, rfl, rfl, rfl, fun hr => ⟨(ho hr).1, rfl, rfl⟩⟩
  | false =>
    cases hred : (s.core k).redirect with
    | none =>
      simp only [Bool.false_eq_true, if_false, h1, h2]
      exact ⟨trivial, trivial, trivial, trivial, trivial, fun hr => ⟨(ho hr).1, (ho hr).2.2, (ho hr).2.1.trans hred⟩⟩
    | some x =>
      obtain ⟨due, tg⟩ := x
      simp only [Bool.false_eq_true, if_false, h2]
      by_cases hd : due = (s.core k).cyc + 1
      · simp only [hd, if_true]
        exact ⟨trivial, trivial, trivial, trivial, trivial, fun hr => ⟨(ho hr).1, (ho hr).2.2, trivial⟩⟩
      · simp only [hd, if_false, h1]
        exact ⟨trivial, trivial, trivial, trivial, trivial, fun hr => ⟨(ho hr).1, (ho hr).2.2, (ho hr).2.1.trans hred⟩⟩

theorem endWait_core (s : State) (k : Nat) :
    (s.endWait k).core k = { s.core k with held := none, waitCount := 0, l1 := false, wakeAsked := false } := by
  unfold State.endWait
  extract_lets +onlyGivenNames u v
  have hu : u.core k = s.core k := State.core_put ..
  have hv : v.core k = u.core k := ((State.core_put ..).trans (State.core_put ..)).trans (State.core_put ..)
  rw [State.core_modCore_same, hv, hu]

/-- Taking faults changes only the run state of a core. -/
theorem takeFaults_core (s : State) (k : Nat) (l : List FaultRec) : ∃ st dr rd hd wc l1 wa,
    (s.takeFaults k l).core k =
      { s.core k with st := st, drain := dr, redirect := rd, held := hd, waitCount := wc, l1 := l1, wakeAsked := wa } := by
  unfold State.takeFaults
  split
  · exact ⟨_, _, _, _, _, _, _, rfl⟩
  · extract_lets +onlyGivenNames u
    have hc : u.core k = s.core k := by unfold State.core; rw [noteFaults_cores k (rankFaults l) s]
    generalize u = v at hc
    split
    · rw [hc]; exact ⟨_, _, _, _, _, _, _, rfl⟩
    · dsimp only
      unfold State.coreFaultEvent
      rw [State.core_raise, State.core_modCore_same]
      split
      · rw [endWait_core, hc]; exact ⟨_, _, _, _, _, _, _, rfl⟩
      · rw [hc]; exact ⟨_, _, _, _, _, _, _, rfl⟩

theorem takeFaults_pipe (s : State) (k : Nat) (l : List FaultRec) :
    ((s.takeFaults k l).core k).pipe = (s.core k).pipe ∧ ((s.takeFaults k l).core k).s = (s.core k).s := by
  obtain ⟨_, _, _, _, _, _, _, h⟩ := takeFaults_core s k l
  rw [h]
  exact ⟨rfl, rfl⟩

/-! ### A bundle that issues -/

/-- A bundle that can issue issues. -/
theorem runBundle_issue {ws : List Word} (h : s.canIssueWords k ws = true) :
    s.runBundle k (fun t => t.decodeBundle k ws) = ((s.cycleStart k).consume k (s.bundleAt k ws)).issueNow k (s.bundleAt k ws) := by
  simp only [State.canIssueWords, Bool.and_eq_true, Bool.not_eq_true', List.isEmpty_iff] at h
  obtain ⟨⟨⟨⟨⟨h1, h2⟩, h3⟩, h4⟩, h5⟩, -⟩ := h
  unfold State.runBundle
  rw [if_pos (by rw [h1, h2]; rfl)]
  rw [h3]
  simp only [Bool.false_eq_true, if_false]
  change (s.cycleStart k).issueBundle k (s.bundleAt k ws) = _
  unfold State.issueBundle
  rw [if_pos h4, h5]
  dsimp only
  have hst : (((s.cycleStart k).consume k (s.bundleAt k ws)).core k).st = .running := by
    rw [((SameRun.refl (s.cycleStart k)).consume (k := k) (s.bundleAt k ws)).core.st]
    unfold State.cycleStart
    rw [State.core_modCore_same]
  rw [if_neg (by rw [hst]; decide)]

/-- The core of a cycle's start. -/
theorem core_cycleStart (s : State) (k : Nat) : (s.cycleStart k).core k = { s.core k with st := .running } :=
  State.core_modCore_same ..

theorem badTiles_congr {c d : Core} (h : c.SameRun d) (b : Bundle) : d.badTiles b = c.badTiles b := by
  unfold Core.badTiles Core.parityIn
  rw [h.parity]

/-- A bundle that can issue, cut at the end of its cycle: `u` is the state just before the pipelines move, `fs` the faults of the
port. -/
theorem issue_cut {ws : List Word} (h : s.canIssueWords k ws = true) :
    ∃ (u : State) (fs : List FaultRec), let b := s.bundleAt k ws
      let r := u.advance k ((b.eff 0).halt && fs.isEmpty)
      s.runBundle k (fun t => t.decodeBundle k ws) = r.1.takeFaults k (fs ++ r.2)
      ∧ ((s.core k).start4 (s.word .CYCLE_ISSUE k).toNat b).asRunning.SameRun (u.core k)
      ∧ u.word .CYCLE_ISSUE k = s.word .CYCLE_ISSUE k := by
  have hrun := runBundle_issue h
  simp only [State.canIssueWords, Bool.and_eq_true, List.isEmpty_iff] at h
  obtain ⟨-, h6⟩ := h
  rw [core_cycleStart] at h6
  dsimp only
  rw [hrun]
  generalize hb : s.bundleAt k ws = b at *
  have hlen : b.effs.length = 4 := by rw [← hb]; rfl
  generalize ha : (s.cycleStart k).consume k b = a
  have h0 : (s.cycleStart k).SameRun k a := by rw [← ha]; exact (SameRun.refl _).consume b
  have hc0 : ({ s.core k with st := .running } : Core).SameRun (a.core k) := core_cycleStart s k ▸ h0.core
  have hw0 : a.word .CYCLE_ISSUE k = s.word .CYCLE_ISSUE k := (h0.word _ (by decide)).trans (State.word_modCore ..)
  have hbad : (a.core k).badTiles b = [] := by rw [badTiles_congr hc0]; exact h6
  obtain ⟨hl, hlw⟩ := launched_spec a k b hc0.st
  rw [hw0] at hl hlw
  refine ⟨(a.launched k b).1, (a.launched k b).2, issueNow_eq a k b hbad hlen, Core.SameRun.trans ?_ hl, hlw⟩
  generalize (s.word .CYCLE_ISSUE k).toNat = n
  constructor <;> simp only [Core.asRunning, Core.start4, Core.start, Core.newItems, hc0.pipe, hc0.pc, hc0.cyc, hc0.redirect, hc0.drain, hc0.st,
    hc0.landed, hc0.s, hc0.v, hc0.p, hc0.t, hc0.parity, hc0.claims, hc0.engine, hc0.force]

/-- Faults of one cycle leave no core running. -/
theorem takeFaults_nil (s : State) (k : Nat) (l : List FaultRec) (h : ((s.takeFaults k l).core k).st = .running) : l = [] := by
  by_contra hne
  unfold State.takeFaults at h
  rw [if_neg (by simpa using hne)] at h
  dsimp only at h
  split at h
  · next hf =>
    unfold State.isFenced at hf
    rw [h] at hf
    simp at hf
  · unfold State.coreFaultEvent at h
    rw [State.core_raise, State.core_modCore_same] at h
    cases h

/-- What a bundle that can issue does: its items are in flight, the bundle address moves, and CYCLE_ISSUE counts. -/
theorem issue_spec {ws : List Word} (h : s.canIssueWords k ws = true) :
    let c := s.core k
    let b := s.bundleAt k ws
    let t := s.runBundle k (fun t => t.decodeBundle k ws)
    let d := c.start4 (s.word .CYCLE_ISSUE k).toNat b
    (∀ it ∈ d.pipe, it.due ≠ c.cyc → it ∈ (t.core k).pipe)
    ∧ ((b.eff 0).halt = false → (t.core k).pc = d.nextPc)
    ∧ (t.core k).cyc = c.cyc + 1
    ∧ t.word .CYCLE_ISSUE k = s.word .CYCLE_ISSUE k + 1
    ∧ ((t.core k).st = .running →
        (t.core k).drain = (if (b.eff 0).halt then .halt else c.drain)
        ∧ ((b.eff 0).halt = true → (t.core k).pc = c.pc)
        ∧ (t.core k).redirect = (if (b.eff 0).halt then none else match d.redirect with
            | some (due, _) => if due = c.cyc + 1 then none else d.redirect
            | none => none)) := by
  obtain ⟨u, fs, hrun, hl, hlw⟩ := issue_cut h
  dsimp only
  rw [hrun]
  generalize s.bundleAt k ws = b at *
  have e2 : ((s.core k).start4 (s.word .CYCLE_ISSUE k).toNat b).pc = (s.core k).pc := Core.start4_pc ..
  have e3 : ((s.core k).start4 (s.word .CYCLE_ISSUE k).toNat b).cyc = (s.core k).cyc := Core.start4_cyc ..
  have e5 : ((s.core k).start4 (s.word .CYCLE_ISSUE k).toNat b).drain = (s.core k).drain := Core.start4_drain ..
  generalize (s.core k).start4 (s.word .CYCLE_ISSUE k).toNat b = d at *
  generalize hhalt : ((b.eff 0).halt && fs.isEmpty) = halt
  obtain ⟨a1, a2, a3, a4, -, a6⟩ := advance_spec u k halt
  generalize hall : fs ++ (u.advance k halt).2 = all
  obtain ⟨t1, -⟩ := takeFaults_pipe (u.advance k halt).1 k all
  have tf : (u.advance k halt).1.SameFlow k ((u.advance k halt).1.takeFaults k all) := (SameFlow.refl _).takeFaults all
  have tr : (u.advance k halt).1.OnlyFaults k ((u.advance k halt).1.takeFaults k all) := (OnlyFaults.refl _).takeFaults all
  have hup : (u.core k).pc = (s.core k).pc := by rw [hl.pc, Core.asRunning_pc, e2]
  have huc : (u.core k).cyc = (s.core k).cyc := by rw [hl.cyc, Core.asRunning_cyc, e3]
  have hur : (u.core k).redirect = d.redirect := by rw [hl.redirect, Core.asRunning_redirect]
  have hui : (u.core k).pipe = d.pipe := by rw [hl.pipe, Core.asRunning_pipe]
  have hud : (u.core k).drain = (s.core k).drain := by rw [hl.drain, Core.asRunning_drain, e5]
  have hnext : (u.core k).nextPc = d.nextPc := by
    unfold Core.nextPc; rw [hur, huc, hup, e2, e3]
  clear hl
  refine ⟨fun it hit hdue => ?_, fun hh => ?_, ?_, ?_, fun hr => ?_⟩
  · rw [t1, a4]
    have hcr := countRefusals_run (u.setWord .CYCLE_ISSUE k (u.word .CYCLE_ISSUE k + 1)) k
    refine mem_endCycle _ _ ?_ ?_
    · unfold counted
      rw [hcr.2.2.1, State.core_setWord, hui]; exact hit
    · unfold counted
      rw [hcr.2.1, State.core_setWord, huc]; exact hdue
  · rw [hh, Bool.false_and] at hhalt
    rw [tf.pc, a1, ← hhalt, hnext]; rfl
  · rw [tf.cyc, a2, huc]
  · rw [tf.word _ (by decide), a3, hlw]
  · obtain ⟨r1, r2, r3⟩ := tr hr
    obtain ⟨q1, q2, q3⟩ := a6 r1
    rw [(List.append_eq_nil_iff.mp (hall.trans (takeFaults_nil _ _ _ hr))).1, List.isEmpty_nil, Bool.and_true] at hhalt
    rw [r3, r2, q2, q3, hhalt, hur, huc, hud]
    refine ⟨rfl, fun hh => ?_, rfl⟩
    rw [tf.pc, a1, if_pos (hhalt ▸ hh), hup]

/-- A scalar result of latency 1 is in its register when the cycle ends. -/
theorem issue_scalar {ws : List Word} (h : s.canIssueWords k ws = true) {rd : Nat} {v : Word}
    (h0 : ((s.bundleAt k ws).eff 0).items = [(0, .s rd v)])
    (h1 : ∀ i, i = 1 ∨ i = 2 ∨ i = 3 → ∀ x ∈ ((s.bundleAt k ws).eff i).items, x.1 ≠ 0) :
    ((s.runBundle k (fun t => t.decodeBundle k ws)).core k).readS rd = if rd = 0 then 0 else v := by
  obtain ⟨u, fs, hrun, hl, -⟩ := issue_cut h
  rw [hrun]
  generalize s.bundleAt k ws = b at *
  unfold Core.readS
  split
  · rfl
  next hrd =>
  rw [(takeFaults_pipe _ k _).2, (advance_spec u k _).2.2.2.2.1]
  have hcr := countRefusals_run (u.setWord .CYCLE_ISSUE k (u.word .CYCLE_ISSUE k + 1)) k
  change _ ∧ ((u.counted k).core k).cyc = _ ∧ ((u.counted k).core k).pipe = _ ∧ _ at hcr
  have hp : ((u.counted k).core k).pipe = (s.core k).pipe ++ [Item.mk (s.core k).cyc (s.core k).cyc (s.core k).pc 0 (.s rd v)]
      ++ ((s.core k).newItems 1 (b.eff 1) ++ (s.core k).newItems 2 (b.eff 2) ++ (s.core k).newItems 3 (b.eff 3)) := by
    rw [hcr.2.2.1, State.core_setWord, hl.pipe, Core.asRunning_pipe, Core.start4_pipe]
    simp only [Core.newItems, h0, List.map_cons, List.map_nil, Nat.add_zero, List.append_assoc]
  have hcy : ((u.counted k).core k).cyc = (s.core k).cyc := by
    rw [hcr.2.1, State.core_setWord, hl.cyc, Core.asRunning_cyc, Core.start4_cyc]
  have hnew : ∀ i, i = 1 ∨ i = 2 ∨ i = 3 → ∀ it ∈ (s.core k).newItems i (b.eff i), it.due ≠ (s.core k).cyc := by
    intro i hi it hit
    unfold Core.newItems at hit
    obtain ⟨x, hx, rfl⟩ := List.mem_map.mp hit
    have := h1 i hi x hx
    dsimp only
    omega
  have hrest : ∀ it ∈ (s.core k).newItems 1 (b.eff 1) ++ (s.core k).newItems 2 (b.eff 2) ++ (s.core k).newItems 3 (b.eff 3),
      it.due ≠ (s.core k).cyc := by
    intro it hit
    rcases List.mem_append.mp hit with hit | hit
    · rcases List.mem_append.mp hit with hit | hit
      · exact hnew 1 (by simp) it hit
      · exact hnew 2 (by simp) it hit
    · exact hnew 3 (by simp) it hit
  unfold State.endCycle
  extract_lets +onlyGivenNames c w r
  rw [State.core_modCore_same]
  have hr : r.1 = (State.landAll k (s.core k).cyc (s.core k).pipe w).1.modCore k (·.setS rd v) := by
    simp only [r, c, hcy, hp]
    rw [landAll_append _ (_ ++ [_]), landAll_none _ _ hrest, landAll_append _ _ [_]]
    simp only [landAll, if_true, State.land]
  dsimp only
  rw [hr, State.core_modCore_same]
  unfold Core.setS
  rw [if_neg hrd]
  exact SMap.get_set_same ..

end State
end Sys2Proof.Machine
end

