-- ==== Sys2Proof/Laws/Effects.lean ====
section
/-! SUPPORT. What the slots never do: only the S slot redirects, halts, writes a control register or lands in its own cycle; only the
X slot waits and reaches the port. -/

namespace Sys2Proof.Machine

/-- An effect that only a slot other than S has: no redirect, no halt, no control write, and nothing that lands in the issue cycle. -/
structure SlotEff.Late (e : SlotEff) : Prop where
  target : e.target = none
  halt : e.halt = false
  crw : e.crw = none
  items : ∀ x ∈ e.items, x.1 ≠ 0

/-- An effect that never reaches the port and never waits. -/
structure SlotEff.Local (e : SlotEff) : Prop where
  x : e.x = .none
  wait : e.wait = none

theorem SlotEff.late_nop : SlotEff.nop.Late := ⟨rfl, rfl, rfl, by simp [SlotEff.nop]⟩
theorem SlotEff.late_bad : SlotEff.bad.Late := ⟨rfl, rfl, rfl, by simp [SlotEff.bad]⟩
theorem SlotEff.local_nop : SlotEff.nop.Local := ⟨rfl, rfl⟩
theorem SlotEff.local_bad : SlotEff.bad.Local := ⟨rfl, rfl⟩

theorem SlotEff.late_guard {ok : Bool} {e : SlotEff} (h : e.Late) : (SlotEff.guard ok e).Late := by
  unfold SlotEff.guard; split
  · exact h
  · exact late_bad

theorem SlotEff.local_guard {ok : Bool} {e : SlotEff} (h : e.Local) : (SlotEff.guard ok e).Local := by
  unfold SlotEff.guard; split
  · exact h
  · exact local_bad

/-! ### The V slot -/

theorem late_vResult (lat vd : Nat) (rs : List (Nat × Nat)) (m : BitVec 128) (o : VOut) (h : 2 ≤ lat) :
    (vResult lat vd rs m o).Late := by
  refine ⟨rfl, rfl, rfl, fun x hx => ?_⟩
  simp only [vResult, List.mem_cons, List.not_mem_nil, or_false] at hx
  rcases hx with rfl | rfl <;> dsimp only <;> omega

theorem local_vResult (lat vd : Nat) (rs : List (Nat × Nat)) (m : BitVec 128) (o : VOut) : (vResult lat vd rs m o).Local := ⟨rfl, rfl⟩

theorem late_vInt (e : Nat → Nat → Nat → Nat × FpFlags) (vd va vb : BitVec 6) (pr : BitVec 4) (et : BitVec 2) (s : State) (k : Nat) :
    (vInt e vd va vb pr et s k).Late ∧ (vInt e vd va vb pr et s k).Local := by
  unfold vInt
  split
  · exact ⟨SlotEff.late_bad, SlotEff.local_bad⟩
  · exact ⟨late_vResult _ _ _ _ _ (by decide), local_vResult ..⟩

theorem late_effVcvt (vd va vb vc : BitVec 6) (pr : BitVec 4) (fd fs : BitVec 5) (rnd ovf : Bool) (part : BitVec 2) (s : State)
    (k : Nat) : (effVcvt vd va vb vc pr fd fs rnd ovf part s k).Late ∧ (effVcvt vd va vb vc pr fd fs rnd ovf part s k).Local := by
  unfold effVcvt
  dsimp only
  split
  · split
    · exact ⟨SlotEff.late_bad, SlotEff.local_bad⟩
    · split
      · split
        · exact ⟨SlotEff.late_bad, SlotEff.local_bad⟩
        · exact ⟨late_vResult _ _ _ _ _ (by decide), local_vResult ..⟩
      · split
        · split
          · exact ⟨SlotEff.late_bad, SlotEff.local_bad⟩
          · exact ⟨late_vResult _ _ _ _ _ (by decide), local_vResult ..⟩
        · split
          · exact ⟨SlotEff.late_bad, SlotEff.local_bad⟩
          · refine ⟨⟨rfl, rfl, rfl, fun x hx => ?_⟩, rfl, rfl⟩
            dsimp only at hx
            split at hx <;> simp only [List.mem_append, List.mem_cons, List.not_mem_nil, or_false] at hx
            · rcases hx with (rfl | rfl) | rfl <;> simp
            · rcases hx with rfl | rfl <;> simp
  · exact ⟨SlotEff.late_bad, SlotEff.local_bad⟩

/-- The V slot. -/
theorem effV_late (w : Word) (s : State) (k : Nat) : (effV w s k).Late ∧ (effV w s k).Local := by
  have one (n : Nat) (a : Act) (hn : n ≠ 0) : ∀ x ∈ [(n, a)], x.1 ≠ 0 := by simp [hn]
  have pair {ok : Bool} {e : SlotEff} (h : e.Late ∧ e.Local) : (SlotEff.guard ok e).Late ∧ (SlotEff.guard ok e).Local :=
    ⟨SlotEff.late_guard h.1, SlotEff.local_guard h.2⟩
  unfold effV
  extract_lets +onlyGivenNames op vd va vb vc pr fd fs rnd ovf part et pd pa pb low noEt noFmt noRnd three
  clear_value op
  split
  · exact ⟨SlotEff.late_nop, SlotEff.local_nop⟩
  · split
    · exact pair (late_vInt ..)
    · split
      · exact pair ⟨⟨rfl, rfl, rfl, one 1 _ (by decide)⟩, rfl, rfl⟩
      · split
        · exact pair ⟨late_vResult _ _ _ _ _ (by decide), local_vResult ..⟩
        · exact pair ⟨late_vResult _ _ _ _ _ (by decide), local_vResult ..⟩
        · exact pair ⟨late_vResult _ _ _ _ _ (by decide), local_vResult ..⟩
        · exact pair ⟨late_vResult _ _ _ _ _ (by decide), local_vResult ..⟩
        · exact pair ⟨late_vResult _ _ _ _ _ (by decide), local_vResult ..⟩
        · exact pair ⟨late_vResult _ _ _ _ _ (by decide), local_vResult ..⟩
        · exact pair ⟨late_vResult _ _ _ _ _ (by decide), local_vResult ..⟩
        · exact pair ⟨late_vResult _ _ _ _ _ (by decide), local_vResult ..⟩
        · exact pair ⟨late_vResult _ _ _ _ _ (by decide), local_vResult ..⟩
        · exact pair ⟨⟨rfl, rfl, rfl, one 1 _ (by decide)⟩, rfl, rfl⟩
        · exact pair ⟨⟨rfl, rfl, rfl, one 1 _ (by decide)⟩, rfl, rfl⟩
        · exact pair ⟨⟨rfl, rfl, rfl, one 1 _ (by decide)⟩, rfl, rfl⟩
        · exact pair ⟨⟨rfl, rfl, rfl, one 1 _ (by decide)⟩, rfl, rfl⟩
        · exact pair (late_effVcvt ..)
        · exact pair ⟨late_vResult _ _ _ _ _ (by decide), local_vResult ..⟩
        · exact pair ⟨late_vResult _ _ _ _ _ (by decide), local_vResult ..⟩
        · exact pair ⟨late_vResult _ _ _ _ _ (by decide), local_vResult ..⟩
        · exact pair ⟨late_vResult _ _ _ _ _ (by decide), local_vResult ..⟩
        · exact pair ⟨late_vResult _ _ _ _ _ (by decide), local_vResult ..⟩
        · exact pair ⟨late_vResult _ _ _ _ _ (by decide), local_vResult ..⟩
        · exact pair ⟨⟨rfl, rfl, rfl, one 3 _ (by decide)⟩, rfl, rfl⟩
        · exact pair ⟨⟨rfl, rfl, rfl, one 2 _ (by decide)⟩, rfl, rfl⟩
        · exact pair ⟨⟨rfl, rfl, rfl, one 3 _ (by decide)⟩, rfl, rfl⟩
        · exact ⟨SlotEff.late_bad, SlotEff.local_bad⟩

/-! ### The M slot -/

theorem late_effMma (td : BitVec 5) (ra rb : BitVec 6) (fa fb : BitVec 5) (spa : Bool) (s : State) (k : Nat) :
    (effMma td ra rb fa fb spa s k).Late ∧ (effMma td ra rb fa fb spa s k).Local := by
  unfold effMma
  dsimp only
  split
  · split
    · exact ⟨SlotEff.late_bad, SlotEff.local_bad⟩
    · split
      · split
        · exact ⟨⟨rfl, rfl, rfl, by simp⟩, rfl, rfl⟩
        · exact ⟨⟨rfl, rfl, rfl, by simp⟩, rfl, rfl⟩
      · exact ⟨⟨rfl, rfl, rfl, by simp⟩, rfl, rfl⟩
  · exact ⟨SlotEff.late_bad, SlotEff.local_bad⟩

theorem late_effTwr (ts : BitVec 5) (ra : BitVec 6) (fd : BitVec 5) (rnd ovf : Bool) (s : State) (k : Nat) :
    (effTwr ts ra fd rnd ovf s k).Late ∧ (effTwr ts ra fd rnd ovf s k).Local := by
  unfold effTwr
  dsimp only
  split
  · split
    · exact ⟨SlotEff.late_bad, SlotEff.local_bad⟩
    · refine ⟨⟨rfl, rfl, rfl, fun x hx => ?_⟩, rfl, rfl⟩
      dsimp only at hx
      split at hx <;> simp only [List.mem_append, List.mem_cons, List.not_mem_nil, or_false] at hx
      · rcases hx with (rfl | rfl) | rfl <;> dsimp only <;> omega
      · rcases hx with rfl | rfl <;> dsimp only <;> omega
  · exact ⟨SlotEff.late_bad, SlotEff.local_bad⟩

/-- The M slot. -/
theorem effM_late (w : Word) (s : State) (k : Nat) : (effM w s k).Late ∧ (effM w s k).Local := by
  have pair {ok : Bool} {e : SlotEff} (h : e.Late ∧ e.Local) : (SlotEff.guard ok e).Late ∧ (SlotEff.guard ok e).Local :=
    ⟨SlotEff.late_guard h.1, SlotEff.local_guard h.2⟩
  unfold effM
  extract_lets +onlyGivenNames td ra
  split
  · exact ⟨SlotEff.late_nop, SlotEff.local_nop⟩
  · split
    · exact pair ⟨⟨rfl, rfl, rfl, by simp [effTinit]⟩, rfl, rfl⟩
    · exact pair (late_effMma ..)
    · exact pair (late_effTwr ..)
    · exact ⟨SlotEff.late_bad, SlotEff.local_bad⟩

/-! ### The X slot -/

/-- The X slot. -/
theorem effX_late (w : Word) (s : State) (k : Nat) : (effX w s k).Late := by
  unfold effX
  extract_lets +onlyGivenNames rd ra rb cn cons af imm aop ck xc xp xp3 xk ln xm
  split
  · exact SlotEff.late_nop
  · split
    · exact SlotEff.late_guard ⟨rfl, rfl, rfl, by simp [effCadd]⟩
    · exact SlotEff.late_guard ⟨rfl, rfl, rfl, by simp [effCread]⟩
    · exact SlotEff.late_guard ⟨rfl, rfl, rfl, by simp [effCwait]⟩
    · exact SlotEff.late_guard ⟨rfl, rfl, rfl, by simp [effCset]⟩
    · refine SlotEff.late_guard ?_
      unfold effRcadd
      dsimp only
      split
      · exact SlotEff.late_bad
      · exact ⟨rfl, rfl, rfl, by simp⟩
    · exact SlotEff.late_guard ⟨rfl, rfl, rfl, by simp [effPld]⟩
    · exact SlotEff.late_guard ⟨rfl, rfl, rfl, by simp [effPldv]⟩
    · exact SlotEff.late_guard ⟨rfl, rfl, rfl, by simp [effPst]⟩
    · exact SlotEff.late_guard ⟨rfl, rfl, rfl, by simp [effPstv]⟩
    · refine SlotEff.late_guard ?_
      unfold effPatom
      dsimp only
      split
      · exact SlotEff.late_bad
      · exact ⟨rfl, rfl, rfl, by simp⟩
    · split
      · split
        · exact ⟨rfl, rfl, rfl, by simp [effFence]⟩
        · exact ⟨rfl, rfl, rfl, by simp [effFence]⟩
        · exact ⟨rfl, rfl, rfl, by simp [effFence]⟩
        · exact SlotEff.late_bad
      · exact SlotEff.late_bad
    · refine SlotEff.late_guard ?_
      unfold effCopy
      dsimp only
      split
      · exact SlotEff.late_bad
      · exact ⟨rfl, rfl, rfl, by simp⟩
    · exact SlotEff.late_guard ⟨rfl, rfl, rfl, by simp [effCabort]⟩
    · exact SlotEff.late_guard ⟨rfl, rfl, rfl, by simp [effCstat]⟩
    · exact SlotEff.late_guard ⟨rfl, rfl, rfl, by simp [effMsg]⟩
    · exact SlotEff.late_guard ⟨rfl, rfl, rfl, by simp [effRedc]⟩
    · refine SlotEff.late_guard ?_
      unfold effAttn
      split
      · exact SlotEff.late_bad
      · exact ⟨rfl, rfl, rfl, by simp⟩
    · exact SlotEff.late_guard ⟨rfl, rfl, rfl, by simp [effMvsv]⟩
    · exact SlotEff.late_guard ⟨rfl, rfl, rfl, by simp [effMvvs]⟩
    · exact SlotEff.late_bad

/-- The slots of a bundle but the first. -/
theorem bundleAt_late (s : State) (k : Nat) (ws : List Word) (i : Nat) (hi : i = 1 ∨ i = 2 ∨ i = 3) :
    ((s.bundleAt k ws).eff i).Late := by
  rcases hi with rfl | rfl | rfl
  · exact (effV_late _ _ _).1
  · exact (effM_late _ _ _).1
  · exact effX_late _ _ _

end Sys2Proof.Machine
end

