-- ==== Sys2Proof/Laws/Encode.lean ====
section
/-! SUPPORT. The fields of the slot words (R122-R147): what each encoder puts where the decoder looks, and the effect that each slot
word decodes to. -/

set_option linter.unusedSimpArgs false

namespace Sys2Proof.Machine

/-! ### Fields -/

theorem fld_encSR (op : Nat) (h : op < 256) (rd ra rb : BitVec 6) :
    let w := encSR op rd ra rb
    fld 63 56 w = op
    ∧ fld 55 50 w = rd.toNat
    ∧ fld 49 44 w = ra.toNat
    ∧ fld 43 38 w = rb.toNat
    ∧ fld 37 0 w = 0 := by
  intro w
  have := rd.isLt
  have := ra.isLt
  have := rb.isLt
  simp only [w, fld, bits, encSR, BitVec.toNat_ofNat, Nat.reducePow, Nat.reduceSub, Nat.reduceAdd]
  refine ⟨?_, ?_, ?_, ?_, ?_⟩ <;> omega

theorem fld_encSI (op : Nat) (h : op < 256) (rd ra : BitVec 6) (imm : BitVec 32) :
    let w := encSI op rd ra imm
    fld 63 56 w = op
    ∧ fld 55 50 w = rd.toNat
    ∧ fld 49 44 w = ra.toNat
    ∧ fld 43 32 w = 0
    ∧ fld 31 0 w = imm.toNat := by
  intro w
  have := rd.isLt
  have := ra.isLt
  have := imm.isLt
  simp only [w, fld, bits, encSI, BitVec.toNat_ofNat, Nat.reducePow, Nat.reduceSub, Nat.reduceAdd]
  refine ⟨?_, ?_, ?_, ?_, ?_⟩ <;> omega

theorem fld_encSC (op : Nat) (h : op < 256) (rd ra : BitVec 6) (cr : BitVec 12) :
    let w := encSC op rd ra cr
    fld 63 56 w = op
    ∧ fld 55 50 w = rd.toNat
    ∧ fld 49 44 w = ra.toNat
    ∧ fld 43 12 w = 0
    ∧ fld 11 0 w = cr.toNat := by
  intro w
  have := rd.isLt
  have := ra.isLt
  have := cr.isLt
  simp only [w, fld, bits, encSC, BitVec.toNat_ofNat, Nat.reducePow, Nat.reduceSub, Nat.reduceAdd]
  refine ⟨?_, ?_, ?_, ?_, ?_⟩ <;> omega

theorem fld_encSB (op : Nat) (h : op < 256) (ra rb rd : BitVec 6) (tgt : BitVec 15) :
    let w := encSB op ra rb rd tgt
    fld 63 56 w = op
    ∧ fld 55 50 w = ra.toNat
    ∧ fld 49 44 w = rb.toNat
    ∧ fld 43 38 w = rd.toNat
    ∧ fld 37 15 w = 0
    ∧ fld 14 0 w = tgt.toNat
    ∧ fld 55 38 w = ra.toNat * 4096 + rb.toNat * 64 + rd.toNat
    ∧ fld 55 44 w = ra.toNat * 64 + rb.toNat
    ∧ fld 49 38 w = rb.toNat * 64 + rd.toNat := by
  intro w
  have := ra.isLt
  have := rb.isLt
  have := rd.isLt
  have := tgt.isLt
  simp only [w, fld, bits, encSB, BitVec.toNat_ofNat, Nat.reducePow, Nat.reduceSub, Nat.reduceAdd]
  refine ⟨?_, ?_, ?_, ?_, ?_, ?_, ?_, ?_, ?_⟩ <;> omega

theorem fld_encVM (op : Nat) (h : op < 256) (vd ra : BitVec 6) (pr : BitVec 4) (imm : BitVec 18) :
    let w := encVM op vd ra pr imm
    fld 63 56 w = op
    ∧ fld 55 50 w = vd.toNat
    ∧ fld 49 44 w = ra.toNat
    ∧ fld 43 32 w = 0
    ∧ fld 31 28 w = pr.toNat
    ∧ fld 27 18 w = 0
    ∧ fld 17 0 w = imm.toNat := by
  intro w
  have := vd.isLt
  have := ra.isLt
  have := pr.isLt
  have := imm.isLt
  simp only [w, fld, bits, encVM, BitVec.toNat_ofNat, Nat.reducePow, Nat.reduceSub, Nat.reduceAdd]
  refine ⟨?_, ?_, ?_, ?_, ?_, ?_, ?_⟩ <;> omega

theorem fld_encVT (op : Nat) (h : op < 256) (vd ra : BitVec 6) (ts : BitVec 5) (half : Bool) (row : BitVec 8) :
    let w := encVT op vd ra ts half row
    fld 63 56 w = op
    ∧ fld 55 50 w = vd.toNat
    ∧ fld 49 44 w = ra.toNat
    ∧ fld 43 39 w = ts.toNat
    ∧ fld 38 38 w = half.toNat
    ∧ fld 37 8 w = 0
    ∧ fld 7 0 w = row.toNat := by
  intro w
  have := vd.isLt
  have := ra.isLt
  have := ts.isLt
  have : half.toNat ≤ 1 := Bool.toNat_le half
  have := row.isLt
  simp only [w, fld, bits, encVT, BitVec.toNat_ofNat, Nat.reducePow, Nat.reduceSub, Nat.reduceAdd]
  refine ⟨?_, ?_, ?_, ?_, ?_, ?_, ?_⟩ <;> omega

theorem fld_encMI (op : Nat) (h : op < 256) (td : BitVec 5) (tag : Bool) :
    let w := encMI op td tag
    fld 63 56 w = op
    ∧ fld 55 51 w = td.toNat
    ∧ fld 50 50 w = tag.toNat
    ∧ fld 49 0 w = 0 := by
  intro w
  have := td.isLt
  have : tag.toNat ≤ 1 := Bool.toNat_le tag
  simp only [w, fld, bits, encMI, BitVec.toNat_ofNat, Nat.reducePow, Nat.reduceSub, Nat.reduceAdd]
  refine ⟨?_, ?_, ?_, ?_⟩ <;> omega

theorem fld_encMM (op : Nat) (h : op < 256) (td : BitVec 5) (ra rb : BitVec 6) (fa fb : BitVec 5) (spa : Bool) :
    let w := encMM op td ra rb fa fb spa
    fld 63 56 w = op
    ∧ fld 55 51 w = td.toNat
    ∧ fld 50 45 w = ra.toNat
    ∧ fld 44 39 w = rb.toNat
    ∧ fld 38 34 w = fa.toNat
    ∧ fld 33 29 w = fb.toNat
    ∧ fld 28 28 w = spa.toNat
    ∧ fld 27 0 w = 0 := by
  intro w
  have := td.isLt
  have := ra.isLt
  have := rb.isLt
  have := fa.isLt
  have := fb.isLt
  have : spa.toNat ≤ 1 := Bool.toNat_le spa
  simp only [w, fld, bits, encMM, BitVec.toNat_ofNat, Nat.reducePow, Nat.reduceSub, Nat.reduceAdd]
  refine ⟨?_, ?_, ?_, ?_, ?_, ?_, ?_, ?_⟩ <;> omega

theorem fld_encMW (op : Nat) (h : op < 256) (ts : BitVec 5) (ra : BitVec 6) (fd : BitVec 5) (rnd ovf : Bool) :
    let w := encMW op ts ra fd rnd ovf
    fld 63 56 w = op
    ∧ fld 55 51 w = ts.toNat
    ∧ fld 50 45 w = ra.toNat
    ∧ fld 44 40 w = fd.toNat
    ∧ fld 39 39 w = rnd.toNat
    ∧ fld 38 38 w = ovf.toNat
    ∧ fld 37 0 w = 0 := by
  intro w
  have := ts.isLt
  have := ra.isLt
  have := fd.isLt
  have : rnd.toNat ≤ 1 := Bool.toNat_le rnd
  have : ovf.toNat ≤ 1 := Bool.toNat_le ovf
  simp only [w, fld, bits, encMW, BitVec.toNat_ofNat, Nat.reducePow, Nat.reduceSub, Nat.reduceAdd]
  refine ⟨?_, ?_, ?_, ?_, ?_, ?_, ?_⟩ <;> omega

theorem fld_encXC (op : Nat) (h : op < 256) (rd ra rb : BitVec 6) (c : BitVec 12) (cons af : Bool) (imm : BitVec 16) :
    let w := encXC op rd ra rb c cons af imm
    fld 63 56 w = op
    ∧ fld 55 50 w = rd.toNat
    ∧ fld 49 44 w = ra.toNat
    ∧ fld 43 38 w = rb.toNat
    ∧ fld 37 26 w = c.toNat
    ∧ fld 25 25 w = cons.toNat
    ∧ fld 24 24 w = af.toNat
    ∧ fld 23 16 w = 0
    ∧ fld 15 0 w = imm.toNat := by
  intro w
  have := rd.isLt
  have := ra.isLt
  have := rb.isLt
  have := c.isLt
  have : cons.toNat ≤ 1 := Bool.toNat_le cons
  have : af.toNat ≤ 1 := Bool.toNat_le af
  have := imm.isLt
  simp only [w, fld, bits, encXC, BitVec.toNat_ofNat, Nat.reducePow, Nat.reduceSub, Nat.reduceAdd]
  refine ⟨?_, ?_, ?_, ?_, ?_, ?_, ?_, ?_, ?_⟩ <;> omega

theorem fld_encXP (op : Nat) (h : op < 256) (rd ra rb : BitVec 6) (c : BitVec 12) (aop : BitVec 4) :
    let w := encXP op rd ra rb c aop
    fld 63 56 w = op
    ∧ fld 55 50 w = rd.toNat
    ∧ fld 49 44 w = ra.toNat
    ∧ fld 43 38 w = rb.toNat
    ∧ fld 37 26 w = c.toNat
    ∧ fld 25 22 w = aop.toNat
    ∧ fld 21 0 w = 0 := by
  intro w
  have := rd.isLt
  have := ra.isLt
  have := rb.isLt
  have := c.isLt
  have := aop.isLt
  simp only [w, fld, bits, encXP, BitVec.toNat_ofNat, Nat.reducePow, Nat.reduceSub, Nat.reduceAdd]
  refine ⟨?_, ?_, ?_, ?_, ?_, ?_, ?_⟩ <;> omega

theorem fld_encXK (op : Nat) (h : op < 256) (rd ra rb : BitVec 6) (c : BitVec 12) (ch : BitVec 4) (ck : BitVec 2) :
    let w := encXK op rd ra rb c ch ck
    fld 63 56 w = op
    ∧ fld 55 50 w = rd.toNat
    ∧ fld 49 44 w = ra.toNat
    ∧ fld 43 38 w = rb.toNat
    ∧ fld 37 26 w = c.toNat
    ∧ fld 25 22 w = ch.toNat
    ∧ fld 21 20 w = ck.toNat
    ∧ fld 19 0 w = 0 := by
  intro w
  have := rd.isLt
  have := ra.isLt
  have := rb.isLt
  have := c.isLt
  have := ch.isLt
  have := ck.isLt
  simp only [w, fld, bits, encXK, BitVec.toNat_ofNat, Nat.reducePow, Nat.reduceSub, Nat.reduceAdd]
  refine ⟨?_, ?_, ?_, ?_, ?_, ?_, ?_, ?_⟩ <;> omega

theorem fld_encXF (op : Nat) (h : op < 256) (kind : BitVec 2) :
    let w := encXF op kind
    fld 63 56 w = op
    ∧ fld 55 2 w = 0
    ∧ fld 1 0 w = kind.toNat := by
  intro w
  have := kind.isLt
  simp only [w, fld, bits, encXF, BitVec.toNat_ofNat, Nat.reducePow, Nat.reduceSub, Nat.reduceAdd]
  refine ⟨?_, ?_, ?_⟩ <;> omega

theorem fld_encXM (op : Nat) (h : op < 256) (rd ra : BitVec 6) (ln : BitVec 7) :
    let w := encXM op rd ra ln
    fld 63 56 w = op
    ∧ fld 55 50 w = rd.toNat
    ∧ fld 49 44 w = ra.toNat
    ∧ fld 43 7 w = 0
    ∧ fld 6 0 w = ln.toNat := by
  intro w
  have := rd.isLt
  have := ra.isLt
  have := ln.isLt
  simp only [w, fld, bits, encXM, BitVec.toNat_ofNat, Nat.reducePow, Nat.reduceSub, Nat.reduceAdd]
  refine ⟨?_, ?_, ?_, ?_, ?_⟩ <;> omega

theorem fld_encVR (op : Nat) (h : op < 256) (f : VRFields) :
    let w := encVR op f
    fld 63 56 w = op
    ∧ fld 55 50 w = f.vd.toNat
    ∧ fld 49 44 w = f.va.toNat
    ∧ fld 43 38 w = f.vb.toNat
    ∧ fld 37 32 w = f.vc.toNat
    ∧ fld 31 28 w = f.pr.toNat
    ∧ fld 27 23 w = f.fd.toNat
    ∧ fld 22 18 w = f.fs.toNat
    ∧ fld 17 17 w = f.rnd.toNat
    ∧ fld 16 16 w = f.ovf.toNat
    ∧ fld 15 14 w = f.part.toNat
    ∧ fld 13 12 w = f.et.toNat
    ∧ fld 11 0 w = 0
    ∧ fld 27 18 w = f.fd.toNat * 32 + f.fs.toNat
    ∧ fld 16 14 w = f.ovf.toNat * 4 + f.part.toNat
    ∧ fld 55 54 w = f.vd.toNat / 16
    ∧ fld 53 50 w = f.vd.toNat % 16
    ∧ fld 49 48 w = f.va.toNat / 16
    ∧ fld 47 44 w = f.va.toNat % 16
    ∧ fld 43 42 w = f.vb.toNat / 16
    ∧ fld 41 38 w = f.vb.toNat % 16
    ∧ fld 37 36 w = f.vc.toNat / 16
    ∧ fld 35 32 w = f.vc.toNat % 16 := by
  intro w
  have := f.vd.isLt
  have := f.va.isLt
  have := f.vb.isLt
  have := f.vc.isLt
  have := f.pr.isLt
  have := f.fd.isLt
  have := f.fs.isLt
  have := f.part.isLt
  have := f.et.isLt
  have : f.rnd.toNat ≤ 1 := Bool.toNat_le f.rnd
  have : f.ovf.toNat ≤ 1 := Bool.toNat_le f.ovf
  simp only [w, fld, bits, encVR, BitVec.toNat_ofNat, Nat.reducePow, Nat.reduceSub, Nat.reduceAdd]
  refine ⟨?_, ?_, ?_, ?_, ?_, ?_, ?_, ?_, ?_, ?_, ?_, ?_, ?_, ?_, ?_, ?_, ?_, ?_, ?_, ?_, ?_, ?_, ?_⟩ <;> omega

theorem ne_zero_of_fld {w : Word} {hi lo v : Nat} (h : fld hi lo w = v) (hv : v ≠ 0) : w ≠ 0 := by
  rintro rfl
  apply hv
  rw [← h]
  simp [fld, bits]

theorem toNat_eq_one (b : Bool) : (b.toNat == 1) = b := by cases b <;> rfl

/-! ### What each slot word decodes to -/

theorem ofNat_toNat_self {n : Nat} (x : BitVec n) : BitVec.ofNat n x.toNat = x := by simp

theorem ofNat4_of6 (x : BitVec 4) : BitVec.ofNat 4 ((x.zeroExtend 6).toNat % 16) = x := by
  have := x.isLt
  apply BitVec.eq_of_toNat_eq
  simp only [BitVec.truncate_eq_setWidth, BitVec.toNat_setWidth, BitVec.toNat_ofNat]
  omega

theorem zero_beq_one : ((0 : Nat) == 1) = false := rfl

theorem high_of6 (x : BitVec 4) : (x.zeroExtend 6).toNat / 16 = 0 := by
  have := x.isLt
  simp only [BitVec.truncate_eq_setWidth, BitVec.toNat_setWidth]
  omega

theorem effS_add (rd ra rb : BitVec 6) (s : State) (k : Nat) :
    effS (encSR 0x08 rd ra rb) s k = (sBinary (· + ·) 1 rd ra rb) s k := by
  have h := fld_encSR 0x08 (by decide) rd ra rb
  generalize encSR 0x08 rd ra rb = w at h ⊢
  obtain ⟨h1, h⟩ := h
  have hw : ¬ w = 0 := ne_zero_of_fld h1 (by decide)
  unfold effS
  dsimp only
  rw [if_neg hw, h1]
  simp only [aluOf, condOf, SlotEff.guard, h, ofNat_toNat_self, toNat_eq_one, ofNat4_of6, high_of6, zero_beq_one, Nat.reduceLT, Nat.reduceEqDiff,
    Nat.reduceSub, if_true, if_false, beq_self_eq_true, Bool.and_self, BitVec.toNat_ofNat, Nat.zero_mod, BitVec.ofNat_eq_ofNat,
    Bool.toNat_false, Bool.not_false, Nat.reduceMul, Nat.reduceAdd, Nat.reduceDiv, Bool.and_true, Bool.true_and]

theorem effS_sub (rd ra rb : BitVec 6) (s : State) (k : Nat) :
    effS (encSR 0x09 rd ra rb) s k = (sBinary (· - ·) 1 rd ra rb) s k := by
  have h := fld_encSR 0x09 (by decide) rd ra rb
  generalize encSR 0x09 rd ra rb = w at h ⊢
  obtain ⟨h1, h⟩ := h
  have hw : ¬ w = 0 := ne_zero_of_fld h1 (by decide)
  unfold effS
  dsimp only
  rw [if_neg hw, h1]
  simp only [aluOf, condOf, SlotEff.guard, h, ofNat_toNat_self, toNat_eq_one, ofNat4_of6, high_of6, zero_beq_one, Nat.reduceLT, Nat.reduceEqDiff,
    Nat.reduceSub, if_true, if_false, beq_self_eq_true, Bool.and_self, BitVec.toNat_ofNat, Nat.zero_mod, BitVec.ofNat_eq_ofNat,
    Bool.toNat_false, Bool.not_false, Nat.reduceMul, Nat.reduceAdd, Nat.reduceDiv, Bool.and_true, Bool.true_and]

theorem effS_and (rd ra rb : BitVec 6) (s : State) (k : Nat) :
    effS (encSR 0x0A rd ra rb) s k = (sBinary (· &&& ·) 1 rd ra rb) s k := by
  have h := fld_encSR 0x0A (by decide) rd ra rb
  generalize encSR 0x0A rd ra rb = w at h ⊢
  obtain ⟨h1, h⟩ := h
  have hw : ¬ w = 0 := ne_zero_of_fld h1 (by decide)
  unfold effS
  dsimp only
  rw [if_neg hw, h1]
  simp only [aluOf, condOf, SlotEff.guard, h, ofNat_toNat_self, toNat_eq_one, ofNat4_of6, high_of6, zero_beq_one, Nat.reduceLT, Nat.reduceEqDiff,
    Nat.reduceSub, if_true, if_false, beq_self_eq_true, Bool.and_self, BitVec.toNat_ofNat, Nat.zero_mod, BitVec.ofNat_eq_ofNat,
    Bool.toNat_false, Bool.not_false, Nat.reduceMul, Nat.reduceAdd, Nat.reduceDiv, Bool.and_true, Bool.true_and]

theorem effS_or (rd ra rb : BitVec 6) (s : State) (k : Nat) :
    effS (encSR 0x0B rd ra rb) s k = (sBinary (· ||| ·) 1 rd ra rb) s k := by
  have h := fld_encSR 0x0B (by decide) rd ra rb
  generalize encSR 0x0B rd ra rb = w at h ⊢
  obtain ⟨h1, h⟩ := h
  have hw : ¬ w = 0 := ne_zero_of_fld h1 (by decide)
  unfold effS
  dsimp only
  rw [if_neg hw, h1]
  simp only [aluOf, condOf, SlotEff.guard, h, ofNat_toNat_self, toNat_eq_one, ofNat4_of6, high_of6, zero_beq_one, Nat.reduceLT, Nat.reduceEqDiff,
    Nat.reduceSub, if_true, if_false, beq_self_eq_true, Bool.and_self, BitVec.toNat_ofNat, Nat.zero_mod, BitVec.ofNat_eq_ofNat,
    Bool.toNat_false, Bool.not_false, Nat.reduceMul, Nat.reduceAdd, Nat.reduceDiv, Bool.and_true, Bool.true_and]

theorem effS_xor (rd ra rb : BitVec 6) (s : State) (k : Nat) :
    effS (encSR 0x0C rd ra rb) s k = (sBinary (· ^^^ ·) 1 rd ra rb) s k := by
  have h := fld_encSR 0x0C (by decide) rd ra rb
  generalize encSR 0x0C rd ra rb = w at h ⊢
  obtain ⟨h1, h⟩ := h
  have hw : ¬ w = 0 := ne_zero_of_fld h1 (by decide)
  unfold effS
  dsimp only
  rw [if_neg hw, h1]
  simp only [aluOf, condOf, SlotEff.guard, h, ofNat_toNat_self, toNat_eq_one, ofNat4_of6, high_of6, zero_beq_one, Nat.reduceLT, Nat.reduceEqDiff,
    Nat.reduceSub, if_true, if_false, beq_self_eq_true, Bool.and_self, BitVec.toNat_ofNat, Nat.zero_mod, BitVec.ofNat_eq_ofNat,
    Bool.toNat_false, Bool.not_false, Nat.reduceMul, Nat.reduceAdd, Nat.reduceDiv, Bool.and_true, Bool.true_and]

theorem effS_sll (rd ra rb : BitVec 6) (s : State) (k : Nat) :
    effS (encSR 0x0D rd ra rb) s k = (sBinary aluSll 1 rd ra rb) s k := by
  have h := fld_encSR 0x0D (by decide) rd ra rb
  generalize encSR 0x0D rd ra rb = w at h ⊢
  obtain ⟨h1, h⟩ := h
  have hw : ¬ w = 0 := ne_zero_of_fld h1 (by decide)
  unfold effS
  dsimp only
  rw [if_neg hw, h1]
  simp only [aluOf, condOf, SlotEff.guard, h, ofNat_toNat_self, toNat_eq_one, ofNat4_of6, high_of6, zero_beq_one, Nat.reduceLT, Nat.reduceEqDiff,
    Nat.reduceSub, if_true, if_false, beq_self_eq_true, Bool.and_self, BitVec.toNat_ofNat, Nat.zero_mod, BitVec.ofNat_eq_ofNat,
    Bool.toNat_false, Bool.not_false, Nat.reduceMul, Nat.reduceAdd, Nat.reduceDiv, Bool.and_true, Bool.true_and]

theorem effS_srl (rd ra rb : BitVec 6) (s : State) (k : Nat) :
    effS (encSR 0x0E rd ra rb) s k = (sBinary aluSrl 1 rd ra rb) s k := by
  have h := fld_encSR 0x0E (by decide) rd ra rb
  generalize encSR 0x0E rd ra rb = w at h ⊢
  obtain ⟨h1, h⟩ := h
  have hw : ¬ w = 0 := ne_zero_of_fld h1 (by decide)
  unfold effS
  dsimp only
  rw [if_neg hw, h1]
  simp only [aluOf, condOf, SlotEff.guard, h, ofNat_toNat_self, toNat_eq_one, ofNat4_of6, high_of6, zero_beq_one, Nat.reduceLT, Nat.reduceEqDiff,
    Nat.reduceSub, if_true, if_false, beq_self_eq_true, Bool.and_self, BitVec.toNat_ofNat, Nat.zero_mod, BitVec.ofNat_eq_ofNat,
    Bool.toNat_false, Bool.not_false, Nat.reduceMul, Nat.reduceAdd, Nat.reduceDiv, Bool.and_true, Bool.true_and]

theorem effS_sra (rd ra rb : BitVec 6) (s : State) (k : Nat) :
    effS (encSR 0x0F rd ra rb) s k = (sBinary aluSra 1 rd ra rb) s k := by
  have h := fld_encSR 0x0F (by decide) rd ra rb
  generalize encSR 0x0F rd ra rb = w at h ⊢
  obtain ⟨h1, h⟩ := h
  have hw : ¬ w = 0 := ne_zero_of_fld h1 (by decide)
  unfold effS
  dsimp only
  rw [if_neg hw, h1]
  simp only [aluOf, condOf, SlotEff.guard, h, ofNat_toNat_self, toNat_eq_one, ofNat4_of6, high_of6, zero_beq_one, Nat.reduceLT, Nat.reduceEqDiff,
    Nat.reduceSub, if_true, if_false, beq_self_eq_true, Bool.and_self, BitVec.toNat_ofNat, Nat.zero_mod, BitVec.ofNat_eq_ofNat,
    Bool.toNat_false, Bool.not_false, Nat.reduceMul, Nat.reduceAdd, Nat.reduceDiv, Bool.and_true, Bool.true_and]

theorem effS_slt (rd ra rb : BitVec 6) (s : State) (k : Nat) :
    effS (encSR 0x10 rd ra rb) s k = (sBinary aluSlt 1 rd ra rb) s k := by
  have h := fld_encSR 0x10 (by decide) rd ra rb
  generalize encSR 0x10 rd ra rb = w at h ⊢
  obtain ⟨h1, h⟩ := h
  have hw : ¬ w = 0 := ne_zero_of_fld h1 (by decide)
  unfold effS
  dsimp only
  rw [if_neg hw, h1]
  simp only [aluOf, condOf, SlotEff.guard, h, ofNat_toNat_self, toNat_eq_one, ofNat4_of6, high_of6, zero_beq_one, Nat.reduceLT, Nat.reduceEqDiff,
    Nat.reduceSub, if_true, if_false, beq_self_eq_true, Bool.and_self, BitVec.toNat_ofNat, Nat.zero_mod, BitVec.ofNat_eq_ofNat,
    Bool.toNat_false, Bool.not_false, Nat.reduceMul, Nat.reduceAdd, Nat.reduceDiv, Bool.and_true, Bool.true_and]

theorem effS_sltu (rd ra rb : BitVec 6) (s : State) (k : Nat) :
    effS (encSR 0x11 rd ra rb) s k = (sBinary aluSltu 1 rd ra rb) s k := by
  have h := fld_encSR 0x11 (by decide) rd ra rb
  generalize encSR 0x11 rd ra rb = w at h ⊢
  obtain ⟨h1, h⟩ := h
  have hw : ¬ w = 0 := ne_zero_of_fld h1 (by decide)
  unfold effS
  dsimp only
  rw [if_neg hw, h1]
  simp only [aluOf, condOf, SlotEff.guard, h, ofNat_toNat_self, toNat_eq_one, ofNat4_of6, high_of6, zero_beq_one, Nat.reduceLT, Nat.reduceEqDiff,
    Nat.reduceSub, if_true, if_false, beq_self_eq_true, Bool.and_self, BitVec.toNat_ofNat, Nat.zero_mod, BitVec.ofNat_eq_ofNat,
    Bool.toNat_false, Bool.not_false, Nat.reduceMul, Nat.reduceAdd, Nat.reduceDiv, Bool.and_true, Bool.true_and]

theorem effS_seq (rd ra rb : BitVec 6) (s : State) (k : Nat) :
    effS (encSR 0x12 rd ra rb) s k = (sBinary aluSeq 1 rd ra rb) s k := by
  have h := fld_encSR 0x12 (by decide) rd ra rb
  generalize encSR 0x12 rd ra rb = w at h ⊢
  obtain ⟨h1, h⟩ := h
  have hw : ¬ w = 0 := ne_zero_of_fld h1 (by decide)
  unfold effS
  dsimp only
  rw [if_neg hw, h1]
  simp only [aluOf, condOf, SlotEff.guard, h, ofNat_toNat_self, toNat_eq_one, ofNat4_of6, high_of6, zero_beq_one, Nat.reduceLT, Nat.reduceEqDiff,
    Nat.reduceSub, if_true, if_false, beq_self_eq_true, Bool.and_self, BitVec.toNat_ofNat, Nat.zero_mod, BitVec.ofNat_eq_ofNat,
    Bool.toNat_false, Bool.not_false, Nat.reduceMul, Nat.reduceAdd, Nat.reduceDiv, Bool.and_true, Bool.true_and]

theorem effS_min (rd ra rb : BitVec 6) (s : State) (k : Nat) :
    effS (encSR 0x13 rd ra rb) s k = (sBinary aluMin 1 rd ra rb) s k := by
  have h := fld_encSR 0x13 (by decide) rd ra rb
  generalize encSR 0x13 rd ra rb = w at h ⊢
  obtain ⟨h1, h⟩ := h
  have hw : ¬ w = 0 := ne_zero_of_fld h1 (by decide)
  unfold effS
  dsimp only
  rw [if_neg hw, h1]
  simp only [aluOf, condOf, SlotEff.guard, h, ofNat_toNat_self, toNat_eq_one, ofNat4_of6, high_of6, zero_beq_one, Nat.reduceLT, Nat.reduceEqDiff,
    Nat.reduceSub, if_true, if_false, beq_self_eq_true, Bool.and_self, BitVec.toNat_ofNat, Nat.zero_mod, BitVec.ofNat_eq_ofNat,
    Bool.toNat_false, Bool.not_false, Nat.reduceMul, Nat.reduceAdd, Nat.reduceDiv, Bool.and_true, Bool.true_and]

theorem effS_max (rd ra rb : BitVec 6) (s : State) (k : Nat) :
    effS (encSR 0x14 rd ra rb) s k = (sBinary aluMax 1 rd ra rb) s k := by
  have h := fld_encSR 0x14 (by decide) rd ra rb
  generalize encSR 0x14 rd ra rb = w at h ⊢
  obtain ⟨h1, h⟩ := h
  have hw : ¬ w = 0 := ne_zero_of_fld h1 (by decide)
  unfold effS
  dsimp only
  rw [if_neg hw, h1]
  simp only [aluOf, condOf, SlotEff.guard, h, ofNat_toNat_self, toNat_eq_one, ofNat4_of6, high_of6, zero_beq_one, Nat.reduceLT, Nat.reduceEqDiff,
    Nat.reduceSub, if_true, if_false, beq_self_eq_true, Bool.and_self, BitVec.toNat_ofNat, Nat.zero_mod, BitVec.ofNat_eq_ofNat,
    Bool.toNat_false, Bool.not_false, Nat.reduceMul, Nat.reduceAdd, Nat.reduceDiv, Bool.and_true, Bool.true_and]

theorem effS_minu (rd ra rb : BitVec 6) (s : State) (k : Nat) :
    effS (encSR 0x15 rd ra rb) s k = (sBinary aluMinu 1 rd ra rb) s k := by
  have h := fld_encSR 0x15 (by decide) rd ra rb
  generalize encSR 0x15 rd ra rb = w at h ⊢
  obtain ⟨h1, h⟩ := h
  have hw : ¬ w = 0 := ne_zero_of_fld h1 (by decide)
  unfold effS
  dsimp only
  rw [if_neg hw, h1]
  simp only [aluOf, condOf, SlotEff.guard, h, ofNat_toNat_self, toNat_eq_one, ofNat4_of6, high_of6, zero_beq_one, Nat.reduceLT, Nat.reduceEqDiff,
    Nat.reduceSub, if_true, if_false, beq_self_eq_true, Bool.and_self, BitVec.toNat_ofNat, Nat.zero_mod, BitVec.ofNat_eq_ofNat,
    Bool.toNat_false, Bool.not_false, Nat.reduceMul, Nat.reduceAdd, Nat.reduceDiv, Bool.and_true, Bool.true_and]

theorem effS_maxu (rd ra rb : BitVec 6) (s : State) (k : Nat) :
    effS (encSR 0x16 rd ra rb) s k = (sBinary aluMaxu 1 rd ra rb) s k := by
  have h := fld_encSR 0x16 (by decide) rd ra rb
  generalize encSR 0x16 rd ra rb = w at h ⊢
  obtain ⟨h1, h⟩ := h
  have hw : ¬ w = 0 := ne_zero_of_fld h1 (by decide)
  unfold effS
  dsimp only
  rw [if_neg hw, h1]
  simp only [aluOf, condOf, SlotEff.guard, h, ofNat_toNat_self, toNat_eq_one, ofNat4_of6, high_of6, zero_beq_one, Nat.reduceLT, Nat.reduceEqDiff,
    Nat.reduceSub, if_true, if_false, beq_self_eq_true, Bool.and_self, BitVec.toNat_ofNat, Nat.zero_mod, BitVec.ofNat_eq_ofNat,
    Bool.toNat_false, Bool.not_false, Nat.reduceMul, Nat.reduceAdd, Nat.reduceDiv, Bool.and_true, Bool.true_and]

theorem effS_addi (rd ra : BitVec 6) (imm : BitVec 32) (s : State) (k : Nat) :
    effS (encSI 0x18 rd ra imm) s k = (sImm (· + ·) rd ra imm) s k := by
  have h := fld_encSI 0x18 (by decide) rd ra imm
  generalize encSI 0x18 rd ra imm = w at h ⊢
  obtain ⟨h1, h⟩ := h
  have hw : ¬ w = 0 := ne_zero_of_fld h1 (by decide)
  unfold effS
  dsimp only
  rw [if_neg hw, h1]
  simp only [aluOf, condOf, SlotEff.guard, h, ofNat_toNat_self, toNat_eq_one, ofNat4_of6, high_of6, zero_beq_one, Nat.reduceLT, Nat.reduceEqDiff,
    Nat.reduceSub, if_true, if_false, beq_self_eq_true, Bool.and_self, BitVec.toNat_ofNat, Nat.zero_mod, BitVec.ofNat_eq_ofNat,
    Bool.toNat_false, Bool.not_false, Nat.reduceMul, Nat.reduceAdd, Nat.reduceDiv, Bool.and_true, Bool.true_and]

theorem effS_subi (rd ra : BitVec 6) (imm : BitVec 32) (s : State) (k : Nat) :
    effS (encSI 0x19 rd ra imm) s k = (sImm (· - ·) rd ra imm) s k := by
  have h := fld_encSI 0x19 (by decide) rd ra imm
  generalize encSI 0x19 rd ra imm = w at h ⊢
  obtain ⟨h1, h⟩ := h
  have hw : ¬ w = 0 := ne_zero_of_fld h1 (by decide)
  unfold effS
  dsimp only
  rw [if_neg hw, h1]
  simp only [aluOf, condOf, SlotEff.guard, h, ofNat_toNat_self, toNat_eq_one, ofNat4_of6, high_of6, zero_beq_one, Nat.reduceLT, Nat.reduceEqDiff,
    Nat.reduceSub, if_true, if_false, beq_self_eq_true, Bool.and_self, BitVec.toNat_ofNat, Nat.zero_mod, BitVec.ofNat_eq_ofNat,
    Bool.toNat_false, Bool.not_false, Nat.reduceMul, Nat.reduceAdd, Nat.reduceDiv, Bool.and_true, Bool.true_and]

theorem effS_andi (rd ra : BitVec 6) (imm : BitVec 32) (s : State) (k : Nat) :
    effS (encSI 0x1A rd ra imm) s k = (sImm (· &&& ·) rd ra imm) s k := by
  have h := fld_encSI 0x1A (by decide) rd ra imm
  generalize encSI 0x1A rd ra imm = w at h ⊢
  obtain ⟨h1, h⟩ := h
  have hw : ¬ w = 0 := ne_zero_of_fld h1 (by decide)
  unfold effS
  dsimp only
  rw [if_neg hw, h1]
  simp only [aluOf, condOf, SlotEff.guard, h, ofNat_toNat_self, toNat_eq_one, ofNat4_of6, high_of6, zero_beq_one, Nat.reduceLT, Nat.reduceEqDiff,
    Nat.reduceSub, if_true, if_false, beq_self_eq_true, Bool.and_self, BitVec.toNat_ofNat, Nat.zero_mod, BitVec.ofNat_eq_ofNat,
    Bool.toNat_false, Bool.not_false, Nat.reduceMul, Nat.reduceAdd, Nat.reduceDiv, Bool.and_true, Bool.true_and]

theorem effS_ori (rd ra : BitVec 6) (imm : BitVec 32) (s : State) (k : Nat) :
    effS (encSI 0x1B rd ra imm) s k = (sImm (· ||| ·) rd ra imm) s k := by
  have h := fld_encSI 0x1B (by decide) rd ra imm
  generalize encSI 0x1B rd ra imm = w at h ⊢
  obtain ⟨h1, h⟩ := h
  have hw : ¬ w = 0 := ne_zero_of_fld h1 (by decide)
  unfold effS
  dsimp only
  rw [if_neg hw, h1]
  simp only [aluOf, condOf, SlotEff.guard, h, ofNat_toNat_self, toNat_eq_one, ofNat4_of6, high_of6, zero_beq_one, Nat.reduceLT, Nat.reduceEqDiff,
    Nat.reduceSub, if_true, if_false, beq_self_eq_true, Bool.and_self, BitVec.toNat_ofNat, Nat.zero_mod, BitVec.ofNat_eq_ofNat,
    Bool.toNat_false, Bool.not_false, Nat.reduceMul, Nat.reduceAdd, Nat.reduceDiv, Bool.and_true, Bool.true_and]

theorem effS_xori (rd ra : BitVec 6) (imm : BitVec 32) (s : State) (k : Nat) :
    effS (encSI 0x1C rd ra imm) s k = (sImm (· ^^^ ·) rd ra imm) s k := by
  have h := fld_encSI 0x1C (by decide) rd ra imm
  generalize encSI 0x1C rd ra imm = w at h ⊢
  obtain ⟨h1, h⟩ := h
  have hw : ¬ w = 0 := ne_zero_of_fld h1 (by decide)
  unfold effS
  dsimp only
  rw [if_neg hw, h1]
  simp only [aluOf, condOf, SlotEff.guard, h, ofNat_toNat_self, toNat_eq_one, ofNat4_of6, high_of6, zero_beq_one, Nat.reduceLT, Nat.reduceEqDiff,
    Nat.reduceSub, if_true, if_false, beq_self_eq_true, Bool.and_self, BitVec.toNat_ofNat, Nat.zero_mod, BitVec.ofNat_eq_ofNat,
    Bool.toNat_false, Bool.not_false, Nat.reduceMul, Nat.reduceAdd, Nat.reduceDiv, Bool.and_true, Bool.true_and]

theorem effS_slli (rd ra : BitVec 6) (imm : BitVec 32) (s : State) (k : Nat) :
    effS (encSI 0x1D rd ra imm) s k = (sImm aluSll rd ra imm) s k := by
  have h := fld_encSI 0x1D (by decide) rd ra imm
  generalize encSI 0x1D rd ra imm = w at h ⊢
  obtain ⟨h1, h⟩ := h
  have hw : ¬ w = 0 := ne_zero_of_fld h1 (by decide)
  unfold effS
  dsimp only
  rw [if_neg hw, h1]
  simp only [aluOf, condOf, SlotEff.guard, h, ofNat_toNat_self, toNat_eq_one, ofNat4_of6, high_of6, zero_beq_one, Nat.reduceLT, Nat.reduceEqDiff,
    Nat.reduceSub, if_true, if_false, beq_self_eq_true, Bool.and_self, BitVec.toNat_ofNat, Nat.zero_mod, BitVec.ofNat_eq_ofNat,
    Bool.toNat_false, Bool.not_false, Nat.reduceMul, Nat.reduceAdd, Nat.reduceDiv, Bool.and_true, Bool.true_and]

theorem effS_srli (rd ra : BitVec 6) (imm : BitVec 32) (s : State) (k : Nat) :
    effS (encSI 0x1E rd ra imm) s k = (sImm aluSrl rd ra imm) s k := by
  have h := fld_encSI 0x1E (by decide) rd ra imm
  generalize encSI 0x1E rd ra imm = w at h ⊢
  obtain ⟨h1, h⟩ := h
  have hw : ¬ w = 0 := ne_zero_of_fld h1 (by decide)
  unfold effS
  dsimp only
  rw [if_neg hw, h1]
  simp only [aluOf, condOf, SlotEff.guard, h, ofNat_toNat_self, toNat_eq_one, ofNat4_of6, high_of6, zero_beq_one, Nat.reduceLT, Nat.reduceEqDiff,
    Nat.reduceSub, if_true, if_false, beq_self_eq_true, Bool.and_self, BitVec.toNat_ofNat, Nat.zero_mod, BitVec.ofNat_eq_ofNat,
    Bool.toNat_false, Bool.not_false, Nat.reduceMul, Nat.reduceAdd, Nat.reduceDiv, Bool.and_true, Bool.true_and]

theorem effS_srai (rd ra : BitVec 6) (imm : BitVec 32) (s : State) (k : Nat) :
    effS (encSI 0x1F rd ra imm) s k = (sImm aluSra rd ra imm) s k := by
  have h := fld_encSI 0x1F (by decide) rd ra imm
  generalize encSI 0x1F rd ra imm = w at h ⊢
  obtain ⟨h1, h⟩ := h
  have hw : ¬ w = 0 := ne_zero_of_fld h1 (by decide)
  unfold effS
  dsimp only
  rw [if_neg hw, h1]
  simp only [aluOf, condOf, SlotEff.guard, h, ofNat_toNat_self, toNat_eq_one, ofNat4_of6, high_of6, zero_beq_one, Nat.reduceLT, Nat.reduceEqDiff,
    Nat.reduceSub, if_true, if_false, beq_self_eq_true, Bool.and_self, BitVec.toNat_ofNat, Nat.zero_mod, BitVec.ofNat_eq_ofNat,
    Bool.toNat_false, Bool.not_false, Nat.reduceMul, Nat.reduceAdd, Nat.reduceDiv, Bool.and_true, Bool.true_and]

theorem effS_slti (rd ra : BitVec 6) (imm : BitVec 32) (s : State) (k : Nat) :
    effS (encSI 0x20 rd ra imm) s k = (sImm aluSlt rd ra imm) s k := by
  have h := fld_encSI 0x20 (by decide) rd ra imm
  generalize encSI 0x20 rd ra imm = w at h ⊢
  obtain ⟨h1, h⟩ := h
  have hw : ¬ w = 0 := ne_zero_of_fld h1 (by decide)
  unfold effS
  dsimp only
  rw [if_neg hw, h1]
  simp only [aluOf, condOf, SlotEff.guard, h, ofNat_toNat_self, toNat_eq_one, ofNat4_of6, high_of6, zero_beq_one, Nat.reduceLT, Nat.reduceEqDiff,
    Nat.reduceSub, if_true, if_false, beq_self_eq_true, Bool.and_self, BitVec.toNat_ofNat, Nat.zero_mod, BitVec.ofNat_eq_ofNat,
    Bool.toNat_false, Bool.not_false, Nat.reduceMul, Nat.reduceAdd, Nat.reduceDiv, Bool.and_true, Bool.true_and]

theorem effS_sltui (rd ra : BitVec 6) (imm : BitVec 32) (s : State) (k : Nat) :
    effS (encSI 0x21 rd ra imm) s k = (sImm aluSltu rd ra imm) s k := by
  have h := fld_encSI 0x21 (by decide) rd ra imm
  generalize encSI 0x21 rd ra imm = w at h ⊢
  obtain ⟨h1, h⟩ := h
  have hw : ¬ w = 0 := ne_zero_of_fld h1 (by decide)
  unfold effS
  dsimp only
  rw [if_neg hw, h1]
  simp only [aluOf, condOf, SlotEff.guard, h, ofNat_toNat_self, toNat_eq_one, ofNat4_of6, high_of6, zero_beq_one, Nat.reduceLT, Nat.reduceEqDiff,
    Nat.reduceSub, if_true, if_false, beq_self_eq_true, Bool.and_self, BitVec.toNat_ofNat, Nat.zero_mod, BitVec.ofNat_eq_ofNat,
    Bool.toNat_false, Bool.not_false, Nat.reduceMul, Nat.reduceAdd, Nat.reduceDiv, Bool.and_true, Bool.true_and]

theorem effS_seqi (rd ra : BitVec 6) (imm : BitVec 32) (s : State) (k : Nat) :
    effS (encSI 0x22 rd ra imm) s k = (sImm aluSeq rd ra imm) s k := by
  have h := fld_encSI 0x22 (by decide) rd ra imm
  generalize encSI 0x22 rd ra imm = w at h ⊢
  obtain ⟨h1, h⟩ := h
  have hw : ¬ w = 0 := ne_zero_of_fld h1 (by decide)
  unfold effS
  dsimp only
  rw [if_neg hw, h1]
  simp only [aluOf, condOf, SlotEff.guard, h, ofNat_toNat_self, toNat_eq_one, ofNat4_of6, high_of6, zero_beq_one, Nat.reduceLT, Nat.reduceEqDiff,
    Nat.reduceSub, if_true, if_false, beq_self_eq_true, Bool.and_self, BitVec.toNat_ofNat, Nat.zero_mod, BitVec.ofNat_eq_ofNat,
    Bool.toNat_false, Bool.not_false, Nat.reduceMul, Nat.reduceAdd, Nat.reduceDiv, Bool.and_true, Bool.true_and]

theorem effS_mini (rd ra : BitVec 6) (imm : BitVec 32) (s : State) (k : Nat) :
    effS (encSI 0x23 rd ra imm) s k = (sImm aluMin rd ra imm) s k := by
  have h := fld_encSI 0x23 (by decide) rd ra imm
  generalize encSI 0x23 rd ra imm = w at h ⊢
  obtain ⟨h1, h⟩ := h
  have hw : ¬ w = 0 := ne_zero_of_fld h1 (by decide)
  unfold effS
  dsimp only
  rw [if_neg hw, h1]
  simp only [aluOf, condOf, SlotEff.guard, h, ofNat_toNat_self, toNat_eq_one, ofNat4_of6, high_of6, zero_beq_one, Nat.reduceLT, Nat.reduceEqDiff,
    Nat.reduceSub, if_true, if_false, beq_self_eq_true, Bool.and_self, BitVec.toNat_ofNat, Nat.zero_mod, BitVec.ofNat_eq_ofNat,
    Bool.toNat_false, Bool.not_false, Nat.reduceMul, Nat.reduceAdd, Nat.reduceDiv, Bool.and_true, Bool.true_and]

theorem effS_maxi (rd ra : BitVec 6) (imm : BitVec 32) (s : State) (k : Nat) :
    effS (encSI 0x24 rd ra imm) s k = (sImm aluMax rd ra imm) s k := by
  have h := fld_encSI 0x24 (by decide) rd ra imm
  generalize encSI 0x24 rd ra imm = w at h ⊢
  obtain ⟨h1, h⟩ := h
  have hw : ¬ w = 0 := ne_zero_of_fld h1 (by decide)
  unfold effS
  dsimp only
  rw [if_neg hw, h1]
  simp only [aluOf, condOf, SlotEff.guard, h, ofNat_toNat_self, toNat_eq_one, ofNat4_of6, high_of6, zero_beq_one, Nat.reduceLT, Nat.reduceEqDiff,
    Nat.reduceSub, if_true, if_false, beq_self_eq_true, Bool.and_self, BitVec.toNat_ofNat, Nat.zero_mod, BitVec.ofNat_eq_ofNat,
    Bool.toNat_false, Bool.not_false, Nat.reduceMul, Nat.reduceAdd, Nat.reduceDiv, Bool.and_true, Bool.true_and]

theorem effS_minui (rd ra : BitVec 6) (imm : BitVec 32) (s : State) (k : Nat) :
    effS (encSI 0x25 rd ra imm) s k = (sImm aluMinu rd ra imm) s k := by
  have h := fld_encSI 0x25 (by decide) rd ra imm
  generalize encSI 0x25 rd ra imm = w at h ⊢
  obtain ⟨h1, h⟩ := h
  have hw : ¬ w = 0 := ne_zero_of_fld h1 (by decide)
  unfold effS
  dsimp only
  rw [if_neg hw, h1]
  simp only [aluOf, condOf, SlotEff.guard, h, ofNat_toNat_self, toNat_eq_one, ofNat4_of6, high_of6, zero_beq_one, Nat.reduceLT, Nat.reduceEqDiff,
    Nat.reduceSub, if_true, if_false, beq_self_eq_true, Bool.and_self, BitVec.toNat_ofNat, Nat.zero_mod, BitVec.ofNat_eq_ofNat,
    Bool.toNat_false, Bool.not_false, Nat.reduceMul, Nat.reduceAdd, Nat.reduceDiv, Bool.and_true, Bool.true_and]

theorem effS_maxui (rd ra : BitVec 6) (imm : BitVec 32) (s : State) (k : Nat) :
    effS (encSI 0x26 rd ra imm) s k = (sImm aluMaxu rd ra imm) s k := by
  have h := fld_encSI 0x26 (by decide) rd ra imm
  generalize encSI 0x26 rd ra imm = w at h ⊢
  obtain ⟨h1, h⟩ := h
  have hw : ¬ w = 0 := ne_zero_of_fld h1 (by decide)
  unfold effS
  dsimp only
  rw [if_neg hw, h1]
  simp only [aluOf, condOf, SlotEff.guard, h, ofNat_toNat_self, toNat_eq_one, ofNat4_of6, high_of6, zero_beq_one, Nat.reduceLT, Nat.reduceEqDiff,
    Nat.reduceSub, if_true, if_false, beq_self_eq_true, Bool.and_self, BitVec.toNat_ofNat, Nat.zero_mod, BitVec.ofNat_eq_ofNat,
    Bool.toNat_false, Bool.not_false, Nat.reduceMul, Nat.reduceAdd, Nat.reduceDiv, Bool.and_true, Bool.true_and]

theorem effS_sethi (rd ra : BitVec 6) (imm : BitVec 32) (s : State) (k : Nat) :
    effS (encSI 0x27 rd ra imm) s k = (effSethi rd ra imm) s k := by
  have h := fld_encSI 0x27 (by decide) rd ra imm
  generalize encSI 0x27 rd ra imm = w at h ⊢
  obtain ⟨h1, h⟩ := h
  have hw : ¬ w = 0 := ne_zero_of_fld h1 (by decide)
  unfold effS
  dsimp only
  rw [if_neg hw, h1]
  simp only [aluOf, condOf, SlotEff.guard, h, ofNat_toNat_self, toNat_eq_one, ofNat4_of6, high_of6, zero_beq_one, Nat.reduceLT, Nat.reduceEqDiff,
    Nat.reduceSub, if_true, if_false, beq_self_eq_true, Bool.and_self, BitVec.toNat_ofNat, Nat.zero_mod, BitVec.ofNat_eq_ofNat,
    Bool.toNat_false, Bool.not_false, Nat.reduceMul, Nat.reduceAdd, Nat.reduceDiv, Bool.and_true, Bool.true_and]

theorem effS_mul (rd ra rb : BitVec 6) (s : State) (k : Nat) :
    effS (encSR 0x28 rd ra rb) s k = (sBinary (· * ·) 3 rd ra rb) s k := by
  have h := fld_encSR 0x28 (by decide) rd ra rb
  generalize encSR 0x28 rd ra rb = w at h ⊢
  obtain ⟨h1, h⟩ := h
  have hw : ¬ w = 0 := ne_zero_of_fld h1 (by decide)
  unfold effS
  dsimp only
  rw [if_neg hw, h1]
  simp only [aluOf, condOf, SlotEff.guard, h, ofNat_toNat_self, toNat_eq_one, ofNat4_of6, high_of6, zero_beq_one, Nat.reduceLT, Nat.reduceEqDiff,
    Nat.reduceSub, if_true, if_false, beq_self_eq_true, Bool.and_self, BitVec.toNat_ofNat, Nat.zero_mod, BitVec.ofNat_eq_ofNat,
    Bool.toNat_false, Bool.not_false, Nat.reduceMul, Nat.reduceAdd, Nat.reduceDiv, Bool.and_true, Bool.true_and]

theorem effS_mulh (rd ra rb : BitVec 6) (s : State) (k : Nat) :
    effS (encSR 0x29 rd ra rb) s k = (sBinary aluMulh 3 rd ra rb) s k := by
  have h := fld_encSR 0x29 (by decide) rd ra rb
  generalize encSR 0x29 rd ra rb = w at h ⊢
  obtain ⟨h1, h⟩ := h
  have hw : ¬ w = 0 := ne_zero_of_fld h1 (by decide)
  unfold effS
  dsimp only
  rw [if_neg hw, h1]
  simp only [aluOf, condOf, SlotEff.guard, h, ofNat_toNat_self, toNat_eq_one, ofNat4_of6, high_of6, zero_beq_one, Nat.reduceLT, Nat.reduceEqDiff,
    Nat.reduceSub, if_true, if_false, beq_self_eq_true, Bool.and_self, BitVec.toNat_ofNat, Nat.zero_mod, BitVec.ofNat_eq_ofNat,
    Bool.toNat_false, Bool.not_false, Nat.reduceMul, Nat.reduceAdd, Nat.reduceDiv, Bool.and_true, Bool.true_and]

theorem effS_mulhu (rd ra rb : BitVec 6) (s : State) (k : Nat) :
    effS (encSR 0x2A rd ra rb) s k = (sBinary aluMulhu 3 rd ra rb) s k := by
  have h := fld_encSR 0x2A (by decide) rd ra rb
  generalize encSR 0x2A rd ra rb = w at h ⊢
  obtain ⟨h1, h⟩ := h
  have hw : ¬ w = 0 := ne_zero_of_fld h1 (by decide)
  unfold effS
  dsimp only
  rw [if_neg hw, h1]
  simp only [aluOf, condOf, SlotEff.guard, h, ofNat_toNat_self, toNat_eq_one, ofNat4_of6, high_of6, zero_beq_one, Nat.reduceLT, Nat.reduceEqDiff,
    Nat.reduceSub, if_true, if_false, beq_self_eq_true, Bool.and_self, BitVec.toNat_ofNat, Nat.zero_mod, BitVec.ofNat_eq_ofNat,
    Bool.toNat_false, Bool.not_false, Nat.reduceMul, Nat.reduceAdd, Nat.reduceDiv, Bool.and_true, Bool.true_and]

theorem effS_crr (rd : BitVec 6) (cr : BitVec 12) (s : State) (k : Nat) :
    effS (encSC 0x30 rd 0 cr) s k = (effCrr rd cr) s k := by
  have h := fld_encSC 0x30 (by decide) rd 0 cr
  generalize encSC 0x30 rd 0 cr = w at h ⊢
  obtain ⟨h1, h⟩ := h
  have hw : ¬ w = 0 := ne_zero_of_fld h1 (by decide)
  unfold effS
  dsimp only
  rw [if_neg hw, h1]
  simp only [aluOf, condOf, SlotEff.guard, h, ofNat_toNat_self, toNat_eq_one, ofNat4_of6, high_of6, zero_beq_one, Nat.reduceLT, Nat.reduceEqDiff,
    Nat.reduceSub, if_true, if_false, beq_self_eq_true, Bool.and_self, BitVec.toNat_ofNat, Nat.zero_mod, BitVec.ofNat_eq_ofNat,
    Bool.toNat_false, Bool.not_false, Nat.reduceMul, Nat.reduceAdd, Nat.reduceDiv, Bool.and_true, Bool.true_and]

theorem effS_crw (ra : BitVec 6) (cr : BitVec 12) (s : State) (k : Nat) :
    effS (encSC 0x31 0 ra cr) s k = (effCrw ra cr) s k := by
  have h := fld_encSC 0x31 (by decide) 0 ra cr
  generalize encSC 0x31 0 ra cr = w at h ⊢
  obtain ⟨h1, h⟩ := h
  have hw : ¬ w = 0 := ne_zero_of_fld h1 (by decide)
  unfold effS
  dsimp only
  rw [if_neg hw, h1]
  simp only [aluOf, condOf, SlotEff.guard, h, ofNat_toNat_self, toNat_eq_one, ofNat4_of6, high_of6, zero_beq_one, Nat.reduceLT, Nat.reduceEqDiff,
    Nat.reduceSub, if_true, if_false, beq_self_eq_true, Bool.and_self, BitVec.toNat_ofNat, Nat.zero_mod, BitVec.ofNat_eq_ofNat,
    Bool.toNat_false, Bool.not_false, Nat.reduceMul, Nat.reduceAdd, Nat.reduceDiv, Bool.and_true, Bool.true_and]

theorem effS_ld (rd ra : BitVec 6) (imm : BitVec 32) (s : State) (k : Nat) :
    effS (encSI 0x38 rd ra imm) s k = (effLd rd ra imm) s k := by
  have h := fld_encSI 0x38 (by decide) rd ra imm
  generalize encSI 0x38 rd ra imm = w at h ⊢
  obtain ⟨h1, h⟩ := h
  have hw : ¬ w = 0 := ne_zero_of_fld h1 (by decide)
  unfold effS
  dsimp only
  rw [if_neg hw, h1]
  simp only [aluOf, condOf, SlotEff.guard, h, ofNat_toNat_self, toNat_eq_one, ofNat4_of6, high_of6, zero_beq_one, Nat.reduceLT, Nat.reduceEqDiff,
    Nat.reduceSub, if_true, if_false, beq_self_eq_true, Bool.and_self, BitVec.toNat_ofNat, Nat.zero_mod, BitVec.ofNat_eq_ofNat,
    Bool.toNat_false, Bool.not_false, Nat.reduceMul, Nat.reduceAdd, Nat.reduceDiv, Bool.and_true, Bool.true_and]

theorem effS_st (rd ra : BitVec 6) (imm : BitVec 32) (s : State) (k : Nat) :
    effS (encSI 0x39 rd ra imm) s k = (effSt rd ra imm) s k := by
  have h := fld_encSI 0x39 (by decide) rd ra imm
  generalize encSI 0x39 rd ra imm = w at h ⊢
  obtain ⟨h1, h⟩ := h
  have hw : ¬ w = 0 := ne_zero_of_fld h1 (by decide)
  unfold effS
  dsimp only
  rw [if_neg hw, h1]
  simp only [aluOf, condOf, SlotEff.guard, h, ofNat_toNat_self, toNat_eq_one, ofNat4_of6, high_of6, zero_beq_one, Nat.reduceLT, Nat.reduceEqDiff,
    Nat.reduceSub, if_true, if_false, beq_self_eq_true, Bool.and_self, BitVec.toNat_ofNat, Nat.zero_mod, BitVec.ofNat_eq_ofNat,
    Bool.toNat_false, Bool.not_false, Nat.reduceMul, Nat.reduceAdd, Nat.reduceDiv, Bool.and_true, Bool.true_and]

theorem effS_beq (ra rb : BitVec 6) (tgt : BitVec 15) (s : State) (k : Nat) :
    effS (encSB 0x40 ra rb 0 tgt) s k = (effBranch (· == ·) ra rb tgt) s k := by
  have h := fld_encSB 0x40 (by decide) ra rb 0 tgt
  generalize encSB 0x40 ra rb 0 tgt = w at h ⊢
  obtain ⟨h1, h⟩ := h
  have hw : ¬ w = 0 := ne_zero_of_fld h1 (by decide)
  unfold effS
  dsimp only
  rw [if_neg hw, h1]
  simp only [aluOf, condOf, SlotEff.guard, h, ofNat_toNat_self, toNat_eq_one, ofNat4_of6, high_of6, zero_beq_one, Nat.reduceLT, Nat.reduceEqDiff,
    Nat.reduceSub, if_true, if_false, beq_self_eq_true, Bool.and_self, BitVec.toNat_ofNat, Nat.zero_mod, BitVec.ofNat_eq_ofNat,
    Bool.toNat_false, Bool.not_false, Nat.reduceMul, Nat.reduceAdd, Nat.reduceDiv, Bool.and_true, Bool.true_and]

theorem effS_bne (ra rb : BitVec 6) (tgt : BitVec 15) (s : State) (k : Nat) :
    effS (encSB 0x41 ra rb 0 tgt) s k = (effBranch (· != ·) ra rb tgt) s k := by
  have h := fld_encSB 0x41 (by decide) ra rb 0 tgt
  generalize encSB 0x41 ra rb 0 tgt = w at h ⊢
  obtain ⟨h1, h⟩ := h
  have hw : ¬ w = 0 := ne_zero_of_fld h1 (by decide)
  unfold effS
  dsimp only
  rw [if_neg hw, h1]
  simp only [aluOf, condOf, SlotEff.guard, h, ofNat_toNat_self, toNat_eq_one, ofNat4_of6, high_of6, zero_beq_one, Nat.reduceLT, Nat.reduceEqDiff,
    Nat.reduceSub, if_true, if_false, beq_self_eq_true, Bool.and_self, BitVec.toNat_ofNat, Nat.zero_mod, BitVec.ofNat_eq_ofNat,
    Bool.toNat_false, Bool.not_false, Nat.reduceMul, Nat.reduceAdd, Nat.reduceDiv, Bool.and_true, Bool.true_and]

theorem effS_blt (ra rb : BitVec 6) (tgt : BitVec 15) (s : State) (k : Nat) :
    effS (encSB 0x42 ra rb 0 tgt) s k = (effBranch BitVec.slt ra rb tgt) s k := by
  have h := fld_encSB 0x42 (by decide) ra rb 0 tgt
  generalize encSB 0x42 ra rb 0 tgt = w at h ⊢
  obtain ⟨h1, h⟩ := h
  have hw : ¬ w = 0 := ne_zero_of_fld h1 (by decide)
  unfold effS
  dsimp only
  rw [if_neg hw, h1]
  simp only [aluOf, condOf, SlotEff.guard, h, ofNat_toNat_self, toNat_eq_one, ofNat4_of6, high_of6, zero_beq_one, Nat.reduceLT, Nat.reduceEqDiff,
    Nat.reduceSub, if_true, if_false, beq_self_eq_true, Bool.and_self, BitVec.toNat_ofNat, Nat.zero_mod, BitVec.ofNat_eq_ofNat,
    Bool.toNat_false, Bool.not_false, Nat.reduceMul, Nat.reduceAdd, Nat.reduceDiv, Bool.and_true, Bool.true_and]

theorem effS_bge (ra rb : BitVec 6) (tgt : BitVec 15) (s : State) (k : Nat) :
    effS (encSB 0x43 ra rb 0 tgt) s k = (effBranch (fun a b => !a.slt b) ra rb tgt) s k := by
  have h := fld_encSB 0x43 (by decide) ra rb 0 tgt
  generalize encSB 0x43 ra rb 0 tgt = w at h ⊢
  obtain ⟨h1, h⟩ := h
  have hw : ¬ w = 0 := ne_zero_of_fld h1 (by decide)
  unfold effS
  dsimp only
  rw [if_neg hw, h1]
  simp only [aluOf, condOf, SlotEff.guard, h, ofNat_toNat_self, toNat_eq_one, ofNat4_of6, high_of6, zero_beq_one, Nat.reduceLT, Nat.reduceEqDiff,
    Nat.reduceSub, if_true, if_false, beq_self_eq_true, Bool.and_self, BitVec.toNat_ofNat, Nat.zero_mod, BitVec.ofNat_eq_ofNat,
    Bool.toNat_false, Bool.not_false, Nat.reduceMul, Nat.reduceAdd, Nat.reduceDiv, Bool.and_true, Bool.true_and]

theorem effS_bltu (ra rb : BitVec 6) (tgt : BitVec 15) (s : State) (k : Nat) :
    effS (encSB 0x44 ra rb 0 tgt) s k = (effBranch BitVec.ult ra rb tgt) s k := by
  have h := fld_encSB 0x44 (by decide) ra rb 0 tgt
  generalize encSB 0x44 ra rb 0 tgt = w at h ⊢
  obtain ⟨h1, h⟩ := h
  have hw : ¬ w = 0 := ne_zero_of_fld h1 (by decide)
  unfold effS
  dsimp only
  rw [if_neg hw, h1]
  simp only [aluOf, condOf, SlotEff.guard, h, ofNat_toNat_self, toNat_eq_one, ofNat4_of6, high_of6, zero_beq_one, Nat.reduceLT, Nat.reduceEqDiff,
    Nat.reduceSub, if_true, if_false, beq_self_eq_true, Bool.and_self, BitVec.toNat_ofNat, Nat.zero_mod, BitVec.ofNat_eq_ofNat,
    Bool.toNat_false, Bool.not_false, Nat.reduceMul, Nat.reduceAdd, Nat.reduceDiv, Bool.and_true, Bool.true_and]

theorem effS_bgeu (ra rb : BitVec 6) (tgt : BitVec 15) (s : State) (k : Nat) :
    effS (encSB 0x45 ra rb 0 tgt) s k = (effBranch (fun a b => !a.ult b) ra rb tgt) s k := by
  have h := fld_encSB 0x45 (by decide) ra rb 0 tgt
  generalize encSB 0x45 ra rb 0 tgt = w at h ⊢
  obtain ⟨h1, h⟩ := h
  have hw : ¬ w = 0 := ne_zero_of_fld h1 (by decide)
  unfold effS
  dsimp only
  rw [if_neg hw, h1]
  simp only [aluOf, condOf, SlotEff.guard, h, ofNat_toNat_self, toNat_eq_one, ofNat4_of6, high_of6, zero_beq_one, Nat.reduceLT, Nat.reduceEqDiff,
    Nat.reduceSub, if_true, if_false, beq_self_eq_true, Bool.and_self, BitVec.toNat_ofNat, Nat.zero_mod, BitVec.ofNat_eq_ofNat,
    Bool.toNat_false, Bool.not_false, Nat.reduceMul, Nat.reduceAdd, Nat.reduceDiv, Bool.and_true, Bool.true_and]

theorem effS_j (tgt : BitVec 15) (s : State) (k : Nat) :
    effS (encSB 0x46 0 0 0 tgt) s k = (fun _ _ => effJ tgt) s k := by
  have h := fld_encSB 0x46 (by decide) 0 0 0 tgt
  generalize encSB 0x46 0 0 0 tgt = w at h ⊢
  obtain ⟨h1, h⟩ := h
  have hw : ¬ w = 0 := ne_zero_of_fld h1 (by decide)
  unfold effS
  dsimp only
  rw [if_neg hw, h1]
  simp only [aluOf, condOf, SlotEff.guard, h, ofNat_toNat_self, toNat_eq_one, ofNat4_of6, high_of6, zero_beq_one, Nat.reduceLT, Nat.reduceEqDiff,
    Nat.reduceSub, if_true, if_false, beq_self_eq_true, Bool.and_self, BitVec.toNat_ofNat, Nat.zero_mod, BitVec.ofNat_eq_ofNat,
    Bool.toNat_false, Bool.not_false, Nat.reduceMul, Nat.reduceAdd, Nat.reduceDiv, Bool.and_true, Bool.true_and]

theorem effS_jal (rd : BitVec 6) (tgt : BitVec 15) (s : State) (k : Nat) :
    effS (encSB 0x47 0 0 rd tgt) s k = (effJal rd tgt) s k := by
  have h := fld_encSB 0x47 (by decide) 0 0 rd tgt
  generalize encSB 0x47 0 0 rd tgt = w at h ⊢
  obtain ⟨h1, h⟩ := h
  have hw : ¬ w = 0 := ne_zero_of_fld h1 (by decide)
  unfold effS
  dsimp only
  rw [if_neg hw, h1]
  simp only [aluOf, condOf, SlotEff.guard, h, ofNat_toNat_self, toNat_eq_one, ofNat4_of6, high_of6, zero_beq_one, Nat.reduceLT, Nat.reduceEqDiff,
    Nat.reduceSub, if_true, if_false, beq_self_eq_true, Bool.and_self, BitVec.toNat_ofNat, Nat.zero_mod, BitVec.ofNat_eq_ofNat,
    Bool.toNat_false, Bool.not_false, Nat.reduceMul, Nat.reduceAdd, Nat.reduceDiv, Bool.and_true, Bool.true_and]

theorem effS_jr (ra : BitVec 6) (s : State) (k : Nat) :
    effS (encSB 0x48 ra 0 0 0) s k = (effJr ra) s k := by
  have h := fld_encSB 0x48 (by decide) ra 0 0 0
  generalize encSB 0x48 ra 0 0 0 = w at h ⊢
  obtain ⟨h1, h⟩ := h
  have hw : ¬ w = 0 := ne_zero_of_fld h1 (by decide)
  unfold effS
  dsimp only
  rw [if_neg hw, h1]
  simp only [aluOf, condOf, SlotEff.guard, h, ofNat_toNat_self, toNat_eq_one, ofNat4_of6, high_of6, zero_beq_one, Nat.reduceLT, Nat.reduceEqDiff,
    Nat.reduceSub, if_true, if_false, beq_self_eq_true, Bool.and_self, BitVec.toNat_ofNat, Nat.zero_mod, BitVec.ofNat_eq_ofNat,
    Bool.toNat_false, Bool.not_false, Nat.reduceMul, Nat.reduceAdd, Nat.reduceDiv, Bool.and_true, Bool.true_and]

theorem effS_jalr (rd ra : BitVec 6) (s : State) (k : Nat) :
    effS (encSB 0x49 ra 0 rd 0) s k = (effJalr rd ra) s k := by
  have h := fld_encSB 0x49 (by decide) ra 0 rd 0
  generalize encSB 0x49 ra 0 rd 0 = w at h ⊢
  obtain ⟨h1, h⟩ := h
  have hw : ¬ w = 0 := ne_zero_of_fld h1 (by decide)
  unfold effS
  dsimp only
  rw [if_neg hw, h1]
  simp only [aluOf, condOf, SlotEff.guard, h, ofNat_toNat_self, toNat_eq_one, ofNat4_of6, high_of6, zero_beq_one, Nat.reduceLT, Nat.reduceEqDiff,
    Nat.reduceSub, if_true, if_false, beq_self_eq_true, Bool.and_self, BitVec.toNat_ofNat, Nat.zero_mod, BitVec.ofNat_eq_ofNat,
    Bool.toNat_false, Bool.not_false, Nat.reduceMul, Nat.reduceAdd, Nat.reduceDiv, Bool.and_true, Bool.true_and]

theorem effV_vadd (vd va vb : BitVec 6) (pr : BitVec 4) (et : BitVec 2) (s : State) (k : Nat) :
    effV (encVR 0x08 ⟨vd, va, vb, 0, pr, 0, 0, false, false, 0, et⟩) s k = (vInt vAddE vd va vb pr et) s k := by
  have h := fld_encVR 0x08 (by decide) ⟨vd, va, vb, 0, pr, 0, 0, false, false, 0, et⟩
  generalize encVR 0x08 ⟨vd, va, vb, 0, pr, 0, 0, false, false, 0, et⟩ = w at h ⊢
  obtain ⟨h1, h⟩ := h
  have hw : ¬ w = 0 := ne_zero_of_fld h1 (by decide)
  dsimp only at h
  unfold effV
  dsimp only
  rw [if_neg hw, h1]
  simp only [vIntOf, vCmpOf, SlotEff.guard, h, ofNat_toNat_self, toNat_eq_one, ofNat4_of6, high_of6, zero_beq_one, Nat.reduceLT, Nat.reduceEqDiff,
    Nat.reduceSub, if_true, if_false, beq_self_eq_true, Bool.and_self, BitVec.toNat_ofNat, Nat.zero_mod, BitVec.ofNat_eq_ofNat,
    Bool.toNat_false, Bool.not_false, Nat.reduceMul, Nat.reduceAdd, Nat.reduceDiv, Bool.and_true, Bool.true_and]

theorem effV_vsub (vd va vb : BitVec 6) (pr : BitVec 4) (et : BitVec 2) (s : State) (k : Nat) :
    effV (encVR 0x09 ⟨vd, va, vb, 0, pr, 0, 0, false, false, 0, et⟩) s k = (vInt vSubE vd va vb pr et) s k := by
  have h := fld_encVR 0x09 (by decide) ⟨vd, va, vb, 0, pr, 0, 0, false, false, 0, et⟩
  generalize encVR 0x09 ⟨vd, va, vb, 0, pr, 0, 0, false, false, 0, et⟩ = w at h ⊢
  obtain ⟨h1, h⟩ := h
  have hw : ¬ w = 0 := ne_zero_of_fld h1 (by decide)
  dsimp only at h
  unfold effV
  dsimp only
  rw [if_neg hw, h1]
  simp only [vIntOf, vCmpOf, SlotEff.guard, h, ofNat_toNat_self, toNat_eq_one, ofNat4_of6, high_of6, zero_beq_one, Nat.reduceLT, Nat.reduceEqDiff,
    Nat.reduceSub, if_true, if_false, beq_self_eq_true, Bool.and_self, BitVec.toNat_ofNat, Nat.zero_mod, BitVec.ofNat_eq_ofNat,
    Bool.toNat_false, Bool.not_false, Nat.reduceMul, Nat.reduceAdd, Nat.reduceDiv, Bool.and_true, Bool.true_and]

theorem effV_vand (vd va vb : BitVec 6) (pr : BitVec 4) (et : BitVec 2) (s : State) (k : Nat) :
    effV (encVR 0x0A ⟨vd, va, vb, 0, pr, 0, 0, false, false, 0, et⟩) s k = (vInt vAndE vd va vb pr et) s k := by
  have h := fld_encVR 0x0A (by decide) ⟨vd, va, vb, 0, pr, 0, 0, false, false, 0, et⟩
  generalize encVR 0x0A ⟨vd, va, vb, 0, pr, 0, 0, false, false, 0, et⟩ = w at h ⊢
  obtain ⟨h1, h⟩ := h
  have hw : ¬ w = 0 := ne_zero_of_fld h1 (by decide)
  dsimp only at h
  unfold effV
  dsimp only
  rw [if_neg hw, h1]
  simp only [vIntOf, vCmpOf, SlotEff.guard, h, ofNat_toNat_self, toNat_eq_one, ofNat4_of6, high_of6, zero_beq_one, Nat.reduceLT, Nat.reduceEqDiff,
    Nat.reduceSub, if_true, if_false, beq_self_eq_true, Bool.and_self, BitVec.toNat_ofNat, Nat.zero_mod, BitVec.ofNat_eq_ofNat,
    Bool.toNat_false, Bool.not_false, Nat.reduceMul, Nat.reduceAdd, Nat.reduceDiv, Bool.and_true, Bool.true_and]

theorem effV_vor (vd va vb : BitVec 6) (pr : BitVec 4) (et : BitVec 2) (s : State) (k : Nat) :
    effV (encVR 0x0B ⟨vd, va, vb, 0, pr, 0, 0, false, false, 0, et⟩) s k = (vInt vOrE vd va vb pr et) s k := by
  have h := fld_encVR 0x0B (by decide) ⟨vd, va, vb, 0, pr, 0, 0, false, false, 0, et⟩
  generalize encVR 0x0B ⟨vd, va, vb, 0, pr, 0, 0, false, false, 0, et⟩ = w at h ⊢
  obtain ⟨h1, h⟩ := h
  have hw : ¬ w = 0 := ne_zero_of_fld h1 (by decide)
  dsimp only at h
  unfold effV
  dsimp only
  rw [if_neg hw, h1]
  simp only [vIntOf, vCmpOf, SlotEff.guard, h, ofNat_toNat_self, toNat_eq_one, ofNat4_of6, high_of6, zero_beq_one, Nat.reduceLT, Nat.reduceEqDiff,
    Nat.reduceSub, if_true, if_false, beq_self_eq_true, Bool.and_self, BitVec.toNat_ofNat, Nat.zero_mod, BitVec.ofNat_eq_ofNat,
    Bool.toNat_false, Bool.not_false, Nat.reduceMul, Nat.reduceAdd, Nat.reduceDiv, Bool.and_true, Bool.true_and]

theorem effV_vxor (vd va vb : BitVec 6) (pr : BitVec 4) (et : BitVec 2) (s : State) (k : Nat) :
    effV (encVR 0x0C ⟨vd, va, vb, 0, pr, 0, 0, false, false, 0, et⟩) s k = (vInt vXorE vd va vb pr et) s k := by
  have h := fld_encVR 0x0C (by decide) ⟨vd, va, vb, 0, pr, 0, 0, false, false, 0, et⟩
  generalize encVR 0x0C ⟨vd, va, vb, 0, pr, 0, 0, false, false, 0, et⟩ = w at h ⊢
  obtain ⟨h1, h⟩ := h
  have hw : ¬ w = 0 := ne_zero_of_fld h1 (by decide)
  dsimp only at h
  unfold effV
  dsimp only
  rw [if_neg hw, h1]
  simp only [vIntOf, vCmpOf, SlotEff.guard, h, ofNat_toNat_self, toNat_eq_one, ofNat4_of6, high_of6, zero_beq_one, Nat.reduceLT, Nat.reduceEqDiff,
    Nat.reduceSub, if_true, if_false, beq_self_eq_true, Bool.and_self, BitVec.toNat_ofNat, Nat.zero_mod, BitVec.ofNat_eq_ofNat,
    Bool.toNat_false, Bool.not_false, Nat.reduceMul, Nat.reduceAdd, Nat.reduceDiv, Bool.and_true, Bool.true_and]

theorem effV_vsll (vd va vb : BitVec 6) (pr : BitVec 4) (et : BitVec 2) (s : State) (k : Nat) :
    effV (encVR 0x0D ⟨vd, va, vb, 0, pr, 0, 0, false, false, 0, et⟩) s k = (vInt vSllE vd va vb pr et) s k := by
  have h := fld_encVR 0x0D (by decide) ⟨vd, va, vb, 0, pr, 0, 0, false, false, 0, et⟩
  generalize encVR 0x0D ⟨vd, va, vb, 0, pr, 0, 0, false, false, 0, et⟩ = w at h ⊢
  obtain ⟨h1, h⟩ := h
  have hw : ¬ w = 0 := ne_zero_of_fld h1 (by decide)
  dsimp only at h
  unfold effV
  dsimp only
  rw [if_neg hw, h1]
  simp only [vIntOf, vCmpOf, SlotEff.guard, h, ofNat_toNat_self, toNat_eq_one, ofNat4_of6, high_of6, zero_beq_one, Nat.reduceLT, Nat.reduceEqDiff,
    Nat.reduceSub, if_true, if_false, beq_self_eq_true, Bool.and_self, BitVec.toNat_ofNat, Nat.zero_mod, BitVec.ofNat_eq_ofNat,
    Bool.toNat_false, Bool.not_false, Nat.reduceMul, Nat.reduceAdd, Nat.reduceDiv, Bool.and_true, Bool.true_and]

theorem effV_vsrl (vd va vb : BitVec 6) (pr : BitVec 4) (et : BitVec 2) (s : State) (k : Nat) :
    effV (encVR 0x0E ⟨vd, va, vb, 0, pr, 0, 0, false, false, 0, et⟩) s k = (vInt vSrlE vd va vb pr et) s k := by
  have h := fld_encVR 0x0E (by decide) ⟨vd, va, vb, 0, pr, 0, 0, false, false, 0, et⟩
  generalize encVR 0x0E ⟨vd, va, vb, 0, pr, 0, 0, false, false, 0, et⟩ = w at h ⊢
  obtain ⟨h1, h⟩ := h
  have hw : ¬ w = 0 := ne_zero_of_fld h1 (by decide)
  dsimp only at h
  unfold effV
  dsimp only
  rw [if_neg hw, h1]
  simp only [vIntOf, vCmpOf, SlotEff.guard, h, ofNat_toNat_self, toNat_eq_one, ofNat4_of6, high_of6, zero_beq_one, Nat.reduceLT, Nat.reduceEqDiff,
    Nat.reduceSub, if_true, if_false, beq_self_eq_true, Bool.and_self, BitVec.toNat_ofNat, Nat.zero_mod, BitVec.ofNat_eq_ofNat,
    Bool.toNat_false, Bool.not_false, Nat.reduceMul, Nat.reduceAdd, Nat.reduceDiv, Bool.and_true, Bool.true_and]

theorem effV_vsra (vd va vb : BitVec 6) (pr : BitVec 4) (et : BitVec 2) (s : State) (k : Nat) :
    effV (encVR 0x0F ⟨vd, va, vb, 0, pr, 0, 0, false, false, 0, et⟩) s k = (vInt vSraE vd va vb pr et) s k := by
  have h := fld_encVR 0x0F (by decide) ⟨vd, va, vb, 0, pr, 0, 0, false, false, 0, et⟩
  generalize encVR 0x0F ⟨vd, va, vb, 0, pr, 0, 0, false, false, 0, et⟩ = w at h ⊢
  obtain ⟨h1, h⟩ := h
  have hw : ¬ w = 0 := ne_zero_of_fld h1 (by decide)
  dsimp only at h
  unfold effV
  dsimp only
  rw [if_neg hw, h1]
  simp only [vIntOf, vCmpOf, SlotEff.guard, h, ofNat_toNat_self, toNat_eq_one, ofNat4_of6, high_of6, zero_beq_one, Nat.reduceLT, Nat.reduceEqDiff,
    Nat.reduceSub, if_true, if_false, beq_self_eq_true, Bool.and_self, BitVec.toNat_ofNat, Nat.zero_mod, BitVec.ofNat_eq_ofNat,
    Bool.toNat_false, Bool.not_false, Nat.reduceMul, Nat.reduceAdd, Nat.reduceDiv, Bool.and_true, Bool.true_and]

theorem effV_vmin (vd va vb : BitVec 6) (pr : BitVec 4) (et : BitVec 2) (s : State) (k : Nat) :
    effV (encVR 0x10 ⟨vd, va, vb, 0, pr, 0, 0, false, false, 0, et⟩) s k = (vInt vMinE vd va vb pr et) s k := by
  have h := fld_encVR 0x10 (by decide) ⟨vd, va, vb, 0, pr, 0, 0, false, false, 0, et⟩
  generalize encVR 0x10 ⟨vd, va, vb, 0, pr, 0, 0, false, false, 0, et⟩ = w at h ⊢
  obtain ⟨h1, h⟩ := h
  have hw : ¬ w = 0 := ne_zero_of_fld h1 (by decide)
  dsimp only at h
  unfold effV
  dsimp only
  rw [if_neg hw, h1]
  simp only [vIntOf, vCmpOf, SlotEff.guard, h, ofNat_toNat_self, toNat_eq_one, ofNat4_of6, high_of6, zero_beq_one, Nat.reduceLT, Nat.reduceEqDiff,
    Nat.reduceSub, if_true, if_false, beq_self_eq_true, Bool.and_self, BitVec.toNat_ofNat, Nat.zero_mod, BitVec.ofNat_eq_ofNat,
    Bool.toNat_false, Bool.not_false, Nat.reduceMul, Nat.reduceAdd, Nat.reduceDiv, Bool.and_true, Bool.true_and]

theorem effV_vmax (vd va vb : BitVec 6) (pr : BitVec 4) (et : BitVec 2) (s : State) (k : Nat) :
    effV (encVR 0x11 ⟨vd, va, vb, 0, pr, 0, 0, false, false, 0, et⟩) s k = (vInt vMaxE vd va vb pr et) s k := by
  have h := fld_encVR 0x11 (by decide) ⟨vd, va, vb, 0, pr, 0, 0, false, false, 0, et⟩
  generalize encVR 0x11 ⟨vd, va, vb, 0, pr, 0, 0, false, false, 0, et⟩ = w at h ⊢
  obtain ⟨h1, h⟩ := h
  have hw : ¬ w = 0 := ne_zero_of_fld h1 (by decide)
  dsimp only at h
  unfold effV
  dsimp only
  rw [if_neg hw, h1]
  simp only [vIntOf, vCmpOf, SlotEff.guard, h, ofNat_toNat_self, toNat_eq_one, ofNat4_of6, high_of6, zero_beq_one, Nat.reduceLT, Nat.reduceEqDiff,
    Nat.reduceSub, if_true, if_false, beq_self_eq_true, Bool.and_self, BitVec.toNat_ofNat, Nat.zero_mod, BitVec.ofNat_eq_ofNat,
    Bool.toNat_false, Bool.not_false, Nat.reduceMul, Nat.reduceAdd, Nat.reduceDiv, Bool.and_true, Bool.true_and]

theorem effV_vsel (vd va vb : BitVec 6) (vc pr : BitVec 4) (s : State) (k : Nat) :
    effV (encVR 0x12 ⟨vd, va, vb, vc.zeroExtend 6, pr, 0, 0, false, false, 0, 0⟩) s k = (effVsel vd va vb vc pr) s k := by
  have h := fld_encVR 0x12 (by decide) ⟨vd, va, vb, vc.zeroExtend 6, pr, 0, 0, false, false, 0, 0⟩
  generalize encVR 0x12 ⟨vd, va, vb, vc.zeroExtend 6, pr, 0, 0, false, false, 0, 0⟩ = w at h ⊢
  obtain ⟨h1, h⟩ := h
  have hw : ¬ w = 0 := ne_zero_of_fld h1 (by decide)
  dsimp only at h
  unfold effV
  dsimp only
  rw [if_neg hw, h1]
  simp only [vIntOf, vCmpOf, SlotEff.guard, h, ofNat_toNat_self, toNat_eq_one, ofNat4_of6, high_of6, zero_beq_one, Nat.reduceLT, Nat.reduceEqDiff,
    Nat.reduceSub, if_true, if_false, beq_self_eq_true, Bool.and_self, BitVec.toNat_ofNat, Nat.zero_mod, BitVec.ofNat_eq_ofNat,
    Bool.toNat_false, Bool.not_false, Nat.reduceMul, Nat.reduceAdd, Nat.reduceDiv, Bool.and_true, Bool.true_and]

theorem effV_vmov (vd va : BitVec 6) (pr : BitVec 4) (s : State) (k : Nat) :
    effV (encVR 0x13 ⟨vd, va, 0, 0, pr, 0, 0, false, false, 0, 0⟩) s k = (effVmov vd va pr) s k := by
  have h := fld_encVR 0x13 (by decide) ⟨vd, va, 0, 0, pr, 0, 0, false, false, 0, 0⟩
  generalize encVR 0x13 ⟨vd, va, 0, 0, pr, 0, 0, false, false, 0, 0⟩ = w at h ⊢
  obtain ⟨h1, h⟩ := h
  have hw : ¬ w = 0 := ne_zero_of_fld h1 (by decide)
  dsimp only at h
  unfold effV
  dsimp only
  rw [if_neg hw, h1]
  simp only [vIntOf, vCmpOf, SlotEff.guard, h, ofNat_toNat_self, toNat_eq_one, ofNat4_of6, high_of6, zero_beq_one, Nat.reduceLT, Nat.reduceEqDiff,
    Nat.reduceSub, if_true, if_false, beq_self_eq_true, Bool.and_self, BitVec.toNat_ofNat, Nat.zero_mod, BitVec.ofNat_eq_ofNat,
    Bool.toNat_false, Bool.not_false, Nat.reduceMul, Nat.reduceAdd, Nat.reduceDiv, Bool.and_true, Bool.true_and]

theorem effV_vbcast (vd va : BitVec 6) (pr : BitVec 4) (s : State) (k : Nat) :
    effV (encVR 0x14 ⟨vd, va, 0, 0, pr, 0, 0, false, false, 0, 0⟩) s k = (effVbcast vd va pr) s k := by
  have h := fld_encVR 0x14 (by decide) ⟨vd, va, 0, 0, pr, 0, 0, false, false, 0, 0⟩
  generalize encVR 0x14 ⟨vd, va, 0, 0, pr, 0, 0, false, false, 0, 0⟩ = w at h ⊢
  obtain ⟨h1, h⟩ := h
  have hw : ¬ w = 0 := ne_zero_of_fld h1 (by decide)
  dsimp only at h
  unfold effV
  dsimp only
  rw [if_neg hw, h1]
  simp only [vIntOf, vCmpOf, SlotEff.guard, h, ofNat_toNat_self, toNat_eq_one, ofNat4_of6, high_of6, zero_beq_one, Nat.reduceLT, Nat.reduceEqDiff,
    Nat.reduceSub, if_true, if_false, beq_self_eq_true, Bool.and_self, BitVec.toNat_ofNat, Nat.zero_mod, BitVec.ofNat_eq_ofNat,
    Bool.toNat_false, Bool.not_false, Nat.reduceMul, Nat.reduceAdd, Nat.reduceDiv, Bool.and_true, Bool.true_and]

theorem effV_vfadd (vd va vb : BitVec 6) (pr : BitVec 4) (rnd : Bool) (s : State) (k : Nat) :
    effV (encVR 0x20 ⟨vd, va, vb, 0, pr, 0, 0, rnd, false, 0, 0⟩) s k = (vFp add32 vd va vb pr rnd) s k := by
  have h := fld_encVR 0x20 (by decide) ⟨vd, va, vb, 0, pr, 0, 0, rnd, false, 0, 0⟩
  generalize encVR 0x20 ⟨vd, va, vb, 0, pr, 0, 0, rnd, false, 0, 0⟩ = w at h ⊢
  obtain ⟨h1, h⟩ := h
  have hw : ¬ w = 0 := ne_zero_of_fld h1 (by decide)
  dsimp only at h
  unfold effV
  dsimp only
  rw [if_neg hw, h1]
  simp only [vIntOf, vCmpOf, SlotEff.guard, h, ofNat_toNat_self, toNat_eq_one, ofNat4_of6, high_of6, zero_beq_one, Nat.reduceLT, Nat.reduceEqDiff,
    Nat.reduceSub, if_true, if_false, beq_self_eq_true, Bool.and_self, BitVec.toNat_ofNat, Nat.zero_mod, BitVec.ofNat_eq_ofNat,
    Bool.toNat_false, Bool.not_false, Nat.reduceMul, Nat.reduceAdd, Nat.reduceDiv, Bool.and_true, Bool.true_and]

theorem effV_vfsub (vd va vb : BitVec 6) (pr : BitVec 4) (rnd : Bool) (s : State) (k : Nat) :
    effV (encVR 0x21 ⟨vd, va, vb, 0, pr, 0, 0, rnd, false, 0, 0⟩) s k = (vFp sub32 vd va vb pr rnd) s k := by
  have h := fld_encVR 0x21 (by decide) ⟨vd, va, vb, 0, pr, 0, 0, rnd, false, 0, 0⟩
  generalize encVR 0x21 ⟨vd, va, vb, 0, pr, 0, 0, rnd, false, 0, 0⟩ = w at h ⊢
  obtain ⟨h1, h⟩ := h
  have hw : ¬ w = 0 := ne_zero_of_fld h1 (by decide)
  dsimp only at h
  unfold effV
  dsimp only
  rw [if_neg hw, h1]
  simp only [vIntOf, vCmpOf, SlotEff.guard, h, ofNat_toNat_self, toNat_eq_one, ofNat4_of6, high_of6, zero_beq_one, Nat.reduceLT, Nat.reduceEqDiff,
    Nat.reduceSub, if_true, if_false, beq_self_eq_true, Bool.and_self, BitVec.toNat_ofNat, Nat.zero_mod, BitVec.ofNat_eq_ofNat,
    Bool.toNat_false, Bool.not_false, Nat.reduceMul, Nat.reduceAdd, Nat.reduceDiv, Bool.and_true, Bool.true_and]

theorem effV_vfmul (vd va vb : BitVec 6) (pr : BitVec 4) (rnd : Bool) (s : State) (k : Nat) :
    effV (encVR 0x22 ⟨vd, va, vb, 0, pr, 0, 0, rnd, false, 0, 0⟩) s k = (vFp mul32 vd va vb pr rnd) s k := by
  have h := fld_encVR 0x22 (by decide) ⟨vd, va, vb, 0, pr, 0, 0, rnd, false, 0, 0⟩
  generalize encVR 0x22 ⟨vd, va, vb, 0, pr, 0, 0, rnd, false, 0, 0⟩ = w at h ⊢
  obtain ⟨h1, h⟩ := h
  have hw : ¬ w = 0 := ne_zero_of_fld h1 (by decide)
  dsimp only at h
  unfold effV
  dsimp only
  rw [if_neg hw, h1]
  simp only [vIntOf, vCmpOf, SlotEff.guard, h, ofNat_toNat_self, toNat_eq_one, ofNat4_of6, high_of6, zero_beq_one, Nat.reduceLT, Nat.reduceEqDiff,
    Nat.reduceSub, if_true, if_false, beq_self_eq_true, Bool.and_self, BitVec.toNat_ofNat, Nat.zero_mod, BitVec.ofNat_eq_ofNat,
    Bool.toNat_false, Bool.not_false, Nat.reduceMul, Nat.reduceAdd, Nat.reduceDiv, Bool.and_true, Bool.true_and]

theorem effV_vfma (vd va vb vc : BitVec 6) (pr : BitVec 4) (rnd : Bool) (s : State) (k : Nat) :
    effV (encVR 0x23 ⟨vd, va, vb, vc, pr, 0, 0, rnd, false, 0, 0⟩) s k = (effVfma vd va vb vc pr rnd) s k := by
  have h := fld_encVR 0x23 (by decide) ⟨vd, va, vb, vc, pr, 0, 0, rnd, false, 0, 0⟩
  generalize encVR 0x23 ⟨vd, va, vb, vc, pr, 0, 0, rnd, false, 0, 0⟩ = w at h ⊢
  obtain ⟨h1, h⟩ := h
  have hw : ¬ w = 0 := ne_zero_of_fld h1 (by decide)
  dsimp only at h
  unfold effV
  dsimp only
  rw [if_neg hw, h1]
  simp only [vIntOf, vCmpOf, SlotEff.guard, h, ofNat_toNat_self, toNat_eq_one, ofNat4_of6, high_of6, zero_beq_one, Nat.reduceLT, Nat.reduceEqDiff,
    Nat.reduceSub, if_true, if_false, beq_self_eq_true, Bool.and_self, BitVec.toNat_ofNat, Nat.zero_mod, BitVec.ofNat_eq_ofNat,
    Bool.toNat_false, Bool.not_false, Nat.reduceMul, Nat.reduceAdd, Nat.reduceDiv, Bool.and_true, Bool.true_and]

theorem effV_vfmin (vd va vb : BitVec 6) (pr : BitVec 4) (s : State) (k : Nat) :
    effV (encVR 0x24 ⟨vd, va, vb, 0, pr, 0, 0, false, false, 0, 0⟩) s k = (vMinMax false vd va vb pr) s k := by
  have h := fld_encVR 0x24 (by decide) ⟨vd, va, vb, 0, pr, 0, 0, false, false, 0, 0⟩
  generalize encVR 0x24 ⟨vd, va, vb, 0, pr, 0, 0, false, false, 0, 0⟩ = w at h ⊢
  obtain ⟨h1, h⟩ := h
  have hw : ¬ w = 0 := ne_zero_of_fld h1 (by decide)
  dsimp only at h
  unfold effV
  dsimp only
  rw [if_neg hw, h1]
  simp only [vIntOf, vCmpOf, SlotEff.guard, h, ofNat_toNat_self, toNat_eq_one, ofNat4_of6, high_of6, zero_beq_one, Nat.reduceLT, Nat.reduceEqDiff,
    Nat.reduceSub, if_true, if_false, beq_self_eq_true, Bool.and_self, BitVec.toNat_ofNat, Nat.zero_mod, BitVec.ofNat_eq_ofNat,
    Bool.toNat_false, Bool.not_false, Nat.reduceMul, Nat.reduceAdd, Nat.reduceDiv, Bool.and_true, Bool.true_and]

theorem effV_vfmax (vd va vb : BitVec 6) (pr : BitVec 4) (s : State) (k : Nat) :
    effV (encVR 0x25 ⟨vd, va, vb, 0, pr, 0, 0, false, false, 0, 0⟩) s k = (vMinMax true vd va vb pr) s k := by
  have h := fld_encVR 0x25 (by decide) ⟨vd, va, vb, 0, pr, 0, 0, false, false, 0, 0⟩
  generalize encVR 0x25 ⟨vd, va, vb, 0, pr, 0, 0, false, false, 0, 0⟩ = w at h ⊢
  obtain ⟨h1, h⟩ := h
  have hw : ¬ w = 0 := ne_zero_of_fld h1 (by decide)
  dsimp only at h
  unfold effV
  dsimp only
  rw [if_neg hw, h1]
  simp only [vIntOf, vCmpOf, SlotEff.guard, h, ofNat_toNat_self, toNat_eq_one, ofNat4_of6, high_of6, zero_beq_one, Nat.reduceLT, Nat.reduceEqDiff,
    Nat.reduceSub, if_true, if_false, beq_self_eq_true, Bool.and_self, BitVec.toNat_ofNat, Nat.zero_mod, BitVec.ofNat_eq_ofNat,
    Bool.toNat_false, Bool.not_false, Nat.reduceMul, Nat.reduceAdd, Nat.reduceDiv, Bool.and_true, Bool.true_and]

theorem effV_vcmpeq (pd : BitVec 4) (va vb : BitVec 6) (s : State) (k : Nat) :
    effV (encVR 0x28 ⟨pd.zeroExtend 6, va, vb, 0, 0, 0, 0, false, false, 0, 0⟩) s k = (vCompare cmpEq pd va vb) s k := by
  have h := fld_encVR 0x28 (by decide) ⟨pd.zeroExtend 6, va, vb, 0, 0, 0, 0, false, false, 0, 0⟩
  generalize encVR 0x28 ⟨pd.zeroExtend 6, va, vb, 0, 0, 0, 0, false, false, 0, 0⟩ = w at h ⊢
  obtain ⟨h1, h⟩ := h
  have hw : ¬ w = 0 := ne_zero_of_fld h1 (by decide)
  dsimp only at h
  unfold effV
  dsimp only
  rw [if_neg hw, h1]
  simp only [vIntOf, vCmpOf, SlotEff.guard, h, ofNat_toNat_self, toNat_eq_one, ofNat4_of6, high_of6, zero_beq_one, Nat.reduceLT, Nat.reduceEqDiff,
    Nat.reduceSub, if_true, if_false, beq_self_eq_true, Bool.and_self, BitVec.toNat_ofNat, Nat.zero_mod, BitVec.ofNat_eq_ofNat,
    Bool.toNat_false, Bool.not_false, Nat.reduceMul, Nat.reduceAdd, Nat.reduceDiv, Bool.and_true, Bool.true_and]

theorem effV_vcmplt (pd : BitVec 4) (va vb : BitVec 6) (s : State) (k : Nat) :
    effV (encVR 0x29 ⟨pd.zeroExtend 6, va, vb, 0, 0, 0, 0, false, false, 0, 0⟩) s k = (vCompare cmpLt pd va vb) s k := by
  have h := fld_encVR 0x29 (by decide) ⟨pd.zeroExtend 6, va, vb, 0, 0, 0, 0, false, false, 0, 0⟩
  generalize encVR 0x29 ⟨pd.zeroExtend 6, va, vb, 0, 0, 0, 0, false, false, 0, 0⟩ = w at h ⊢
  obtain ⟨h1, h⟩ := h
  have hw : ¬ w = 0 := ne_zero_of_fld h1 (by decide)
  dsimp only at h
  unfold effV
  dsimp only
  rw [if_neg hw, h1]
  simp only [vIntOf, vCmpOf, SlotEff.guard, h, ofNat_toNat_self, toNat_eq_one, ofNat4_of6, high_of6, zero_beq_one, Nat.reduceLT, Nat.reduceEqDiff,
    Nat.reduceSub, if_true, if_false, beq_self_eq_true, Bool.and_self, BitVec.toNat_ofNat, Nat.zero_mod, BitVec.ofNat_eq_ofNat,
    Bool.toNat_false, Bool.not_false, Nat.reduceMul, Nat.reduceAdd, Nat.reduceDiv, Bool.and_true, Bool.true_and]

theorem effV_vcmple (pd : BitVec 4) (va vb : BitVec 6) (s : State) (k : Nat) :
    effV (encVR 0x2A ⟨pd.zeroExtend 6, va, vb, 0, 0, 0, 0, false, false, 0, 0⟩) s k = (vCompare cmpLe pd va vb) s k := by
  have h := fld_encVR 0x2A (by decide) ⟨pd.zeroExtend 6, va, vb, 0, 0, 0, 0, false, false, 0, 0⟩
  generalize encVR 0x2A ⟨pd.zeroExtend 6, va, vb, 0, 0, 0, 0, false, false, 0, 0⟩ = w at h ⊢
  obtain ⟨h1, h⟩ := h
  have hw : ¬ w = 0 := ne_zero_of_fld h1 (by decide)
  dsimp only at h
  unfold effV
  dsimp only
  rw [if_neg hw, h1]
  simp only [vIntOf, vCmpOf, SlotEff.guard, h, ofNat_toNat_self, toNat_eq_one, ofNat4_of6, high_of6, zero_beq_one, Nat.reduceLT, Nat.reduceEqDiff,
    Nat.reduceSub, if_true, if_false, beq_self_eq_true, Bool.and_self, BitVec.toNat_ofNat, Nat.zero_mod, BitVec.ofNat_eq_ofNat,
    Bool.toNat_false, Bool.not_false, Nat.reduceMul, Nat.reduceAdd, Nat.reduceDiv, Bool.and_true, Bool.true_and]

theorem effV_vfcmpeq (pd : BitVec 4) (va vb : BitVec 6) (s : State) (k : Nat) :
    effV (encVR 0x2B ⟨pd.zeroExtend 6, va, vb, 0, 0, 0, 0, false, false, 0, 0⟩) s k = (vCompare fcmpEq pd va vb) s k := by
  have h := fld_encVR 0x2B (by decide) ⟨pd.zeroExtend 6, va, vb, 0, 0, 0, 0, false, false, 0, 0⟩
  generalize encVR 0x2B ⟨pd.zeroExtend 6, va, vb, 0, 0, 0, 0, false, false, 0, 0⟩ = w at h ⊢
  obtain ⟨h1, h⟩ := h
  have hw : ¬ w = 0 := ne_zero_of_fld h1 (by decide)
  dsimp only at h
  unfold effV
  dsimp only
  rw [if_neg hw, h1]
  simp only [vIntOf, vCmpOf, SlotEff.guard, h, ofNat_toNat_self, toNat_eq_one, ofNat4_of6, high_of6, zero_beq_one, Nat.reduceLT, Nat.reduceEqDiff,
    Nat.reduceSub, if_true, if_false, beq_self_eq_true, Bool.and_self, BitVec.toNat_ofNat, Nat.zero_mod, BitVec.ofNat_eq_ofNat,
    Bool.toNat_false, Bool.not_false, Nat.reduceMul, Nat.reduceAdd, Nat.reduceDiv, Bool.and_true, Bool.true_and]

theorem effV_vfcmplt (pd : BitVec 4) (va vb : BitVec 6) (s : State) (k : Nat) :
    effV (encVR 0x2C ⟨pd.zeroExtend 6, va, vb, 0, 0, 0, 0, false, false, 0, 0⟩) s k = (vCompare fcmpLt pd va vb) s k := by
  have h := fld_encVR 0x2C (by decide) ⟨pd.zeroExtend 6, va, vb, 0, 0, 0, 0, false, false, 0, 0⟩
  generalize encVR 0x2C ⟨pd.zeroExtend 6, va, vb, 0, 0, 0, 0, false, false, 0, 0⟩ = w at h ⊢
  obtain ⟨h1, h⟩ := h
  have hw : ¬ w = 0 := ne_zero_of_fld h1 (by decide)
  dsimp only at h
  unfold effV
  dsimp only
  rw [if_neg hw, h1]
  simp only [vIntOf, vCmpOf, SlotEff.guard, h, ofNat_toNat_self, toNat_eq_one, ofNat4_of6, high_of6, zero_beq_one, Nat.reduceLT, Nat.reduceEqDiff,
    Nat.reduceSub, if_true, if_false, beq_self_eq_true, Bool.and_self, BitVec.toNat_ofNat, Nat.zero_mod, BitVec.ofNat_eq_ofNat,
    Bool.toNat_false, Bool.not_false, Nat.reduceMul, Nat.reduceAdd, Nat.reduceDiv, Bool.and_true, Bool.true_and]

theorem effV_vfcmple (pd : BitVec 4) (va vb : BitVec 6) (s : State) (k : Nat) :
    effV (encVR 0x2D ⟨pd.zeroExtend 6, va, vb, 0, 0, 0, 0, false, false, 0, 0⟩) s k = (vCompare fcmpLe pd va vb) s k := by
  have h := fld_encVR 0x2D (by decide) ⟨pd.zeroExtend 6, va, vb, 0, 0, 0, 0, false, false, 0, 0⟩
  generalize encVR 0x2D ⟨pd.zeroExtend 6, va, vb, 0, 0, 0, 0, false, false, 0, 0⟩ = w at h ⊢
  obtain ⟨h1, h⟩ := h
  have hw : ¬ w = 0 := ne_zero_of_fld h1 (by decide)
  dsimp only at h
  unfold effV
  dsimp only
  rw [if_neg hw, h1]
  simp only [vIntOf, vCmpOf, SlotEff.guard, h, ofNat_toNat_self, toNat_eq_one, ofNat4_of6, high_of6, zero_beq_one, Nat.reduceLT, Nat.reduceEqDiff,
    Nat.reduceSub, if_true, if_false, beq_self_eq_true, Bool.and_self, BitVec.toNat_ofNat, Nat.zero_mod, BitVec.ofNat_eq_ofNat,
    Bool.toNat_false, Bool.not_false, Nat.reduceMul, Nat.reduceAdd, Nat.reduceDiv, Bool.and_true, Bool.true_and]

theorem effV_pand (pd pa pb : BitVec 4) (s : State) (k : Nat) :
    effV (encVR 0x30 ⟨pd.zeroExtend 6, pa.zeroExtend 6, pb.zeroExtend 6, 0, 0, 0, 0, false, false, 0, 0⟩) s k = (pLogic (· &&& ·) pd pa pb) s k := by
  have h := fld_encVR 0x30 (by decide) ⟨pd.zeroExtend 6, pa.zeroExtend 6, pb.zeroExtend 6, 0, 0, 0, 0, false, false, 0, 0⟩
  generalize encVR 0x30 ⟨pd.zeroExtend 6, pa.zeroExtend 6, pb.zeroExtend 6, 0, 0, 0, 0, false, false, 0, 0⟩ = w at h ⊢
  obtain ⟨h1, h⟩ := h
  have hw : ¬ w = 0 := ne_zero_of_fld h1 (by decide)
  dsimp only at h
  unfold effV
  dsimp only
  rw [if_neg hw, h1]
  simp only [vIntOf, vCmpOf, SlotEff.guard, h, ofNat_toNat_self, toNat_eq_one, ofNat4_of6, high_of6, zero_beq_one, Nat.reduceLT, Nat.reduceEqDiff,
    Nat.reduceSub, if_true, if_false, beq_self_eq_true, Bool.and_self, BitVec.toNat_ofNat, Nat.zero_mod, BitVec.ofNat_eq_ofNat,
    Bool.toNat_false, Bool.not_false, Nat.reduceMul, Nat.reduceAdd, Nat.reduceDiv, Bool.and_true, Bool.true_and]

theorem effV_por (pd pa pb : BitVec 4) (s : State) (k : Nat) :
    effV (encVR 0x31 ⟨pd.zeroExtend 6, pa.zeroExtend 6, pb.zeroExtend 6, 0, 0, 0, 0, false, false, 0, 0⟩) s k = (pLogic (· ||| ·) pd pa pb) s k := by
  have h := fld_encVR 0x31 (by decide) ⟨pd.zeroExtend 6, pa.zeroExtend 6, pb.zeroExtend 6, 0, 0, 0, 0, false, false, 0, 0⟩
  generalize encVR 0x31 ⟨pd.zeroExtend 6, pa.zeroExtend 6, pb.zeroExtend 6, 0, 0, 0, 0, false, false, 0, 0⟩ = w at h ⊢
  obtain ⟨h1, h⟩ := h
  have hw : ¬ w = 0 := ne_zero_of_fld h1 (by decide)
  dsimp only at h
  unfold effV
  dsimp only
  rw [if_neg hw, h1]
  simp only [vIntOf, vCmpOf, SlotEff.guard, h, ofNat_toNat_self, toNat_eq_one, ofNat4_of6, high_of6, zero_beq_one, Nat.reduceLT, Nat.reduceEqDiff,
    Nat.reduceSub, if_true, if_false, beq_self_eq_true, Bool.and_self, BitVec.toNat_ofNat, Nat.zero_mod, BitVec.ofNat_eq_ofNat,
    Bool.toNat_false, Bool.not_false, Nat.reduceMul, Nat.reduceAdd, Nat.reduceDiv, Bool.and_true, Bool.true_and]

theorem effV_pxor (pd pa pb : BitVec 4) (s : State) (k : Nat) :
    effV (encVR 0x32 ⟨pd.zeroExtend 6, pa.zeroExtend 6, pb.zeroExtend 6, 0, 0, 0, 0, false, false, 0, 0⟩) s k = (pLogic (· ^^^ ·) pd pa pb) s k := by
  have h := fld_encVR 0x32 (by decide) ⟨pd.zeroExtend 6, pa.zeroExtend 6, pb.zeroExtend 6, 0, 0, 0, 0, false, false, 0, 0⟩
  generalize encVR 0x32 ⟨pd.zeroExtend 6, pa.zeroExtend 6, pb.zeroExtend 6, 0, 0, 0, 0, false, false, 0, 0⟩ = w at h ⊢
  obtain ⟨h1, h⟩ := h
  have hw : ¬ w = 0 := ne_zero_of_fld h1 (by decide)
  dsimp only at h
  unfold effV
  dsimp only
  rw [if_neg hw, h1]
  simp only [vIntOf, vCmpOf, SlotEff.guard, h, ofNat_toNat_self, toNat_eq_one, ofNat4_of6, high_of6, zero_beq_one, Nat.reduceLT, Nat.reduceEqDiff,
    Nat.reduceSub, if_true, if_false, beq_self_eq_true, Bool.and_self, BitVec.toNat_ofNat, Nat.zero_mod, BitVec.ofNat_eq_ofNat,
    Bool.toNat_false, Bool.not_false, Nat.reduceMul, Nat.reduceAdd, Nat.reduceDiv, Bool.and_true, Bool.true_and]

theorem effV_pnot (pd pa : BitVec 4) (s : State) (k : Nat) :
    effV (encVR 0x33 ⟨pd.zeroExtend 6, pa.zeroExtend 6, 0, 0, 0, 0, 0, false, false, 0, 0⟩) s k = (effPnot pd pa) s k := by
  have h := fld_encVR 0x33 (by decide) ⟨pd.zeroExtend 6, pa.zeroExtend 6, 0, 0, 0, 0, 0, false, false, 0, 0⟩
  generalize encVR 0x33 ⟨pd.zeroExtend 6, pa.zeroExtend 6, 0, 0, 0, 0, 0, false, false, 0, 0⟩ = w at h ⊢
  obtain ⟨h1, h⟩ := h
  have hw : ¬ w = 0 := ne_zero_of_fld h1 (by decide)
  dsimp only at h
  unfold effV
  dsimp only
  rw [if_neg hw, h1]
  simp only [vIntOf, vCmpOf, SlotEff.guard, h, ofNat_toNat_self, toNat_eq_one, ofNat4_of6, high_of6, zero_beq_one, Nat.reduceLT, Nat.reduceEqDiff,
    Nat.reduceSub, if_true, if_false, beq_self_eq_true, Bool.and_self, BitVec.toNat_ofNat, Nat.zero_mod, BitVec.ofNat_eq_ofNat,
    Bool.toNat_false, Bool.not_false, Nat.reduceMul, Nat.reduceAdd, Nat.reduceDiv, Bool.and_true, Bool.true_and]

theorem effV_vcvt (vd va vb vc : BitVec 6) (pr : BitVec 4) (fd fs : BitVec 5) (rnd ovf : Bool) (part : BitVec 2) (s : State) (k : Nat) :
    effV (encVR 0x38 ⟨vd, va, vb, vc, pr, fd, fs, rnd, ovf, part, 0⟩) s k = (effVcvt vd va vb vc pr fd fs rnd ovf part) s k := by
  have h := fld_encVR 0x38 (by decide) ⟨vd, va, vb, vc, pr, fd, fs, rnd, ovf, part, 0⟩
  generalize encVR 0x38 ⟨vd, va, vb, vc, pr, fd, fs, rnd, ovf, part, 0⟩ = w at h ⊢
  obtain ⟨h1, h⟩ := h
  have hw : ¬ w = 0 := ne_zero_of_fld h1 (by decide)
  dsimp only at h
  unfold effV
  dsimp only
  rw [if_neg hw, h1]
  simp only [vIntOf, vCmpOf, SlotEff.guard, h, ofNat_toNat_self, toNat_eq_one, ofNat4_of6, high_of6, zero_beq_one, Nat.reduceLT, Nat.reduceEqDiff,
    Nat.reduceSub, if_true, if_false, beq_self_eq_true, Bool.and_self, BitVec.toNat_ofNat, Nat.zero_mod, BitVec.ofNat_eq_ofNat,
    Bool.toNat_false, Bool.not_false, Nat.reduceMul, Nat.reduceAdd, Nat.reduceDiv, Bool.and_true, Bool.true_and]

theorem effV_vexp2 (vd va : BitVec 6) (pr : BitVec 4) (s : State) (k : Nat) :
    effV (encVR 0x40 ⟨vd, va, 0, 0, pr, 0, 0, false, false, 0, 0⟩) s k = (vExp exp2_32 vd va pr) s k := by
  have h := fld_encVR 0x40 (by decide) ⟨vd, va, 0, 0, pr, 0, 0, false, false, 0, 0⟩
  generalize encVR 0x40 ⟨vd, va, 0, 0, pr, 0, 0, false, false, 0, 0⟩ = w at h ⊢
  obtain ⟨h1, h⟩ := h
  have hw : ¬ w = 0 := ne_zero_of_fld h1 (by decide)
  dsimp only at h
  unfold effV
  dsimp only
  rw [if_neg hw, h1]
  simp only [vIntOf, vCmpOf, SlotEff.guard, h, ofNat_toNat_self, toNat_eq_one, ofNat4_of6, high_of6, zero_beq_one, Nat.reduceLT, Nat.reduceEqDiff,
    Nat.reduceSub, if_true, if_false, beq_self_eq_true, Bool.and_self, BitVec.toNat_ofNat, Nat.zero_mod, BitVec.ofNat_eq_ofNat,
    Bool.toNat_false, Bool.not_false, Nat.reduceMul, Nat.reduceAdd, Nat.reduceDiv, Bool.and_true, Bool.true_and]

theorem effV_vrcp (vd va : BitVec 6) (pr : BitVec 4) (s : State) (k : Nat) :
    effV (encVR 0x41 ⟨vd, va, 0, 0, pr, 0, 0, false, false, 0, 0⟩) s k = (vExp rcp32 vd va pr) s k := by
  have h := fld_encVR 0x41 (by decide) ⟨vd, va, 0, 0, pr, 0, 0, false, false, 0, 0⟩
  generalize encVR 0x41 ⟨vd, va, 0, 0, pr, 0, 0, false, false, 0, 0⟩ = w at h ⊢
  obtain ⟨h1, h⟩ := h
  have hw : ¬ w = 0 := ne_zero_of_fld h1 (by decide)
  dsimp only at h
  unfold effV
  dsimp only
  rw [if_neg hw, h1]
  simp only [vIntOf, vCmpOf, SlotEff.guard, h, ofNat_toNat_self, toNat_eq_one, ofNat4_of6, high_of6, zero_beq_one, Nat.reduceLT, Nat.reduceEqDiff,
    Nat.reduceSub, if_true, if_false, beq_self_eq_true, Bool.and_self, BitVec.toNat_ofNat, Nat.zero_mod, BitVec.ofNat_eq_ofNat,
    Bool.toNat_false, Bool.not_false, Nat.reduceMul, Nat.reduceAdd, Nat.reduceDiv, Bool.and_true, Bool.true_and]

theorem effV_vrsqrt (vd va : BitVec 6) (pr : BitVec 4) (s : State) (k : Nat) :
    effV (encVR 0x42 ⟨vd, va, 0, 0, pr, 0, 0, false, false, 0, 0⟩) s k = (vExp rsqrt32 vd va pr) s k := by
  have h := fld_encVR 0x42 (by decide) ⟨vd, va, 0, 0, pr, 0, 0, false, false, 0, 0⟩
  generalize encVR 0x42 ⟨vd, va, 0, 0, pr, 0, 0, false, false, 0, 0⟩ = w at h ⊢
  obtain ⟨h1, h⟩ := h
  have hw : ¬ w = 0 := ne_zero_of_fld h1 (by decide)
  dsimp only at h
  unfold effV
  dsimp only
  rw [if_neg hw, h1]
  simp only [vIntOf, vCmpOf, SlotEff.guard, h, ofNat_toNat_self, toNat_eq_one, ofNat4_of6, high_of6, zero_beq_one, Nat.reduceLT, Nat.reduceEqDiff,
    Nat.reduceSub, if_true, if_false, beq_self_eq_true, Bool.and_self, BitVec.toNat_ofNat, Nat.zero_mod, BitVec.ofNat_eq_ofNat,
    Bool.toNat_false, Bool.not_false, Nat.reduceMul, Nat.reduceAdd, Nat.reduceDiv, Bool.and_true, Bool.true_and]

theorem effV_vredsum (vd va : BitVec 6) (pr : BitVec 4) (rnd : Bool) (s : State) (k : Nat) :
    effV (encVR 0x48 ⟨vd, va, 0, 0, pr, 0, 0, rnd, false, 0, 0⟩) s k = (effVredsum vd va pr rnd) s k := by
  have h := fld_encVR 0x48 (by decide) ⟨vd, va, 0, 0, pr, 0, 0, rnd, false, 0, 0⟩
  generalize encVR 0x48 ⟨vd, va, 0, 0, pr, 0, 0, rnd, false, 0, 0⟩ = w at h ⊢
  obtain ⟨h1, h⟩ := h
  have hw : ¬ w = 0 := ne_zero_of_fld h1 (by decide)
  dsimp only at h
  unfold effV
  dsimp only
  rw [if_neg hw, h1]
  simp only [vIntOf, vCmpOf, SlotEff.guard, h, ofNat_toNat_self, toNat_eq_one, ofNat4_of6, high_of6, zero_beq_one, Nat.reduceLT, Nat.reduceEqDiff,
    Nat.reduceSub, if_true, if_false, beq_self_eq_true, Bool.and_self, BitVec.toNat_ofNat, Nat.zero_mod, BitVec.ofNat_eq_ofNat,
    Bool.toNat_false, Bool.not_false, Nat.reduceMul, Nat.reduceAdd, Nat.reduceDiv, Bool.and_true, Bool.true_and]

theorem effV_vredmax (vd va : BitVec 6) (pr : BitVec 4) (s : State) (k : Nat) :
    effV (encVR 0x49 ⟨vd, va, 0, 0, pr, 0, 0, false, false, 0, 0⟩) s k = (effVredmax vd va pr) s k := by
  have h := fld_encVR 0x49 (by decide) ⟨vd, va, 0, 0, pr, 0, 0, false, false, 0, 0⟩
  generalize encVR 0x49 ⟨vd, va, 0, 0, pr, 0, 0, false, false, 0, 0⟩ = w at h ⊢
  obtain ⟨h1, h⟩ := h
  have hw : ¬ w = 0 := ne_zero_of_fld h1 (by decide)
  dsimp only at h
  unfold effV
  dsimp only
  rw [if_neg hw, h1]
  simp only [vIntOf, vCmpOf, SlotEff.guard, h, ofNat_toNat_self, toNat_eq_one, ofNat4_of6, high_of6, zero_beq_one, Nat.reduceLT, Nat.reduceEqDiff,
    Nat.reduceSub, if_true, if_false, beq_self_eq_true, Bool.and_self, BitVec.toNat_ofNat, Nat.zero_mod, BitVec.ofNat_eq_ofNat,
    Bool.toNat_false, Bool.not_false, Nat.reduceMul, Nat.reduceAdd, Nat.reduceDiv, Bool.and_true, Bool.true_and]

theorem effV_vperm (vd va vb : BitVec 6) (pr : BitVec 4) (s : State) (k : Nat) :
    effV (encVR 0x4A ⟨vd, va, vb, 0, pr, 0, 0, false, false, 0, 0⟩) s k = (effVperm vd va vb pr) s k := by
  have h := fld_encVR 0x4A (by decide) ⟨vd, va, vb, 0, pr, 0, 0, false, false, 0, 0⟩
  generalize encVR 0x4A ⟨vd, va, vb, 0, pr, 0, 0, false, false, 0, 0⟩ = w at h ⊢
  obtain ⟨h1, h⟩ := h
  have hw : ¬ w = 0 := ne_zero_of_fld h1 (by decide)
  dsimp only at h
  unfold effV
  dsimp only
  rw [if_neg hw, h1]
  simp only [vIntOf, vCmpOf, SlotEff.guard, h, ofNat_toNat_self, toNat_eq_one, ofNat4_of6, high_of6, zero_beq_one, Nat.reduceLT, Nat.reduceEqDiff,
    Nat.reduceSub, if_true, if_false, beq_self_eq_true, Bool.and_self, BitVec.toNat_ofNat, Nat.zero_mod, BitVec.ofNat_eq_ofNat,
    Bool.toNat_false, Bool.not_false, Nat.reduceMul, Nat.reduceAdd, Nat.reduceDiv, Bool.and_true, Bool.true_and]

theorem effV_vtrd (vd ra : BitVec 6) (ts : BitVec 5) (half : Bool) (row : BitVec 8) (s : State) (k : Nat) :
    effV (encVT 0x50 vd ra ts half row) s k = (effVtrd vd ra ts half row) s k := by
  have h := fld_encVT 0x50 (by decide) vd ra ts half row
  generalize encVT 0x50 vd ra ts half row = w at h ⊢
  obtain ⟨h1, h⟩ := h
  have hw : ¬ w = 0 := ne_zero_of_fld h1 (by decide)
  unfold effV
  dsimp only
  rw [if_neg hw, h1]
  simp only [vIntOf, vCmpOf, SlotEff.guard, h, ofNat_toNat_self, toNat_eq_one, ofNat4_of6, high_of6, zero_beq_one, Nat.reduceLT, Nat.reduceEqDiff,
    Nat.reduceSub, if_true, if_false, beq_self_eq_true, Bool.and_self, BitVec.toNat_ofNat, Nat.zero_mod, BitVec.ofNat_eq_ofNat,
    Bool.toNat_false, Bool.not_false, Nat.reduceMul, Nat.reduceAdd, Nat.reduceDiv, Bool.and_true, Bool.true_and]

theorem effV_vld (vd ra : BitVec 6) (pr : BitVec 4) (imm : BitVec 18) (s : State) (k : Nat) :
    effV (encVM 0x58 vd ra pr imm) s k = (effVld vd ra pr imm) s k := by
  have h := fld_encVM 0x58 (by decide) vd ra pr imm
  generalize encVM 0x58 vd ra pr imm = w at h ⊢
  obtain ⟨h1, h⟩ := h
  have hw : ¬ w = 0 := ne_zero_of_fld h1 (by decide)
  unfold effV
  dsimp only
  rw [if_neg hw, h1]
  simp only [vIntOf, vCmpOf, SlotEff.guard, h, ofNat_toNat_self, toNat_eq_one, ofNat4_of6, high_of6, zero_beq_one, Nat.reduceLT, Nat.reduceEqDiff,
    Nat.reduceSub, if_true, if_false, beq_self_eq_true, Bool.and_self, BitVec.toNat_ofNat, Nat.zero_mod, BitVec.ofNat_eq_ofNat,
    Bool.toNat_false, Bool.not_false, Nat.reduceMul, Nat.reduceAdd, Nat.reduceDiv, Bool.and_true, Bool.true_and]

theorem effV_vst (vd ra : BitVec 6) (pr : BitVec 4) (imm : BitVec 18) (s : State) (k : Nat) :
    effV (encVM 0x59 vd ra pr imm) s k = (effVst vd ra pr imm) s k := by
  have h := fld_encVM 0x59 (by decide) vd ra pr imm
  generalize encVM 0x59 vd ra pr imm = w at h ⊢
  obtain ⟨h1, h⟩ := h
  have hw : ¬ w = 0 := ne_zero_of_fld h1 (by decide)
  unfold effV
  dsimp only
  rw [if_neg hw, h1]
  simp only [vIntOf, vCmpOf, SlotEff.guard, h, ofNat_toNat_self, toNat_eq_one, ofNat4_of6, high_of6, zero_beq_one, Nat.reduceLT, Nat.reduceEqDiff,
    Nat.reduceSub, if_true, if_false, beq_self_eq_true, Bool.and_self, BitVec.toNat_ofNat, Nat.zero_mod, BitVec.ofNat_eq_ofNat,
    Bool.toNat_false, Bool.not_false, Nat.reduceMul, Nat.reduceAdd, Nat.reduceDiv, Bool.and_true, Bool.true_and]

theorem effM_tinit (td : BitVec 5) (tag : Bool) (s : State) (k : Nat) :
    effM (encMI 0x08 td tag) s k = (fun _ _ => effTinit td tag) s k := by
  have h := fld_encMI 0x08 (by decide) td tag
  generalize encMI 0x08 td tag = w at h ⊢
  obtain ⟨h1, h⟩ := h
  have hw : ¬ w = 0 := ne_zero_of_fld h1 (by decide)
  unfold effM
  dsimp only
  rw [if_neg hw, h1]
  simp only [SlotEff.guard, h, ofNat_toNat_self, toNat_eq_one, ofNat4_of6, high_of6, zero_beq_one, Nat.reduceLT, Nat.reduceEqDiff,
    Nat.reduceSub, if_true, if_false, beq_self_eq_true, Bool.and_self, BitVec.toNat_ofNat, Nat.zero_mod, BitVec.ofNat_eq_ofNat,
    Bool.toNat_false, Bool.not_false, Nat.reduceMul, Nat.reduceAdd, Nat.reduceDiv, Bool.and_true, Bool.true_and]

theorem effM_mma (td : BitVec 5) (ra rb : BitVec 6) (fa fb : BitVec 5) (spa : Bool) (s : State) (k : Nat) :
    effM (encMM 0x10 td ra rb fa fb spa) s k = (effMma td ra rb fa fb spa) s k := by
  have h := fld_encMM 0x10 (by decide) td ra rb fa fb spa
  generalize encMM 0x10 td ra rb fa fb spa = w at h ⊢
  obtain ⟨h1, h⟩ := h
  have hw : ¬ w = 0 := ne_zero_of_fld h1 (by decide)
  unfold effM
  dsimp only
  rw [if_neg hw, h1]
  simp only [SlotEff.guard, h, ofNat_toNat_self, toNat_eq_one, ofNat4_of6, high_of6, zero_beq_one, Nat.reduceLT, Nat.reduceEqDiff,
    Nat.reduceSub, if_true, if_false, beq_self_eq_true, Bool.and_self, BitVec.toNat_ofNat, Nat.zero_mod, BitVec.ofNat_eq_ofNat,
    Bool.toNat_false, Bool.not_false, Nat.reduceMul, Nat.reduceAdd, Nat.reduceDiv, Bool.and_true, Bool.true_and]

theorem effM_twr (ts : BitVec 5) (ra : BitVec 6) (fd : BitVec 5) (rnd ovf : Bool) (s : State) (k : Nat) :
    effM (encMW 0x18 ts ra fd rnd ovf) s k = (effTwr ts ra fd rnd ovf) s k := by
  have h := fld_encMW 0x18 (by decide) ts ra fd rnd ovf
  generalize encMW 0x18 ts ra fd rnd ovf = w at h ⊢
  obtain ⟨h1, h⟩ := h
  have hw : ¬ w = 0 := ne_zero_of_fld h1 (by decide)
  unfold effM
  dsimp only
  rw [if_neg hw, h1]
  simp only [SlotEff.guard, h, ofNat_toNat_self, toNat_eq_one, ofNat4_of6, high_of6, zero_beq_one, Nat.reduceLT, Nat.reduceEqDiff,
    Nat.reduceSub, if_true, if_false, beq_self_eq_true, Bool.and_self, BitVec.toNat_ofNat, Nat.zero_mod, BitVec.ofNat_eq_ofNat,
    Bool.toNat_false, Bool.not_false, Nat.reduceMul, Nat.reduceAdd, Nat.reduceDiv, Bool.and_true, Bool.true_and]

theorem effX_cadd (rb : BitVec 6) (cn : BitVec 12) (imm : BitVec 16) (s : State) (k : Nat) :
    effX (encXC 0x08 0 0 rb cn false false imm) s k = (effCadd rb cn imm) s k := by
  have h := fld_encXC 0x08 (by decide) 0 0 rb cn false false imm
  generalize encXC 0x08 0 0 rb cn false false imm = w at h ⊢
  obtain ⟨h1, h⟩ := h
  have hw : ¬ w = 0 := ne_zero_of_fld h1 (by decide)
  unfold effX
  dsimp only
  rw [if_neg hw, h1]
  simp only [SlotEff.guard, h, ofNat_toNat_self, toNat_eq_one, ofNat4_of6, high_of6, zero_beq_one, Nat.reduceLT, Nat.reduceEqDiff,
    Nat.reduceSub, if_true, if_false, beq_self_eq_true, Bool.and_self, BitVec.toNat_ofNat, Nat.zero_mod, BitVec.ofNat_eq_ofNat,
    Bool.toNat_false, Bool.not_false, Nat.reduceMul, Nat.reduceAdd, Nat.reduceDiv, Bool.and_true, Bool.true_and]

theorem effX_cread (rd : BitVec 6) (cn : BitVec 12) (s : State) (k : Nat) :
    effX (encXC 0x09 rd 0 0 cn false false 0) s k = (effCread rd cn) s k := by
  have h := fld_encXC 0x09 (by decide) rd 0 0 cn false false 0
  generalize encXC 0x09 rd 0 0 cn false false 0 = w at h ⊢
  obtain ⟨h1, h⟩ := h
  have hw : ¬ w = 0 := ne_zero_of_fld h1 (by decide)
  unfold effX
  dsimp only
  rw [if_neg hw, h1]
  simp only [SlotEff.guard, h, ofNat_toNat_self, toNat_eq_one, ofNat4_of6, high_of6, zero_beq_one, Nat.reduceLT, Nat.reduceEqDiff,
    Nat.reduceSub, if_true, if_false, beq_self_eq_true, Bool.and_self, BitVec.toNat_ofNat, Nat.zero_mod, BitVec.ofNat_eq_ofNat,
    Bool.toNat_false, Bool.not_false, Nat.reduceMul, Nat.reduceAdd, Nat.reduceDiv, Bool.and_true, Bool.true_and]

theorem effX_cwait (rb : BitVec 6) (cn : BitVec 12) (cons : Bool) (imm : BitVec 16) (s : State) (k : Nat) :
    effX (encXC 0x0A 0 0 rb cn cons false imm) s k = (effCwait rb cn cons imm) s k := by
  have h := fld_encXC 0x0A (by decide) 0 0 rb cn cons false imm
  generalize encXC 0x0A 0 0 rb cn cons false imm = w at h ⊢
  obtain ⟨h1, h⟩ := h
  have hw : ¬ w = 0 := ne_zero_of_fld h1 (by decide)
  unfold effX
  dsimp only
  rw [if_neg hw, h1]
  simp only [SlotEff.guard, h, ofNat_toNat_self, toNat_eq_one, ofNat4_of6, high_of6, zero_beq_one, Nat.reduceLT, Nat.reduceEqDiff,
    Nat.reduceSub, if_true, if_false, beq_self_eq_true, Bool.and_self, BitVec.toNat_ofNat, Nat.zero_mod, BitVec.ofNat_eq_ofNat,
    Bool.toNat_false, Bool.not_false, Nat.reduceMul, Nat.reduceAdd, Nat.reduceDiv, Bool.and_true, Bool.true_and]

theorem effX_cset (rb : BitVec 6) (cn : BitVec 12) (imm : BitVec 16) (s : State) (k : Nat) :
    effX (encXC 0x0B 0 0 rb cn false false imm) s k = (effCset rb cn imm) s k := by
  have h := fld_encXC 0x0B (by decide) 0 0 rb cn false false imm
  generalize encXC 0x0B 0 0 rb cn false false imm = w at h ⊢
  obtain ⟨h1, h⟩ := h
  have hw : ¬ w = 0 := ne_zero_of_fld h1 (by decide)
  unfold effX
  dsimp only
  rw [if_neg hw, h1]
  simp only [SlotEff.guard, h, ofNat_toNat_self, toNat_eq_one, ofNat4_of6, high_of6, zero_beq_one, Nat.reduceLT, Nat.reduceEqDiff,
    Nat.reduceSub, if_true, if_false, beq_self_eq_true, Bool.and_self, BitVec.toNat_ofNat, Nat.zero_mod, BitVec.ofNat_eq_ofNat,
    Bool.toNat_false, Bool.not_false, Nat.reduceMul, Nat.reduceAdd, Nat.reduceDiv, Bool.and_true, Bool.true_and]

theorem effX_rcadd (ra rb : BitVec 6) (af : Bool) (imm : BitVec 16) (s : State) (k : Nat) :
    effX (encXC 0x10 0 ra rb 0 false af imm) s k = (effRcadd ra rb af imm) s k := by
  have h := fld_encXC 0x10 (by decide) 0 ra rb 0 false af imm
  generalize encXC 0x10 0 ra rb 0 false af imm = w at h ⊢
  obtain ⟨h1, h⟩ := h
  have hw : ¬ w = 0 := ne_zero_of_fld h1 (by decide)
  unfold effX
  dsimp only
  rw [if_neg hw, h1]
  simp only [SlotEff.guard, h, ofNat_toNat_self, toNat_eq_one, ofNat4_of6, high_of6, zero_beq_one, Nat.reduceLT, Nat.reduceEqDiff,
    Nat.reduceSub, if_true, if_false, beq_self_eq_true, Bool.and_self, BitVec.toNat_ofNat, Nat.zero_mod, BitVec.ofNat_eq_ofNat,
    Bool.toNat_false, Bool.not_false, Nat.reduceMul, Nat.reduceAdd, Nat.reduceDiv, Bool.and_true, Bool.true_and]

theorem effX_pld (rd ra : BitVec 6) (cn : BitVec 12) (s : State) (k : Nat) :
    effX (encXP 0x18 rd ra 0 cn 0) s k = (effPld rd ra cn) s k := by
  have h := fld_encXP 0x18 (by decide) rd ra 0 cn 0
  generalize encXP 0x18 rd ra 0 cn 0 = w at h ⊢
  obtain ⟨h1, h⟩ := h
  have hw : ¬ w = 0 := ne_zero_of_fld h1 (by decide)
  unfold effX
  dsimp only
  rw [if_neg hw, h1]
  simp only [SlotEff.guard, h, ofNat_toNat_self, toNat_eq_one, ofNat4_of6, high_of6, zero_beq_one, Nat.reduceLT, Nat.reduceEqDiff,
    Nat.reduceSub, if_true, if_false, beq_self_eq_true, Bool.and_self, BitVec.toNat_ofNat, Nat.zero_mod, BitVec.ofNat_eq_ofNat,
    Bool.toNat_false, Bool.not_false, Nat.reduceMul, Nat.reduceAdd, Nat.reduceDiv, Bool.and_true, Bool.true_and]

theorem effX_pldv (rd ra : BitVec 6) (cn : BitVec 12) (s : State) (k : Nat) :
    effX (encXP 0x19 rd ra 0 cn 0) s k = (effPldv rd ra cn) s k := by
  have h := fld_encXP 0x19 (by decide) rd ra 0 cn 0
  generalize encXP 0x19 rd ra 0 cn 0 = w at h ⊢
  obtain ⟨h1, h⟩ := h
  have hw : ¬ w = 0 := ne_zero_of_fld h1 (by decide)
  unfold effX
  dsimp only
  rw [if_neg hw, h1]
  simp only [SlotEff.guard, h, ofNat_toNat_self, toNat_eq_one, ofNat4_of6, high_of6, zero_beq_one, Nat.reduceLT, Nat.reduceEqDiff,
    Nat.reduceSub, if_true, if_false, beq_self_eq_true, Bool.and_self, BitVec.toNat_ofNat, Nat.zero_mod, BitVec.ofNat_eq_ofNat,
    Bool.toNat_false, Bool.not_false, Nat.reduceMul, Nat.reduceAdd, Nat.reduceDiv, Bool.and_true, Bool.true_and]

theorem effX_pst (rd ra : BitVec 6) (cn : BitVec 12) (s : State) (k : Nat) :
    effX (encXP 0x1A rd ra 0 cn 0) s k = (effPst rd ra cn) s k := by
  have h := fld_encXP 0x1A (by decide) rd ra 0 cn 0
  generalize encXP 0x1A rd ra 0 cn 0 = w at h ⊢
  obtain ⟨h1, h⟩ := h
  have hw : ¬ w = 0 := ne_zero_of_fld h1 (by decide)
  unfold effX
  dsimp only
  rw [if_neg hw, h1]
  simp only [SlotEff.guard, h, ofNat_toNat_self, toNat_eq_one, ofNat4_of6, high_of6, zero_beq_one, Nat.reduceLT, Nat.reduceEqDiff,
    Nat.reduceSub, if_true, if_false, beq_self_eq_true, Bool.and_self, BitVec.toNat_ofNat, Nat.zero_mod, BitVec.ofNat_eq_ofNat,
    Bool.toNat_false, Bool.not_false, Nat.reduceMul, Nat.reduceAdd, Nat.reduceDiv, Bool.and_true, Bool.true_and]

theorem effX_pstv (rd ra : BitVec 6) (cn : BitVec 12) (s : State) (k : Nat) :
    effX (encXP 0x1B rd ra 0 cn 0) s k = (effPstv rd ra cn) s k := by
  have h := fld_encXP 0x1B (by decide) rd ra 0 cn 0
  generalize encXP 0x1B rd ra 0 cn 0 = w at h ⊢
  obtain ⟨h1, h⟩ := h
  have hw : ¬ w = 0 := ne_zero_of_fld h1 (by decide)
  unfold effX
  dsimp only
  rw [if_neg hw, h1]
  simp only [SlotEff.guard, h, ofNat_toNat_self, toNat_eq_one, ofNat4_of6, high_of6, zero_beq_one, Nat.reduceLT, Nat.reduceEqDiff,
    Nat.reduceSub, if_true, if_false, beq_self_eq_true, Bool.and_self, BitVec.toNat_ofNat, Nat.zero_mod, BitVec.ofNat_eq_ofNat,
    Bool.toNat_false, Bool.not_false, Nat.reduceMul, Nat.reduceAdd, Nat.reduceDiv, Bool.and_true, Bool.true_and]

theorem effX_patom (rd ra rb : BitVec 6) (cn : BitVec 12) (aop : BitVec 4) (s : State) (k : Nat) :
    effX (encXP 0x1C rd ra rb cn aop) s k = (effPatom rd ra rb cn aop) s k := by
  have h := fld_encXP 0x1C (by decide) rd ra rb cn aop
  generalize encXP 0x1C rd ra rb cn aop = w at h ⊢
  obtain ⟨h1, h⟩ := h
  have hw : ¬ w = 0 := ne_zero_of_fld h1 (by decide)
  unfold effX
  dsimp only
  rw [if_neg hw, h1]
  simp only [SlotEff.guard, h, ofNat_toNat_self, toNat_eq_one, ofNat4_of6, high_of6, zero_beq_one, Nat.reduceLT, Nat.reduceEqDiff,
    Nat.reduceSub, if_true, if_false, beq_self_eq_true, Bool.and_self, BitVec.toNat_ofNat, Nat.zero_mod, BitVec.ofNat_eq_ofNat,
    Bool.toNat_false, Bool.not_false, Nat.reduceMul, Nat.reduceAdd, Nat.reduceDiv, Bool.and_true, Bool.true_and]

theorem effX_fence (s : State) (k : Nat) :
    effX (encXF 0x20 0) s k = effFence .all := by
  have h := fld_encXF 0x20 (by decide) 0
  generalize encXF 0x20 0 = w at h ⊢
  obtain ⟨h1, h⟩ := h
  have hw : ¬ w = 0 := ne_zero_of_fld h1 (by decide)
  unfold effX
  dsimp only
  rw [if_neg hw, h1]
  simp only [SlotEff.guard, h, ofNat_toNat_self, toNat_eq_one, ofNat4_of6, high_of6, zero_beq_one, Nat.reduceLT, Nat.reduceEqDiff,
    Nat.reduceSub, if_true, if_false, beq_self_eq_true, Bool.and_self, BitVec.toNat_ofNat, Nat.zero_mod, BitVec.ofNat_eq_ofNat,
    Bool.toNat_false, Bool.not_false, Nat.reduceMul, Nat.reduceAdd, Nat.reduceDiv, Bool.and_true, Bool.true_and]

theorem effX_fenceW (s : State) (k : Nat) :
    effX (encXF 0x20 1) s k = effFence .w := by
  have h := fld_encXF 0x20 (by decide) 1
  generalize encXF 0x20 1 = w at h ⊢
  obtain ⟨h1, h⟩ := h
  have hw : ¬ w = 0 := ne_zero_of_fld h1 (by decide)
  unfold effX
  dsimp only
  rw [if_neg hw, h1]
  simp only [SlotEff.guard, h, ofNat_toNat_self, toNat_eq_one, ofNat4_of6, high_of6, zero_beq_one, Nat.reduceLT, Nat.reduceEqDiff,
    Nat.reduceSub, if_true, if_false, beq_self_eq_true, Bool.and_self, BitVec.toNat_ofNat, Nat.zero_mod, BitVec.ofNat_eq_ofNat,
    Bool.toNat_false, Bool.not_false, Nat.reduceMul, Nat.reduceAdd, Nat.reduceDiv, Bool.and_true, Bool.true_and]

theorem effX_fenceR (s : State) (k : Nat) :
    effX (encXF 0x20 2) s k = effFence .r := by
  have h := fld_encXF 0x20 (by decide) 2
  generalize encXF 0x20 2 = w at h ⊢
  obtain ⟨h1, h⟩ := h
  have hw : ¬ w = 0 := ne_zero_of_fld h1 (by decide)
  unfold effX
  dsimp only
  rw [if_neg hw, h1]
  simp only [SlotEff.guard, h, ofNat_toNat_self, toNat_eq_one, ofNat4_of6, high_of6, zero_beq_one, Nat.reduceLT, Nat.reduceEqDiff,
    Nat.reduceSub, if_true, if_false, beq_self_eq_true, Bool.and_self, BitVec.toNat_ofNat, Nat.zero_mod, BitVec.ofNat_eq_ofNat,
    Bool.toNat_false, Bool.not_false, Nat.reduceMul, Nat.reduceAdd, Nat.reduceDiv, Bool.and_true, Bool.true_and]

theorem effX_copy (rd ra rb : BitVec 6) (cn : BitVec 12) (ch : BitVec 4) (ck : BitVec 2) (s : State) (k : Nat) :
    effX (encXK 0x28 rd ra rb cn ch ck) s k = (effCopy rd ra rb cn ch ck) s k := by
  have h := fld_encXK 0x28 (by decide) rd ra rb cn ch ck
  generalize encXK 0x28 rd ra rb cn ch ck = w at h ⊢
  obtain ⟨h1, h⟩ := h
  have hw : ¬ w = 0 := ne_zero_of_fld h1 (by decide)
  unfold effX
  dsimp only
  rw [if_neg hw, h1]
  simp only [SlotEff.guard, h, ofNat_toNat_self, toNat_eq_one, ofNat4_of6, high_of6, zero_beq_one, Nat.reduceLT, Nat.reduceEqDiff,
    Nat.reduceSub, if_true, if_false, beq_self_eq_true, Bool.and_self, BitVec.toNat_ofNat, Nat.zero_mod, BitVec.ofNat_eq_ofNat,
    Bool.toNat_false, Bool.not_false, Nat.reduceMul, Nat.reduceAdd, Nat.reduceDiv, Bool.and_true, Bool.true_and]

theorem effX_cabort (ch : BitVec 4) (s : State) (k : Nat) :
    effX (encXK 0x29 0 0 0 0 ch 0) s k = (fun _ _ => effCabort ch) s k := by
  have h := fld_encXK 0x29 (by decide) 0 0 0 0 ch 0
  generalize encXK 0x29 0 0 0 0 ch 0 = w at h ⊢
  obtain ⟨h1, h⟩ := h
  have hw : ¬ w = 0 := ne_zero_of_fld h1 (by decide)
  unfold effX
  dsimp only
  rw [if_neg hw, h1]
  simp only [SlotEff.guard, h, ofNat_toNat_self, toNat_eq_one, ofNat4_of6, high_of6, zero_beq_one, Nat.reduceLT, Nat.reduceEqDiff,
    Nat.reduceSub, if_true, if_false, beq_self_eq_true, Bool.and_self, BitVec.toNat_ofNat, Nat.zero_mod, BitVec.ofNat_eq_ofNat,
    Bool.toNat_false, Bool.not_false, Nat.reduceMul, Nat.reduceAdd, Nat.reduceDiv, Bool.and_true, Bool.true_and]

theorem effX_cstat (rd : BitVec 6) (ch : BitVec 4) (s : State) (k : Nat) :
    effX (encXK 0x2A rd 0 0 0 ch 0) s k = (effCstat rd ch) s k := by
  have h := fld_encXK 0x2A (by decide) rd 0 0 0 ch 0
  generalize encXK 0x2A rd 0 0 0 ch 0 = w at h ⊢
  obtain ⟨h1, h⟩ := h
  have hw : ¬ w = 0 := ne_zero_of_fld h1 (by decide)
  unfold effX
  dsimp only
  rw [if_neg hw, h1]
  simp only [SlotEff.guard, h, ofNat_toNat_self, toNat_eq_one, ofNat4_of6, high_of6, zero_beq_one, Nat.reduceLT, Nat.reduceEqDiff,
    Nat.reduceSub, if_true, if_false, beq_self_eq_true, Bool.and_self, BitVec.toNat_ofNat, Nat.zero_mod, BitVec.ofNat_eq_ofNat,
    Bool.toNat_false, Bool.not_false, Nat.reduceMul, Nat.reduceAdd, Nat.reduceDiv, Bool.and_true, Bool.true_and]

theorem effX_msg (rd ra : BitVec 6) (cn : BitVec 12) (s : State) (k : Nat) :
    effX (encXP 0x30 rd ra 0 cn 0) s k = (effMsg rd ra cn) s k := by
  have h := fld_encXP 0x30 (by decide) rd ra 0 cn 0
  generalize encXP 0x30 rd ra 0 cn 0 = w at h ⊢
  obtain ⟨h1, h⟩ := h
  have hw : ¬ w = 0 := ne_zero_of_fld h1 (by decide)
  unfold effX
  dsimp only
  rw [if_neg hw, h1]
  simp only [SlotEff.guard, h, ofNat_toNat_self, toNat_eq_one, ofNat4_of6, high_of6, zero_beq_one, Nat.reduceLT, Nat.reduceEqDiff,
    Nat.reduceSub, if_true, if_false, beq_self_eq_true, Bool.and_self, BitVec.toNat_ofNat, Nat.zero_mod, BitVec.ofNat_eq_ofNat,
    Bool.toNat_false, Bool.not_false, Nat.reduceMul, Nat.reduceAdd, Nat.reduceDiv, Bool.and_true, Bool.true_and]

theorem effX_redc (rd ra : BitVec 6) (s : State) (k : Nat) :
    effX (encXP 0x38 rd ra 0 0 0) s k = (effRedc rd ra) s k := by
  have h := fld_encXP 0x38 (by decide) rd ra 0 0 0
  generalize encXP 0x38 rd ra 0 0 0 = w at h ⊢
  obtain ⟨h1, h⟩ := h
  have hw : ¬ w = 0 := ne_zero_of_fld h1 (by decide)
  unfold effX
  dsimp only
  rw [if_neg hw, h1]
  simp only [SlotEff.guard, h, ofNat_toNat_self, toNat_eq_one, ofNat4_of6, high_of6, zero_beq_one, Nat.reduceLT, Nat.reduceEqDiff,
    Nat.reduceSub, if_true, if_false, beq_self_eq_true, Bool.and_self, BitVec.toNat_ofNat, Nat.zero_mod, BitVec.ofNat_eq_ofNat,
    Bool.toNat_false, Bool.not_false, Nat.reduceMul, Nat.reduceAdd, Nat.reduceDiv, Bool.and_true, Bool.true_and]

theorem effX_attn (ra : BitVec 6) (cn : BitVec 12) (s : State) (k : Nat) :
    effX (encXP 0x3C 0 ra 0 cn 0) s k = (effAttn ra cn) s k := by
  have h := fld_encXP 0x3C (by decide) 0 ra 0 cn 0
  generalize encXP 0x3C 0 ra 0 cn 0 = w at h ⊢
  obtain ⟨h1, h⟩ := h
  have hw : ¬ w = 0 := ne_zero_of_fld h1 (by decide)
  unfold effX
  dsimp only
  rw [if_neg hw, h1]
  simp only [SlotEff.guard, h, ofNat_toNat_self, toNat_eq_one, ofNat4_of6, high_of6, zero_beq_one, Nat.reduceLT, Nat.reduceEqDiff,
    Nat.reduceSub, if_true, if_false, beq_self_eq_true, Bool.and_self, BitVec.toNat_ofNat, Nat.zero_mod, BitVec.ofNat_eq_ofNat,
    Bool.toNat_false, Bool.not_false, Nat.reduceMul, Nat.reduceAdd, Nat.reduceDiv, Bool.and_true, Bool.true_and]

theorem effX_mvsv (rd ra : BitVec 6) (ln : BitVec 7) (s : State) (k : Nat) :
    effX (encXM 0x40 rd ra ln) s k = (effMvsv rd ra ln) s k := by
  have h := fld_encXM 0x40 (by decide) rd ra ln
  generalize encXM 0x40 rd ra ln = w at h ⊢
  obtain ⟨h1, h⟩ := h
  have hw : ¬ w = 0 := ne_zero_of_fld h1 (by decide)
  unfold effX
  dsimp only
  rw [if_neg hw, h1]
  simp only [SlotEff.guard, h, ofNat_toNat_self, toNat_eq_one, ofNat4_of6, high_of6, zero_beq_one, Nat.reduceLT, Nat.reduceEqDiff,
    Nat.reduceSub, if_true, if_false, beq_self_eq_true, Bool.and_self, BitVec.toNat_ofNat, Nat.zero_mod, BitVec.ofNat_eq_ofNat,
    Bool.toNat_false, Bool.not_false, Nat.reduceMul, Nat.reduceAdd, Nat.reduceDiv, Bool.and_true, Bool.true_and]

theorem effX_mvvs (rd ra : BitVec 6) (ln : BitVec 7) (s : State) (k : Nat) :
    effX (encXM 0x41 rd ra ln) s k = (effMvvs rd ra ln) s k := by
  have h := fld_encXM 0x41 (by decide) rd ra ln
  generalize encXM 0x41 rd ra ln = w at h ⊢
  obtain ⟨h1, h⟩ := h
  have hw : ¬ w = 0 := ne_zero_of_fld h1 (by decide)
  unfold effX
  dsimp only
  rw [if_neg hw, h1]
  simp only [SlotEff.guard, h, ofNat_toNat_self, toNat_eq_one, ofNat4_of6, high_of6, zero_beq_one, Nat.reduceLT, Nat.reduceEqDiff,
    Nat.reduceSub, if_true, if_false, beq_self_eq_true, Bool.and_self, BitVec.toNat_ofNat, Nat.zero_mod, BitVec.ofNat_eq_ofNat,
    Bool.toNat_false, Bool.not_false, Nat.reduceMul, Nat.reduceAdd, Nat.reduceDiv, Bool.and_true, Bool.true_and]

theorem effS_halt (s : State) (k : Nat) : effS (encSR 0x01 0 0 0) s k = effHalt := by
  have h := fld_encSR 0x01 (by decide) 0 0 0
  have h2 : fld 55 0 (encSR 0x01 0 0 0) = 0 := by decide
  generalize encSR 0x01 0 0 0 = w at h h2 ⊢
  obtain ⟨h1, -⟩ := h
  have hw : ¬ w = 0 := ne_zero_of_fld h1 (by decide)
  unfold effS
  dsimp only
  rw [if_neg hw, h1, if_pos rfl, h2]
  rfl

/-! ### A slot command runs the bundle that holds its word -/

/-- A command of the S slot is the cycle of the bundle with its word. -/
theorem slotCommand_S (s : State) (c : CoreRef) (o : Others) (w : Word) (e : State → Nat → SlotEff)
    (h : ∀ s k, effS w s k = e s k) :
    s.slotCommand c 0 o w e = s.runBundle (coreNum c) (fun t => t.decodeBundle (coreNum c) (bundleWords 0 o w)) := by
  have hf : e = effS w := funext fun s => funext fun k => (h s k).symm
  subst hf
  rfl

/-- A command of the V slot is the cycle of the bundle with its word. -/
theorem slotCommand_V (s : State) (c : CoreRef) (o : Others) (w : Word) (e : State → Nat → SlotEff)
    (h : ∀ s k, effV w s k = e s k) :
    s.slotCommand c 1 o w e = s.runBundle (coreNum c) (fun t => t.decodeBundle (coreNum c) (bundleWords 1 o w)) := by
  have hf : e = effV w := funext fun s => funext fun k => (h s k).symm
  subst hf
  rfl

/-- A command of the M slot is the cycle of the bundle with its word. -/
theorem slotCommand_M (s : State) (c : CoreRef) (o : Others) (w : Word) (e : State → Nat → SlotEff)
    (h : ∀ s k, effM w s k = e s k) :
    s.slotCommand c 2 o w e = s.runBundle (coreNum c) (fun t => t.decodeBundle (coreNum c) (bundleWords 2 o w)) := by
  have hf : e = effM w := funext fun s => funext fun k => (h s k).symm
  subst hf
  rfl

/-- A command of the X slot is the cycle of the bundle with its word. -/
theorem slotCommand_X (s : State) (c : CoreRef) (o : Others) (w : Word) (e : State → Nat → SlotEff)
    (h : ∀ s k, effX w s k = e s k) :
    s.slotCommand c 3 o w e = s.runBundle (coreNum c) (fun t => t.decodeBundle (coreNum c) (bundleWords 3 o w)) := by
  have hf : e = effX w := funext fun s => funext fun k => (h s k).symm
  subst hf
  rfl

end Sys2Proof.Machine
end

