-- ==== Sys2Proof/Laws/Commands.lean ====
section
/-! SUPPORT. Slot commands that can issue (R86, R87): what their results and items come to. -/

namespace Sys2Proof.Machine

open State

/-- The bundle of a slot command that can issue. -/
theorem canIssue_words {i : Instr} {c : CoreRef} {slot : Nat} {o : Others} {w : Word} {s : State}
    (hb : slotWord i = some (c, slot, o, w)) (h : s.canIssue i = true) :
    s.canIssueWords (coreNum c) (bundleWords slot o w) = true := by
  unfold State.canIssue bundleOf at h
  rw [hb] at h
  exact h

/-! ### Reads at the start of a cycle -/

theorem readS_cycleStart (s : State) (k r : Nat) : ((s.cycleStart k).core k).readS r = (s.core k).readS r := by
  rw [core_cycleStart]; rfl

theorem readV_cycleStart (s : State) (k r : Nat) : ((s.cycleStart k).core k).readV r = (s.core k).readV r := by
  rw [core_cycleStart]; rfl

theorem readP_cycleStart (s : State) (k r : Nat) : ((s.cycleStart k).core k).readP r = (s.core k).readP r := by
  rw [core_cycleStart]; rfl

theorem readT_cycleStart (s : State) (k r : Nat) : ((s.cycleStart k).core k).readT r = (s.core k).readT r := by
  rw [core_cycleStart]; rfl

theorem cairn_cycleStart (s : State) (k r : Nat) : ((s.cycleStart k).core k).cairn r = (s.core k).cairn r := by
  rw [core_cycleStart]; rfl

theorem copy_cycleStart (s : State) (k r : Nat) : ((s.cycleStart k).core k).copy r = (s.core k).copy r := by
  rw [core_cycleStart]; rfl

theorem pc_cycleStart (s : State) (k : Nat) : ((s.cycleStart k).core k).pc = (s.core k).pc := by
  rw [core_cycleStart]

/-! ### What a slot command comes to -/

/-- The bundle address after a bundle whose S slot does not redirect. -/
theorem nextPc_start4 (s : State) (k : Nat) (ws : List Word) (n : Nat) (h : ((s.bundleAt k ws).eff 0).target = none) :
    ((s.core k).start4 n (s.bundleAt k ws)).nextPc = (s.core k).nextPc := by
  unfold Core.nextPc
  rw [Core.start4_redirect _ _ _ (fun i hi => (bundleAt_late s _ _ i hi).target), h, Core.start4_cyc, Core.start4_pc]

/-- The bundle address after a bundle whose S slot redirects: the next delay bundle. -/
theorem nextPc_start4_target (s : State) (k : Nat) (ws : List Word) (n t : Nat) (h : ((s.bundleAt k ws).eff 0).target = some t) :
    ((s.core k).start4 n (s.bundleAt k ws)).nextPc = ((s.core k).pc + 1) % 32768 := by
  unfold Core.nextPc
  rw [Core.start4_redirect _ _ _ (fun i hi => (bundleAt_late s _ _ i hi).target), h, Core.start4_cyc, Core.start4_pc]
  simp

/-- An item of slot `i` is in flight after the start. -/
theorem mem_start4 (c : Core) (n : Nat) (b : Bundle) {i : Nat} (hi : i < 4) {x : Nat × Act} (hx : x ∈ (b.eff i).items) :
    Item.mk (c.cyc + x.1) c.cyc c.pc i x.2 ∈ (c.start4 n b).pipe := by
  have hm : Item.mk (c.cyc + x.1) c.cyc c.pc i x.2 ∈ c.newItems i (b.eff i) := List.mem_map.mpr ⟨x, hx, rfl⟩
  rw [Core.start4_pipe]
  simp only [List.mem_append]
  match i, hi with
  | 0, _ => exact .inl (.inl (.inl (.inr hm)))
  | 1, _ => exact .inl (.inl (.inr hm))
  | 2, _ => exact .inl (.inr hm)
  | 3, _ => exact .inr hm

/-- An S slot command of latency 1: its result is in the register when the cycle ends. -/
theorem scalar_issue {i : Instr} {c : CoreRef} {o : Others} {w : Word} {e : State → Nat → SlotEff} {s : State} {rd : BitVec 6}
    {v : Word} (hb : slotWord i = some (c, 0, o, w)) (hd : ∀ s k, effS w s k = e s k)
    (h1 : (e (s.cycleStart (coreNum c)) (coreNum c)).items = [(0, .s rd.toNat v)]) (h : s.canIssue i = true) :
    ((s.slotCommand c 0 o w e).core (coreNum c)).readS rd.toNat = (if rd = 0 then 0 else v) := by
  have hw := canIssue_words hb h
  rw [slotCommand_S s c o w e hd]
  have he : (s.bundleAt (coreNum c) (bundleWords 0 o w)).eff 0 = e (s.cycleStart (coreNum c)) (coreNum c) := hd _ _
  rw [issue_scalar hw (rd := rd.toNat) (v := v) (by rw [he]; exact h1) (fun i hi => (bundleAt_late s _ _ i hi).items)]
  congr 1
  apply propext
  constructor
  · intro e; exact BitVec.eq_of_toNat_eq e
  · rintro rfl; rfl

/-- An S slot command that does not halt: the address of the next bundle, and the count of issue cycles. -/
theorem S_issue {i : Instr} {c : CoreRef} {o : Others} {w : Word} {e : State → Nat → SlotEff} {s : State}
    (hb : slotWord i = some (c, 0, o, w)) (hd : ∀ s k, effS w s k = e s k)
    (h2 : (e (s.cycleStart (coreNum c)) (coreNum c)).halt = false) (h : s.canIssue i = true) :
    ((s.slotCommand c 0 o w e).core (coreNum c)).pc = (match (e (s.cycleStart (coreNum c)) (coreNum c)).target with
        | none => (s.core (coreNum c)).nextPc
        | some _ => ((s.core (coreNum c)).pc + 1) % 32768)
    ∧ (s.slotCommand c 0 o w e).word .CYCLE_ISSUE (coreNum c) = s.word .CYCLE_ISSUE (coreNum c) + 1
    ∧ ∀ x ∈ (e (s.cycleStart (coreNum c)) (coreNum c)).items, x.1 ≠ 0 →
        (s.core (coreNum c)).putsInFlight ((s.slotCommand c 0 o w e).core (coreNum c)) 0 x.1 x.2 := by
  have hw := canIssue_words hb h
  rw [slotCommand_S s c o w e hd]
  have he : (s.bundleAt (coreNum c) (bundleWords 0 o w)).eff 0 = e (s.cycleStart (coreNum c)) (coreNum c) := hd _ _
  obtain ⟨p, a, -, b, -⟩ := issue_spec hw
  refine ⟨?_, b, fun x hx hne => ?_⟩
  · rw [a (by rw [he]; exact h2)]
    cases ht : (e (s.cycleStart (coreNum c)) (coreNum c)).target with
    | none => exact nextPc_start4 _ _ _ _ (by rw [he]; exact ht)
    | some t => exact nextPc_start4_target _ _ _ _ t (by rw [he]; exact ht)
  · exact p _ (mem_start4 _ _ _ (by decide) (by rw [he]; exact hx)) (by dsimp only; omega)

/-- What a command of the V, M or X slot puts in flight, beside an S slot that neither halts nor redirects. -/
theorem slot_items {s : State} {k : Nat} {ws : List Word} (hw : s.canIssueWords k ws = true) {i : Nat} (hi : i = 1 ∨ i = 2 ∨ i = 3)
    {e : SlotEff} (he : (s.bundleAt k ws).eff i = e) {x : Nat × Act} (hx : x ∈ e.items) :
    (s.core k).putsInFlight ((s.runBundle k (fun t => t.decodeBundle k ws)).core k) i x.1 x.2 := by
  obtain ⟨p, -⟩ := issue_spec hw
  have hl := (bundleAt_late s k ws i hi).items
  rw [he] at hl
  exact p _ (mem_start4 _ _ _ (by omega) (by rw [he]; exact hx)) (by have := hl x hx; dsimp only; omega)

end Sys2Proof.Machine
end

