-- ==== Sys2Proof/Laws/Flit.lean ====
section
/-! SUPPORT. Laws of sealed flits: a sealed flit passes its check, and its fields below the CRC are those of its body. -/

namespace Sys2Proof.Machine

/-- The low bytes of a number do not depend on what stands above them. -/
theorem toLE_add_mul : ∀ n v k, toLE n (v + 256 ^ n * k) = toLE n v
  | 0, _, _ => rfl
  | n + 1, v, k => by
    have h : v + 256 ^ (n + 1) * k = v + 256 * (256 ^ n * k) := by rw [Nat.pow_succ]; ring
    rw [toLE, toLE, h, Nat.add_mul_div_left _ _ (by decide : 0 < 256), toLE_add_mul n]
    congr 1
    apply BitVec.eq_of_toNat_eq
    simp [Nat.add_mul_mod_self_left]

set_option exponentiation.threshold 1100 in
/-- The number of a sealed flit. -/
theorem sealFlit_toNat (b : Nat) :
    (sealFlit b).toNat = b % 2 ^ 960 + 2 ^ 960 * (crc64 (toLE 120 (b % 2 ^ 960))).toNat := by
  have h1 : b % 2 ^ 960 < 2 ^ 960 := Nat.mod_lt _ (by positivity)
  have h2 := (crc64 (toLE 120 (b % 2 ^ 960))).isLt
  have h3 : b % 2 ^ 960 + (crc64 (toLE 120 (b % 2 ^ 960))).toNat * 2 ^ 960 < 2 ^ 1024 := by
    calc b % 2 ^ 960 + (crc64 (toLE 120 (b % 2 ^ 960))).toNat * 2 ^ 960
        < 2 ^ 960 + (crc64 (toLE 120 (b % 2 ^ 960))).toNat * 2 ^ 960 := Nat.add_lt_add_right h1 _
      _ = ((crc64 (toLE 120 (b % 2 ^ 960))).toNat + 1) * 2 ^ 960 := by rw [Nat.succ_mul, Nat.add_comm]
      _ ≤ 2 ^ 64 * 2 ^ 960 := Nat.mul_le_mul_right _ h2
      _ = 2 ^ 1024 := by rw [← pow_add]
  rw [sealFlit, BitVec.toNat_ofNat, Nat.mod_eq_of_lt h3, Nat.mul_comm]

set_option exponentiation.threshold 1100 in
/-- A field below the CRC is the body's. -/
theorem sealFlit_field (hi lo b : Nat) (h : hi < 960) (hl : lo ≤ hi) : Flit.field (sealFlit b) hi lo = bits hi lo b := by
  have e (n : Nat) : bits hi lo n = n % 2 ^ (hi + 1) / 2 ^ lo := by
    have : (2 : Nat) ^ (hi + 1) = 2 ^ lo * 2 ^ (hi + 1 - lo) := by rw [← pow_add]; congr 1; omega
    rw [bits, this, Nat.mod_mul_right_div_self]
  have hd : (2 : Nat) ^ (hi + 1) ∣ 2 ^ 960 := Nat.pow_dvd_pow 2 (by omega)
  rw [Flit.field, sealFlit_toNat, e, e, Nat.add_mod, Nat.mod_mod_of_dvd _ hd,
    Nat.mod_eq_zero_of_dvd (Dvd.dvd.mul_right hd _), Nat.add_zero, Nat.mod_mod]

/-- Payload bytes below the CRC are the body's. -/
theorem sealFlit_payload (o n b : Nat) (h : 64 + 8 * o + 8 * n ≤ 960) (hn : 0 < n) :
    flitPayload (sealFlit b) o n = b / 2 ^ (64 + 8 * o) % 2 ^ (8 * n) := by
  have h1 := sealFlit_field (64 + 8 * o + 8 * n - 1) (64 + 8 * o) b (by omega) (by omega)
  have h2 : 64 + 8 * o + 8 * n - 1 + 1 - (64 + 8 * o) = 8 * n := by omega
  rw [Flit.field, bits, bits, h2] at h1
  exact h1

/-- The check of a number whose upper part is the CRC of its lower part. -/
theorem crcPart (n p x : Nat) (hp : p = 256 ^ n) (hx : x < p) (c : BitVec 64) (hc : c = crc64 (toLE n x)) :
    (crc64 (toLE n (x + p * c.toNat)) == BitVec.ofNat 64 ((x + p * c.toNat) / p)) = true := by
  subst hc
  rw [Nat.add_mul_div_left _ _ (by omega), Nat.div_eq_of_lt hx, Nat.zero_add, BitVec.ofNat_toNat]
  subst hp
  rw [toLE_add_mul]
  simp

/-- A sealed flit with no reserved bit and no reserved KIND is good. -/
theorem flitGood_sealFlit (b : Nat) (h0 : bits 3 0 b = 0) (h1 : bits 63 62 b ≠ 3) : flitGood (sealFlit b) = true := by
  rw [flitGood, sealFlit_field _ _ _ (by omega) (by omega), h0, flitKind, sealFlit_field _ _ _ (by omega) (by omega), sealFlit_toNat,
    crcPart 120 (2 ^ 960) _ (by rw [show (256 : Nat) = 2 ^ 8 from rfl, ← pow_mul]) (Nat.mod_lt _ (by positivity)) _ rfl]
  simp [h1]

/-- The same on a pod link. -/
theorem podGood_sealFlit (b : Nat) (h0 : bits 11 0 b = 0) (h1 : bits 63 62 b ≠ 3) (h2 : bits 57 56 b ≠ 3) : podGood (sealFlit b) = true := by
  rw [podGood, sealFlit_field _ _ _ (by omega) (by omega), h0, flitKind, sealFlit_field _ _ _ (by omega) (by omega), podHop,
    sealFlit_field _ _ _ (by omega) (by omega), sealFlit_toNat,
    crcPart 120 (2 ^ 960) _ (by rw [show (256 : Nat) = 2 ^ 8 from rfl, ← pow_mul]) (Nat.mod_lt _ (by positivity)) _ rfl]
  simp [h1, h2]

end Sys2Proof.Machine
end

