-- ==== Sys2Proof/Laws/Frames.lean ====
section
/-! SUPPORT. Laws of the frames that statements speak of: which bits of which registers an update leaves as they were, and
reads of fields after writes, by decidable side conditions. -/

namespace Sys2Proof.Machine

/-! ### Fields after writes -/

theorem State.get_put_reg (s : State) {f g : Fld} {i j : Nat} (h : g.reg ≠ f.reg) (v : Nat) :
    (s.put f i v).get g j = s.get g j := State.get_put_ne s (fun e => h e.1) v

theorem State.word_put_reg (s : State) {f : Fld} {q : RegName} {i j : Nat} (h : q ≠ f.reg) (v : Nat) :
    (s.put f i v).word q j = s.word q j := State.word_put_ne s (fun e => h e.1) v

theorem State.get_setWord_reg (s : State) {r : RegName} {g : Fld} {i j : Nat} (h : g.reg ≠ r) (w : Word) :
    (s.setWord r i w).get g j = s.get g j := State.get_setWord_ne s (fun e => h e.1) w

theorem State.word_setWord_reg (s : State) {r q : RegName} {i j : Nat} (h : q ≠ r) (w : Word) :
    (s.setWord r i w).word q j = s.word q j := State.word_setWord_ne s (fun e => h e.1) w

theorem State.get_bump_reg (s : State) {f g : Fld} {i j : Nat} (h : g.reg ≠ f.reg) (n : Nat) :
    (s.bump f i n).get g j = s.get g j := State.get_bump_ne s (fun e => h e.1) n

/-! ### Bits of registers -/

theorem State.sameBits.refl (l : List (Fld × Nat)) (s : State) : State.sameBits l s s := fun _ _ _ _ => rfl

theorem State.sameBits_of_regs {l : List (Fld × Nat)} {s t : State} (h : t.regs = s.regs) : State.sameBits l s t := by
  intro r i b _
  simp [State.word, h]

theorem State.sameBits.trans {l : List (Fld × Nat)} {s t u : State} (h : State.sameBits l s t) (g : State.sameBits l t u) :
    State.sameBits l s u := fun r i b n => (g r i b n).trans (h r i b n)

theorem State.sameBits.mono {l m : List (Fld × Nat)} {s t : State} (h : State.sameBits l s t) (e : l ⊆ m) : State.sameBits m s t :=
  fun r i b n => h r i b (fun x hx => n x (e hx))

/-- A write of a field in the list. -/
theorem State.sameBits.put {l : List (Fld × Nat)} {s t : State} (h : State.sameBits l s t) {f : Fld} {i : Nat} (v : Nat)
    (ok : f.ok = true) (m : (f, i) ∈ l) : State.sameBits l s (t.put f i v) := by
  intro r j b n
  rw [← h r j b n]
  by_cases e : r = f.reg ∧ j = i
  · obtain ⟨rfl, rfl⟩ := e
    have o := (Fld.ok_iff f).1 ok
    have nb : ¬ (f.lo ≤ b ∧ b ≤ f.hi) := fun x => n (f, j) m ⟨rfl, rfl, x.1, x.2⟩
    rw [State.put, State.word_setWord_same]
    by_cases hb : b < 64
    · rw [BitVec.getLsbD_ofNat, testBit_setBits o.1, if_neg nb]
      simp [hb, BitVec.getLsbD]
    · rw [BitVec.getLsbD_of_ge _ _ (by omega), BitVec.getLsbD_of_ge _ _ (by omega)]
  · rw [State.word_put_ne _ e]

/-- A write of a whole register in the list. -/
theorem State.sameBits.setWord {l : List (Fld × Nat)} {s t : State} (h : State.sameBits l s t) {q : RegName} {i : Nat} (w : Word)
    (m : (q.whole, i) ∈ l) : State.sameBits l s (t.setWord q i w) := by
  intro r j b n
  rw [← h r j b n]
  by_cases e : r = q ∧ j = i
  · obtain ⟨rfl, rfl⟩ := e
    have nb : ¬ (b ≤ 63) := fun x => n (r.whole, j) m ⟨rfl, rfl, Nat.zero_le _, x⟩
    rw [BitVec.getLsbD_of_ge _ _ (by omega), BitVec.getLsbD_of_ge _ _ (by omega)]
  · rw [State.word_setWord_ne _ e]

theorem State.sameBits.bump {l : List (Fld × Nat)} {s t : State} (h : State.sameBits l s t) {f : Fld} {i : Nat} (n : Nat)
    (ok : f.ok = true) (m : (f, i) ∈ l) : State.sameBits l s (t.bump f i n) := h.put _ ok m

/-- What does not write registers keeps the frame. -/
theorem State.sameBits.regs {l : List (Fld × Nat)} {s t u : State} (h : State.sameBits l s t) (e : u.regs = t.regs) :
    State.sameBits l s u := h.trans (State.sameBits_of_regs e)

theorem State.sameBits.modCore {l : List (Fld × Nat)} {s t : State} (h : State.sameBits l s t) (k : Nat) (f : Core → Core) :
    State.sameBits l s (t.modCore k f) := h.regs rfl

theorem State.sameBits.raise {l : List (Fld × Nat)} {s t : State} (h : State.sameBits l s t) (cls code sev die unit outing : Nat)
    (d0 d1 d2 : Word) : State.sameBits l s (t.raise cls code sev die unit outing d0 d1 d2) := h.regs (by simp)

theorem State.sameBits.send {l : List (Fld × Nat)} {s t : State} (h : State.sameBits l s t) (m : Msg) :
    State.sameBits l s (t.send m) := h.regs rfl

end Sys2Proof.Machine
end

