-- ==== Sys2Proof/Machine/Lanes.lean ====
section
/-! DEFINITION. A flit on the lanes of a Casob port (R311) and on the wavelengths of a pod link (R387). -/

namespace Sys2Proof.Machine

/-- Gray code of two bits: neighbouring PAM4 levels differ in one (R311). -/
def gray2 (v : Nat) : Nat := v % 4 ^^^ v % 4 / 2

/-- One step of the additive scrambler, x^31 + x^28 + 1: its next bit enters at the bottom (R311). -/
def scramblerStep (r : BitVec 31) : BitVec 31 := (r <<< 1) ||| (if r.getLsbD 30 != r.getLsbD 27 then 1 else 0)

/-- Seed of a physical lane's scrambler at flit sync: the low 31 bits of 0x7FFF_FF00 + the lane (R311). -/
def scramblerSeed (lane : Nat) : BitVec 31 := BitVec.ofNat 31 (0x7FFFFF00 + lane)

/-- `n` bits of a lane's scrambler from a state, and the state after them. -/
def scramblerBits : Nat → BitVec 31 → List Bool × BitVec 31
  | 0, r => ([], r)
  | n + 1, r =>
    let q := scramblerStep r
    let t := scramblerBits n q
    (q.getLsbD 0 :: t.1, t.2)

/-- Bytes of a flit on logical lane `i` of `w`: i, i + w, i + 2w and so on (R311, R387). -/
def laneBytes (w i : Nat) (f : Flit) : List Byte := (List.range (128 / w)).map (fun j => (flitBytes f).getD (i + j * w) 0)

/-- Bits of a lane's bytes, each least significant first. -/
def laneBits (l : List Byte) : List Bool := (l.map (fun b => (List.range 8).map (fun i => b.getLsbD i))).flatten

/-- Two bits a symbol, the first the lower (DESIGN CHOICE, log entry 66), Gray-coded. -/
def symbolsOf : List Bool → List Nat
  | a :: b :: t => gray2 ((if a then 1 else 0) + (if b then 2 else 0)) :: symbolsOf t
  | _ => []

/-- The PAM4 symbols of a flit on a lane whose scrambler is in a state, and the state after it. -/
def laneSymbols (w i : Nat) (f : Flit) (r : BitVec 31) : List Nat × BitVec 31 :=
  let l := laneBits (laneBytes w i f)
  let t := scramblerBits l.length r
  (symbolsOf (List.zipWith (fun a b => a != b) l t.1), t.2)

/-- The first flit after flit sync in the direction that end `e` receives: every physical lane in use with its symbols (R311, R324). -/
def State.onLanes (s : State) (ix e : Nat) (f : Flit) : List (Nat × List Nat) :=
  let l := s.laneMap ix e
  (List.range l.length).map (fun i => (l.getD i 0, (laneSymbols l.length i f (scramblerSeed (l.getD i 0))).1))

end Sys2Proof.Machine
end

