-- ==== Sys2Proof/WellFormed.lean ====
section
/-! DEFINITION. Which commands are well formed: their lists have the lengths the spec gives, and what they name exists. -/

namespace Sys2Proof

open Sys2Proof.Machine

/-- Exactly `n` bytes. -/
def sized (n : Nat) (l : List Byte) : Bool := l.length == n

/-- At most `n` bytes. -/
def atMost (n : Nat) (l : List Byte) : Bool := decide (l.length ≤ n)

/-- No element twice. -/
def distinct {α : Type} [DecidableEq α] (l : List α) : Bool := decide l.Nodup

/-- The clock region exists (R366). -/
def regionOk (r : RegionRef) : Bool := regionExists (regionIx r)

/-- A message between two different modules (R387, R388). -/
def podOk (m : PodMsg) : Bool := m.src != m.dst

/-- A command is well formed. -/
def Instr.wellFormed (i : Instr) : Bool :=
  match i with
  | .registerWrite _ _ _ => true
  | .registerAccessTimeout _ _ _ => true
  | .nop _ _ _ => true
  | .halt _ _ => true
  | .add _ _ _ _ _ => true
  | .sub _ _ _ _ _ => true
  | .and _ _ _ _ _ => true
  | .or _ _ _ _ _ => true
  | .xor _ _ _ _ _ => true
  | .sll _ _ _ _ _ => true
  | .srl _ _ _ _ _ => true
  | .sra _ _ _ _ _ => true
  | .slt _ _ _ _ _ => true
  | .sltu _ _ _ _ _ => true
  | .seq _ _ _ _ _ => true
  | .min _ _ _ _ _ => true
  | .max _ _ _ _ _ => true
  | .minu _ _ _ _ _ => true
  | .maxu _ _ _ _ _ => true
  | .addi _ _ _ _ _ => true
  | .subi _ _ _ _ _ => true
  | .andi _ _ _ _ _ => true
  | .ori _ _ _ _ _ => true
  | .xori _ _ _ _ _ => true
  | .slli _ _ _ _ _ => true
  | .srli _ _ _ _ _ => true
  | .srai _ _ _ _ _ => true
  | .slti _ _ _ _ _ => true
  | .sltui _ _ _ _ _ => true
  | .seqi _ _ _ _ _ => true
  | .mini _ _ _ _ _ => true
  | .maxi _ _ _ _ _ => true
  | .minui _ _ _ _ _ => true
  | .maxui _ _ _ _ _ => true
  | .sethi _ _ _ _ _ => true
  | .mul _ _ _ _ _ => true
  | .mulh _ _ _ _ _ => true
  | .mulhu _ _ _ _ _ => true
  | .crr _ _ _ _ => true
  | .crw _ _ _ _ => true
  | .ld _ _ _ _ _ => true
  | .st _ _ _ _ _ => true
  | .beq _ _ _ _ _ => true
  | .bne _ _ _ _ _ => true
  | .blt _ _ _ _ _ => true
  | .bge _ _ _ _ _ => true
  | .bltu _ _ _ _ _ => true
  | .bgeu _ _ _ _ _ => true
  | .j _ _ _ => true
  | .jal _ _ _ _ => true
  | .jr _ _ _ => true
  | .jalr _ _ _ _ => true
  | .vadd _ _ _ _ _ _ _ => true
  | .vsub _ _ _ _ _ _ _ => true
  | .vand _ _ _ _ _ _ _ => true
  | .vor _ _ _ _ _ _ _ => true
  | .vxor _ _ _ _ _ _ _ => true
  | .vsll _ _ _ _ _ _ _ => true
  | .vsrl _ _ _ _ _ _ _ => true
  | .vsra _ _ _ _ _ _ _ => true
  | .vmin _ _ _ _ _ _ _ => true
  | .vmax _ _ _ _ _ _ _ => true
  | .vsel _ _ _ _ _ _ _ => true
  | .vmov _ _ _ _ _ => true
  | .vbcast _ _ _ _ _ => true
  | .vfadd _ _ _ _ _ _ _ => true
  | .vfsub _ _ _ _ _ _ _ => true
  | .vfmul _ _ _ _ _ _ _ => true
  | .vfma _ _ _ _ _ _ _ _ => true
  | .vfmin _ _ _ _ _ _ => true
  | .vfmax _ _ _ _ _ _ => true
  | .vcmpeq _ _ _ _ _ => true
  | .vcmplt _ _ _ _ _ => true
  | .vcmple _ _ _ _ _ => true
  | .vfcmpeq _ _ _ _ _ => true
  | .vfcmplt _ _ _ _ _ => true
  | .vfcmple _ _ _ _ _ => true
  | .pand _ _ _ _ _ => true
  | .por _ _ _ _ _ => true
  | .pxor _ _ _ _ _ => true
  | .pnot _ _ _ _ => true
  | .vcvt _ _ _ _ _ _ _ _ _ _ _ _ => true
  | .vexp2 _ _ _ _ _ => true
  | .vrcp _ _ _ _ _ => true
  | .vrsqrt _ _ _ _ _ => true
  | .vredsum _ _ _ _ _ _ => true
  | .vredmax _ _ _ _ _ => true
  | .vperm _ _ _ _ _ _ => true
  | .vtrd _ _ _ _ _ _ _ => true
  | .vld _ _ _ _ _ _ => true
  | .vst _ _ _ _ _ _ => true
  | .tinit _ _ _ _ => true
  | .mma _ _ _ _ _ _ _ _ => true
  | .twr _ _ _ _ _ _ _ => true
  | .cadd _ _ _ _ _ => true
  | .cread _ _ _ _ => true
  | .cwait _ _ _ _ _ _ => true
  | .cwaitSatisfied _ => true
  | .cset _ _ _ _ _ => true
  | .rcadd _ _ _ _ _ _ => true
  | .pld _ _ _ _ _ => true
  | .pldv _ _ _ _ _ => true
  | .pst _ _ _ _ _ => true
  | .pstv _ _ _ _ _ => true
  | .patom _ _ _ _ _ _ _ => true
  | .fence _ _ => true
  | .fenceW _ _ => true
  | .fenceR _ _ => true
  | .copy _ _ _ _ _ _ _ _ => true
  | .cabort _ _ _ => true
  | .cstat _ _ _ _ => true
  | .msg _ _ _ _ _ => true
  | .redc _ _ _ _ => true
  | .attn _ _ _ _ => true
  | .mvsv _ _ _ _ _ => true
  | .mvvs _ _ _ _ _ => true
  | .podResultReturn _ _ => true
  | .copyClassBeat _ _ => true
  | .frozenBank _ => true
  | .coreStoreScrub _ upsets => distinct (upsets.map (·.1))
  | .start _ _ _ => true
  | .stop _ _ _ _ => true
  | .clrFault _ _ => true
  | .stopDrainComplete _ => true
  | .haltDrainComplete _ => true
  | .faultDrainComplete _ => true
  | .coreMapWrite _ _ => true
  | .srSeedVWrite _ _ => true
  | .srSeedMWrite _ _ => true
  | .stewardImemWrite _ _ _ _ => true
  | .stewardStoreAccess _ _ _ _ => true
  | .stewardCairnAdd _ _ _ => true
  | .programLoad _ image _ => atMost 0x100040 image
  | .l1EntryRequest _ _ => true
  | .l1Wake _ => true
  | .cairnCtrlWrite _ _ => true
  | .watchdogFire _ => true
  | .cairnDumpGo _ => true
  | .cairnDumpComplete _ => true
  | .load8 _ => true
  | .load512 _ => true
  | .store8 r => sized 8 r.data
  | .store512 r => sized 512 r.data
  | .atomic _ => true
  | .cairnAdd _ _ => true
  | .copyRead _ => true
  | .copyWrite r => atMost 4096 r.data && decide (r.data.length = r.length.toNat)
  | .msgArrival r => atMost 512 r.data
  | .podResponse _ _ => true
  | .responseTimerExpiry _ _ => true
  | .homeHoldTimer _ _ _ => true
  | .sendSlotRelease _ => true
  | .combineWindowClose line => line.toNat % 64 == 0
  | .copyComplete _ _ => true
  | .granuleOwnerWrite _ _ _ => true
  | .podSeqWrite _ _ => true
  | .podCfgWrite _ => true
  | .streamLimitRaise _ => true
  | .redcContribution r => sized 512 r.data
  | .reductionRoundDelivery _ _ _ => true
  | .stageForward _ _ => true
  | .reductionArm _ _ => true
  | .reductionDisarm _ _ => true
  | .reductionKill _ _ => true
  | .attnSegment _ => true
  | .segmentPartialComplete _ => true
  | .partialRecord _ _ p => decide (p.rows.length ≤ 16)
  | .attnCompletion _ _ => true
  | .saddleFlit _ _ _ _ _ => true
  | .saddleReplayRequest _ _ => true
  | .creditReturn _ _ _ _ => true
  | .multicastReserve _ _ => true
  | .identityFlitDue _ _ _ => true
  | .idleFlit _ _ _ _ => true
  | .identityTimeout _ _ _ => true
  | .planeStateChange _ _ _ _ => true
  | .loopTestGo _ _ => true
  | .loopTestComplete _ _ _ _ => true
  | .ringSearchComplete _ _ _ => true
  | .ringTrackUpdate _ _ _ _ => true
  | .ridgeStartupPhase phase => distinct phase.failed
  | .calRunStart _ _ _ _ => true
  | .calRunComplete _ _ _ => true
  | .calRunTimeout _ => true
  | .calGapWrite _ => true
  | .calGapExpiry => true
  | .overdue _ => true
  | .fadeMeasurement _ _ => true
  | .handover _ => true
  | .warmupComplete _ => true
  | .warmupTimeout _ => true
  | .overlapEnd _ => true
  | .laserSelfTest _ _ => true
  | .lossOfSignal _ _ _ => true
  | .laserInsertion _ => true
  | .laserRemoval _ => true
  | .latchOpen _ => true
  | .casobDataFlit _ _ _ => true
  | .nak _ _ _ => true
  | .sync _ _ _ => true
  | .remap _ _ _ => true
  | .retrain _ _ _ => true
  | .linkCommandRepeat _ _ => true
  | .casobIdleFlit _ _ _ => true
  | .forcedIdleFlit _ _ => true
  | .trainingComplete _ _ _ => true
  | .trainingTimeout _ => true
  | .portRetryTimer _ => true
  | .casobRetrainWrite _ => true
  | .laneFail _ _ _ => true
  | .partialReset _ => true
  | .spurResetRelease => true
  | .spurPowerTrip => true
  | .spurTrainingDeadline => true
  | .spurOutboundMessage _ => true
  | .spurInboundRequest _ _ _ => true
  | .firewallRateRelease _ => true
  | .viaTest _ _ => true
  | .retireGo _ _ => true
  | .retirementComplete _ => true
  | .stackScrub _ upsets => distinct upsets
  | .refresh _ _ => true
  | .layerTemperatureCheck _ sensors power _ _ => decide (sensors.length = 16 ∧ power.length = 16)
  | .stressCorrection _ _ _ => true
  | .marginSample _ _ _ => true
  | .droopDetect r => regionOk r
  | .stretchTokenApply r => regionOk r
  | .heldDetectionRetry r _ => regionOk r
  | .colAlarm writer reader _ => regionOk writer && regionOk reader
  | .stepCountCheck _ _ => true
  | .rootStep => true
  | .regionStop r => r.all regionOk
  | .regionRestart r => r.all regionOk
  | .clkPointWrite _ => true
  | .marginWarning r _ => regionOk r
  | .marginWarningClear r _ => regionOk r
  | .marginLowerStep r => regionOk r
  | .referenceLoss _ => true
  | .referenceFallback _ => true
  | .referenceRelock _ => true
  | .referenceRelockComplete _ => true
  | .linkDataFlit _ _ => true
  | .linkTrainingComplete _ _ _ _ => true
  | .linkDown _ => true
  | .linkRetryTimer _ => true
  | .podMessageIngress m => podOk m
  | .e2eAck _ _ => true
  | .e2eResendTimeout _ _ => true
  | .gatewayForward m _ => podOk m
  | .routeRefused m => podOk m
  | .heartbeatSend => true
  | .heartbeatTimeout _ => true
  | .deviceDeadDeclaration _ => true
  | .prepare _ _ => true
  | .routeDrainEnd => true
  | .drained _ _ => true
  | .swap _ _ => true
  | .ringHoldRefresh => true
  | .ringBypass => true
  | .summitSnapshot image => atMost 0x1000000 image
  | .fabricCommand _ _ => true
  | .summitHandover _ => true
  | .standbyStarted => true
  | .summitOverlapEnd => true
  | .summitSelfTest _ => true
  | .join _ _ => true
  | .outingCreate _ cores granules _ => distinct cores && distinct granules
  | .outingLive _ => true
  | .teardown _ _ => true
  | .torn _ _ => true
  | .eventRecordAppend _ _ => true
  | .suppressionIntervalEnd => true
  | .logBaseWrite _ => true
  | .fenceWrite _ _ => true
  | .substWrite _ _ _ => true
  | .regionPowerFail _ => true
  | .substDrainComplete _ => true
  | .substCopyComplete _ => true
  | .triplicateCheck addr _ => addr.toNat % 8 == 0
  | .vinOvervoltage => true
  | .vinLowBand _ => true
  | .vinLowBandExit _ => true
  | .powerWarning => true
  | .shedComplete => true
  | .warningClear => true
  | .brownOut => true
  | .saving _ => true
  | .resumed _ => true
  | .saveComplete _ area => atMost 0x1000000 area
  | .saveWaitTimeout => true
  | .restoreStart => true
  | .restoreComplete => true
  | .powerSample _ _ _ _ _ => true
  | .currentTrip => true
  | .sensorCheck _ diode ring => decide (diode.length = ring.length)
  | .thermalLowerStep => true
  | .thermalShutdown _ => true
  | .corePwrL2 _ => true
  | .corePwrL3 _ => true
  | .corePwrL4 _ => true
  | .positionWakeComplete _ => true
  | .modulePwrRun => true
  | .modulePwrL5 => true
  | .modulePwrL6 => true
  | .moduleWake => true
  | .bootRoundStart _ _ => true
  | .bootRetryTimer _ _ => true
  | .stage2Timeout _ => true
  | .ready => true
  | .kick => true
  | .stewardWatchdogExpiry => true
  | .extend => true
  | .setUserData => true
  | .enrol _ _ => true
  | .revoke _ _ => true
  | .advance _ _ _ => true
  | .secCommandComplete => true
  | .machineTimer _ => true
  | .bootOffer _ _ => true
  | .bootData _ _ data => atMost 1024 data && !data.isEmpty
  | .bootOfferTimeout => true
  | .bootDataTimeout => true
  | .attestReq _ _ => true
  | .attestReply => true
  | .hostRead _ _ => true
  | .hostWrite _ _ _ => true
  | .hostCairnRead _ _ => true
  | .hostCairnAdd _ _ _ => true
  | .hostStatus _ _ => true
  | .hostMailbox _ data => atMost 1024 data
  | .hostNameSummit _ => true
  | .firmwareFrame frame => atMost 1518 frame
  | .i3cDynamicAddress _ => true
  | .i3cPrivateWrite _ _ _ => true
  | .i3cCommonCommand _ => true
  | .resetNAssert => true
  | .resetNRelease _ _ => true
  | .bypass => true
  | .samplePreload _ => true
  | .extest _ => true
  | .idcode => true
  | .inrush => true
  | .powerOnResetRelease _ => true
  | .mgmtLinkStateChange _ => true
  | .rateMatchIdle _ _ => true
  | .statusWindowPush _ => true
  | .supplyMargin _ => true
  | .badFrame _ _ => true
  | .jtagTrstN => true

end Sys2Proof
end

