-- ==== Sys2Proof/Tests/Slice0.lean ====
section
/-! SUPPORT. Tests: well-formedness refuses what each check names; the manual's printed values; one witness for each hypothesis of
the obligations; single steps. -/

namespace Sys2Proof.Tests

open Sys2Proof Sys2Proof.Machine

set_option Elab.async false

/-! ### States the tests start from -/

/-- Position 0 as `f` makes it, everything else at reset. -/
def core0 (f : Core → Core) : State := State.reset.modCore 0 f

/-- Position 0 RUNNING at bundle 0. -/
def run0 : State := core0 (fun c => { c with st := .running })

def c0 : CoreRef := ⟨0, 0⟩

/-- Companions that are all NOP. -/
abbrev on : Others := nopOthers

/-- The next state of an outcome, reset where there is none. -/
def after (o : Host.Outcome State Fault Refusal) : State :=
  match o with
  | .next t => t
  | _ => State.reset

/-! ### Well-formedness: one ill-formed command for each check -/

/-- A request without data. -/
def bare (a : Word) : Req := { Req.blank with address := a }

def podMsg (src dst : Fin 64) : PodMsg := ⟨src, dst, 0, 0, 0, 0x3FF, .request .load8 false (bare 0)⟩

theorem wellFormed_refuses : ∀ i ∈ [Instr.coreStoreScrub c0 [(1, false), (1, true)], .store8 (bare 0), .store512 (bare 0),
    .copyWrite { bare 0 with length := 64 }, .redcContribution (bare 0), .combineWindowClose 8, .ridgeStartupPhase ⟨160, [(1, 2), (1, 2)]⟩,
    .stackScrub 0 [3, 3], .layerTemperatureCheck 0 [] [] 0 0, .droopDetect ⟨13, 31⟩, .stretchTokenApply ⟨13, 31⟩,
    .heldDetectionRetry ⟨13, 31⟩ false, .colAlarm ⟨0, 0⟩ ⟨13, 31⟩ 0, .regionStop (some ⟨13, 31⟩), .regionRestart (some ⟨13, 31⟩),
    .marginWarning ⟨13, 31⟩ 0, .marginWarningClear ⟨13, 31⟩ 0, .marginLowerStep ⟨13, 31⟩, .podMessageIngress (podMsg 1 1),
    .gatewayForward (podMsg 1 1) none, .routeRefused (podMsg 1 1), .outingCreate 0 [c0, c0] [] 0, .outingCreate 0 [] [(0, 1), (0, 1)] 0,
    .triplicateCheck 4 (0, 0, 0), .sensorCheck 0 [1] [], .bootData ⟨0, 0⟩ 0 []], i.wellFormed = false := by
  decide +kernel

theorem wellFormed_refuses_long : ∀ i ∈ [Instr.msgArrival { bare 0 with data := List.replicate 513 0 },
    .hostMailbox ⟨0, 0⟩ (List.replicate 1025 0), .bootData ⟨0, 0⟩ 0 (List.replicate 1025 0), .firmwareFrame (List.replicate 1519 0)],
    i.wellFormed = false := by
  decide +kernel

theorem tooLong (n m : Nat) (h : n < m) : atMost n (List.replicate m (0 : Byte)) = false :=
  decide_eq_false (by rw [List.length_replicate]; omega)

theorem wellFormed_refuses_longest : (Instr.programLoad c0 (List.replicate 0x100041 0) false).wellFormed = false
    ∧ (Instr.summitSnapshot (List.replicate 0x1000001 0)).wellFormed = false
    ∧ (Instr.saveComplete false (List.replicate 0x1000001 0)).wellFormed = false
    ∧ (Instr.copyWrite { bare 0 with data := List.replicate 4097 0, length := 4097 }).wellFormed = false :=
  ⟨tooLong _ _ (by decide), tooLong _ _ (by decide), tooLong _ _ (by decide), by
    rw [show ∀ r, (Instr.copyWrite r).wellFormed = (atMost 4096 r.data && decide (r.data.length = r.length.toNat)) from fun _ => rfl,
      tooLong 4096 4097 (by decide), Bool.false_and]⟩

theorem wellFormed_refuses_rows : (Instr.partialRecord c0 0 ⟨0, 0, 0, 0, List.replicate 17 []⟩).wellFormed = false := by
  decide +kernel

theorem wellFormed_accepts : ∀ i ∈ [Instr.add c0 on 1 2 3, .store8 { bare 0 with data := List.replicate 8 0 }, .droopDetect ⟨0, 9⟩,
    .podMessageIngress (podMsg 1 2), .triplicateCheck 8 (0, 0, 0)], i.wellFormed = true := by
  decide +kernel

/-! ### The manual's printed words ("A bundle, bit by bit") -/

theorem word_add : slotWord (.add c0 on 3 1 2) = some (c0, 0, on, 0x080C108000000000) := by decide +kernel

theorem word_mma : slotWord (.mma c0 on 4 8 10 0x0A 0x0A false) = some (c0, 2, on, 0x1021052940000000) := by decide +kernel

theorem word_copy : slotWord (.copy c0 on 20 21 22 5 2 0) = some (c0, 3, on, 0x2851558014800000) := by decide +kernel

/-- Words written out from the format tables: SI (OP, RD, RA, IMM), VM (OP, VD, RA, PR, IMM), XC (OP, RD, RA, RB, C, CONS, AF, IMM). -/
theorem words_of_formats : ∀ p ∈ [(Instr.addi c0 on 2 5 1, (0 : Nat), 0x18 * 2 ^ 56 + 2 * 2 ^ 50 + 5 * 2 ^ 44 + 1),
    (.ld c0 on 2 5 0xFFFFFFF8, 0, 0x38 * 2 ^ 56 + 2 * 2 ^ 50 + 5 * 2 ^ 44 + 0xFFFFFFF8),
    (.vld c0 on 2 5 3 0x3FFFF, 1, 0x58 * 2 ^ 56 + 2 * 2 ^ 50 + 5 * 2 ^ 44 + 3 * 2 ^ 28 + 0x3FFFF),
    (.cwait c0 on 6 40 true 9, 3, 0x0A * 2 ^ 56 + 6 * 2 ^ 38 + 40 * 2 ^ 26 + 2 ^ 25 + 9),
    (.rcadd c0 on 5 6 true 9, 3, (0x10 * 2 ^ 56 + 5 * 2 ^ 44 + 6 * 2 ^ 38 + 2 ^ 24 + 9 : Word))],
    (slotWord p.1 == some (c0, p.2.1, on, p.2.2)) = true := by
  decide +kernel

theorem word_bad_cadd : effX 0x0804000014000000 run0 0 = .bad := by decide +kernel

/-! ### Witnesses: the queue, the slots -/

theorem witness_StepRunsTheFrontCommand : ({ State.reset with pending := [.kick] } : State).pending = Instr.kick :: [] := by decide +kernel

theorem witness_IdleStepIsOneCycle : State.reset.pending = [] := by decide +kernel

theorem witness_SlotWordsDecodeToTheirInstruction :
    bundleOf (.vtrd c0 on 1 2 3 true 4) = some (c0, [0, (slotWord (.vtrd c0 on 1 2 3 true 4)).elim 0 (·.2.2.2), 0, 0]) := by decide +kernel

theorem witness_ZeroSlotIsNop : (1 : Word) ≠ 0 ∧ fld 63 56 (1 : Word) = 0 := by decide +kernel

theorem witness_ScalarResults : ∀ i ∈ [Instr.add c0 on 0 1 2, .sub c0 on 3 1 2, .and c0 on 3 1 2, .or c0 on 3 1 2, .xor c0 on 3 1 2, .sll c0 on 3 1 2,
    .srl c0 on 3 1 2, .sra c0 on 3 1 2, .slt c0 on 3 1 2, .sltu c0 on 3 1 2, .seq c0 on 3 1 2, .min c0 on 3 1 2, .max c0 on 3 1 2,
    .minu c0 on 3 1 2, .maxu c0 on 63 63 63, .addi c0 on 0 1 5, .subi c0 on 3 1 5, .andi c0 on 3 1 5, .ori c0 on 3 1 5, .xori c0 on 3 1 5,
    .slli c0 on 3 1 5, .srli c0 on 3 1 5, .srai c0 on 3 1 5, .slti c0 on 3 1 5, .sltui c0 on 3 1 5, .seqi c0 on 3 1 5, .mini c0 on 3 1 5,
    .maxi c0 on 3 1 5, .minui c0 on 3 1 5, .maxui c0 on 3 1 5, .sethi c0 on 63 63 0xFFFFFFFF], run0.canIssue i = true := by
  decide +kernel

theorem witness_LongOperationsInFlight :
    (∀ i ∈ [Instr.mul c0 on 0 1 2, .mulh c0 on 3 1 2, .mulhu c0 on 3 1 2, .crr c0 on 3 1, .ld c0 on 3 1 8, .st c0 on 3 1 8, .vld c0 on 3 1 2 1,
      .vst c0 on 3 1 2 1], run0.canIssue i = true) ∧ crRead (run0.cycleStart 0) 0 1 = some 0 := by
  decide +kernel

theorem witness_BranchesHaltAndNop : ∀ i ∈ [Instr.beq c0 on 1 2 5, .bne c0 on 1 2 5, .blt c0 on 1 2 5, .bge c0 on 1 2 5, .bltu c0 on 1 2 5,
    .bgeu c0 on 1 2 5, .j c0 on 5, .jal c0 on 0 5, .jal c0 on 3 5, .jr c0 on 1, .jalr c0 on 3 1, .halt c0 on, .nop c0 on 0, .nop c0 on 3],
    run0.canIssue i = true ∧ (run0.core 0).st = .running := by
  decide +kernel

theorem witness_ControlWritesLand : ∀ i ∈ [Instr.crw c0 on 1 1, .crw c0 on 1 2, .crw c0 on 1 3],
    run0.canIssue i = true ∧ (run0.core 0).nothingDue = true ∧ (run0.core 0).landed = 0 := by
  decide +kernel

/-- Lane 127 alone is governed by p1. -/
def runLast : State := run0.modCore 0 (fun c => c.setP 1 (1 <<< 127))

theorem witness_VectorIntegerResults : ∀ i ∈ [Instr.vadd c0 on 3 1 2 1 0, .vsub c0 on 3 1 2 1 0, .vand c0 on 3 1 2 1 0, .vor c0 on 3 1 2 1 0,
    .vxor c0 on 3 1 2 1 0, .vsll c0 on 3 1 2 1 0, .vsrl c0 on 3 1 2 1 0, .vsra c0 on 3 1 2 1 0, .vmin c0 on 3 1 2 1 0, .vmax c0 on 3 1 2 1 0,
    .vadd c0 on 3 1 2 1 1, .vsub c0 on 3 1 2 1 1, .vand c0 on 3 1 2 1 1, .vor c0 on 3 1 2 1 1, .vxor c0 on 3 1 2 1 1, .vsll c0 on 3 1 2 1 1,
    .vsrl c0 on 3 1 2 1 1, .vsra c0 on 3 1 2 1 1, .vmin c0 on 3 1 2 1 1, .vmax c0 on 3 1 2 1 1],
    runLast.canIssue i = true ∧ ((runLast.core 0).readP 1).getLsbD 127 = true := by
  decide +kernel

theorem witness_VectorMoves : ∀ i ∈ [Instr.vsel c0 on 3 1 2 4 1, .vmov c0 on 3 1 1, .vbcast c0 on 3 1 1, .vperm c0 on 3 1 2 1,
    .vtrd c0 on 3 1 2 true 255], runLast.canIssue i = true ∧ ((runLast.core 0).readP 1).getLsbD 127 = true := by
  decide +kernel

theorem witness_VectorFloatResults : ∀ i ∈ [Instr.vfadd c0 on 3 1 2 1 false, .vfsub c0 on 3 1 2 1 false, .vfmul c0 on 3 1 2 1 false,
    .vfma c0 on 3 1 2 4 1 false, .vfmin c0 on 3 1 2 1, .vfmax c0 on 3 1 2 1],
    runLast.canIssue i = true ∧ ((runLast.core 0).readP 1).getLsbD 127 = true := by
  decide +kernel

theorem witness_ComparesAndPredicates : ∀ i ∈ [Instr.vcmpeq c0 on 3 1 2, .vcmplt c0 on 3 1 2, .vcmple c0 on 3 1 2, .vfcmpeq c0 on 3 1 2,
    .vfcmplt c0 on 3 1 2, .vfcmple c0 on 3 1 2, .pand c0 on 3 1 2, .por c0 on 3 1 2, .pxor c0 on 3 1 2, .pnot c0 on 0 1],
    run0.canIssue i = true := by
  decide +kernel

theorem witness_ConversionsAndReductions : ∀ i ∈ [Instr.vexp2 c0 on 3 1 1, .vrcp c0 on 3 1 1, .vrsqrt c0 on 3 1 1,
    .vcvt c0 on 3 1 0 0 1 12 0 false false 0, .vredsum c0 on 3 1 1 false, .vredmax c0 on 3 1 1],
    runLast.canIssue i = true ∧ ((runLast.core 0).readP 1).getLsbD 127 = true := by
  decide +kernel

/-! ### Witnesses: tiles, the X slot, landings and faults -/

theorem witness_MatrixResults : (∀ i ∈ [Instr.tinit c0 on 31 true, .mma c0 on 3 4 8 1 1 false, .mma c0 on 3 4 8 0x0A 0x0A true,
      .twr c0 on 3 4 0 false false, .twr c0 on 31 62 12 true true], run0.canIssue i = true)
    ∧ run0.format 0x0A = some .fp4ps ∧ NumFmt.fp4ps.opClass = some .fp4 ∧ run0.format 1 = some .bf16
    ∧ NumFmt.bf16.opClass = some .half ∧ run0.format 12 = NumFmt.ofCode 12 := by
  decide +kernel

theorem witness_CairnAndLaneOperations : ∀ i ∈ [Instr.cadd c0 on 1 4095 0xFFFF, .cset c0 on 1 5 3, .cread c0 on 63 5, .cstat c0 on 3 15,
    .mvvs c0 on 3 1 127, .mvsv c0 on 3 1 127, .mvsv c0 on 3 1 0], run0.canIssue i = true := by
  decide +kernel

/-- Position 0 RUNNING with cairn 5 at 7. -/
def waiting : State := run0.modCore 0 (fun c => c.setCairn 5 ⟨7, false, 2⟩)

theorem witness_CairnWaits :
    (waiting.canIssue (.cwait c0 on 0 5 true 7) = true ∧ waiting.canIssue (.cwait c0 on 0 5 true 0) = true
      ∧ (waiting.core 0).nothingDue = true)
    ∧ (waiting.clocked 0 = true ∧ (waiting.core 0).issuing = true ∧ (waiting.core 0).force = false ∧ (waiting.core 0).pc < 32767
      ∧ (waiting.core 0).st = .running ∧ ((waiting.core 0).cairn 5).count.toNat < 8) := by
  decide +kernel

theorem test_cwait_consumes : (((after (exec (.cwait c0 on 0 5 true 7) waiting)).core 0).cairn 5).count = 0
    ∧ ((after (exec (.cwait c0 on 0 5 true 8) waiting)).core 0).st = .frozenWait := by
  decide +kernel

/-- Position 0 RUNNING in outing 1, the pod of device 0 alone. -/
def inOuting : State := (run0.put CORE_OUTING_OUTING 0 1).setWord .POD_MEMBERS 0 1

/-- The pod operation of an instruction whose registers all read 0. -/
def op0 (s : State) (kind : OpKind) (r n : Nat) (data : Word) (f : Bool) : PodOp :=
  ⟨0, kind, 0, r, n, data, 0, 0, 0, f, 0, s.get CORE_OUTING_OUTING 0, none, none, false⟩

theorem witness_PodOperationsEnterThePort :
    (∀ p ∈ [(Instr.rcadd c0 on 1 2 true 5, op0 inOuting .rcadd 0 0 5 true), (.pld c0 on 63 1 5, op0 inOuting .pld 63 5 0 false),
        (.pldv c0 on 3 1 5, op0 inOuting .pldv 3 5 0 false), (.pst c0 on 3 1 5, op0 inOuting .pst 3 5 0 false),
        (.pstv c0 on 3 1 5, op0 inOuting .pstv 3 5 0 false), (.patom c0 on 3 1 2 5 0, op0 inOuting .patom 3 5 0 false),
        (.msg c0 on 3 1 5, op0 inOuting .msg 3 5 0 false), (.redc c0 on 3 1, op0 inOuting .redc 3 0 0 false),
        (.attn c0 on 1 5, op0 inOuting .attn 0 5 0 false)],
      inOuting.canIssue p.1 = true ∧ inOuting.portCheck 0 p.2 = .ok)
    ∧ run0.portCheck 0 (op0 run0 .pst 3 5 0 false) = .refuse 2 ∧ run0.canIssue (.pst c0 on 3 1 5) = true
    ∧ run0.get CORE_FAULT_CODE 0 = 0 ∧ (run0.core 0).nothingDue = true := by
  decide +kernel

/-- Channel 3 ACTIVE with nothing on its way. -/
def copying : State := inOuting.modCore 0 (fun c => { c with copies := [(3, { Copy.idle with status := 1 })] })

theorem witness_FencesAndCopies : (∀ i ∈ [Instr.fence c0 on, .fenceW c0 on, .fenceR c0 on, .copy c0 on 1 2 3 5 4 1, .cabort c0 on 3, .cabort c0 on 4],
      copying.canIssue i = true) ∧ run0.copyCheck ⟨4, 0, 0, 0, 5, 1⟩ (run0.get CORE_OUTING_OUTING 0) = some 2
    ∧ run0.canIssue (.copy c0 on 1 2 3 5 4 1) = true ∧ ((copying.core 0).copy 3).status = 1 ∧ ((copying.core 0).copy 3).flight = none
    ∧ ((copying.core 0).copy 3).lost = false ∧ ((copying.core 0).copy 4).status ≠ 1 ∧ (copying.core 0).aborts = []
    ∧ (∀ n ∈ [3, 4], ((copying.modCore 0 (fun c => { c with aborts := [n] })).core 0).aborts = [n]) := by
  decide +kernel

theorem witness_SlotFrame : ∀ p ∈ [(Instr.add c0 on 0 1 2, (0 : Nat)), (.crw c0 on 1 2, 0), (.vadd c0 on 3 1 2 1 0, 1), (.tinit c0 on 3 true, 2),
      (.cadd c0 on 1 5 3, 3), (.nop c0 on 3, 3)],
    ((slotWord p.1).elim false (fun x => x.2.1 == p.2 && x.2.2.1 == nopOthers
      && (x.2.1 != 3 || [0x00, 0x08, 0x09, 0x0B, 0x2A, 0x40, 0x41].contains (fld 63 56 x.2.2.2)))) = true
      ∧ run0.canIssue p.1 = true ∧ (run0.core 0).nothingDue = true ∧ (run0.core 0).aborts = [] := by
  decide +kernel

/-- An operation of the bundle at 7. -/
def due (a : Act) : Item := ⟨0, 0, 7, 0, a⟩

theorem witness_DueOperationsLand : (due (.s 0 5)).act = .s 0 5 ∧ (due (.v 31 5 1)).act = .v 31 5 1 ∧ (due (.p 0 5)).act = .p 0 5
    ∧ (due (.t 31 Tile.zero)).act = .t 31 Tile.zero ∧ (due (.flags 1)).act = .flags 1 ∧ (due (.write 8 [(1, true)])).act = .write 8 [(1, true)]
    ∧ (due (.cairnAdd 4095 0xFFFFFFFF)).act = .cairnAdd 4095 0xFFFFFFFF ∧ (due (.cairnSet 0 5)).act = .cairnSet 0 5 := by
  decide +kernel

/-- Position 0 RUNNING with word 1 of its store uncorrectable. -/
def badStore : State := run0.modCore 0 (fun c => c.setEcc 1 .bad)

/-- A plane of 4 KiB at 4,096. -/
def piece : Piece := ⟨true, 0, 4096, 4096⟩

theorem witness_DueReadsOfTheStore : (due (.readS 3 8)).act = .readS 3 8 ∧ (run0.core 0).badWords 8 8 = [] ∧ (badStore.core 0).badWords 8 8 ≠ []
    ∧ (badStore.core 0).st = .running ∧ badStore.get CORE_FAULT_CODE 0 = 0 ∧ (due (.readS 3 8)).slot < 16
    ∧ (run0.core 0).badWords 1024 512 = [] ∧ (run0.core 0).badWords piece.addr piece.size = [] ∧ (run0.core 0).parityOf 3 31 = 0 := by
  decide +kernel

/-- Bundle 0 holds a program of one ADD and a HALT. -/
def loaded : State := run0.modCore 0 (fun c => { c with imem := [(0, 0x080C108000000000)] })

theorem witness_FetchRunsTheStoredBundle : (loaded.core 0).force = false ∧ (∀ i < 4, (loaded.core 0).imemState ((loaded.core 0).pc * 4 + i) = .good)
    ∧ (loaded.core 0).issuing = true := by
  decide +kernel

/-- A load outside the store. -/
def farLoad : Instr := .ld c0 on 3 0 0x7FFFFFF8

theorem witness_FaultingBundleDoesNotIssue : bundleOf farLoad = some (c0, [0x380C00007FFFFFF8, 0, 0, 0]) ∧ run0.clocked 0 = true
    ∧ (run0.core 0).issuing = true ∧ (run0.core 0).force = false
    ∧ (run0.cycleStart 0).satisfied 0 (run0.bundleAt 0 [0x380C00007FFFFFF8, 0, 0, 0]) = true
    ∧ (((run0.cycleStart 0).bundleFaults 0 (run0.bundleAt 0 [0x380C00007FFFFFF8, 0, 0, 0])).map (fun f => f.code % 256)) = [4]
    ∧ run0.get CORE_FAULT_CODE 0 = 0 := by
  decide +kernel

theorem witness_MemoriesStayCanonical : State.reset.memoriesWf ∧ ({ run0 with pending := [.st c0 on 1 0 8] } : State).runsCore := by
  refine ⟨⟨fun k => ?_, fun m => ?_, rfl, rfl, rfl⟩, (by decide +kernel : (slotWord (.st c0 on 1 0 8)).isSome = true)⟩
  · rfl
  · rfl

/-! ### Witnesses: control of cores, waits -/

/-- Position 0 in a state, with a fault recorded. -/
def inState (st : CoreSt) : State := (core0 (fun c => { c with st := st, drain := if st = .running then .stop else .none })).put CORE_FAULT_CODE 0 5

theorem witness_StartStopAndClear : ((inState .stopped).core 0).st = .stopped ∧ ((inState .halted).core 0).st = .halted
    ∧ (inState .stopped).get MODULE_PWR_RUNG 0 ≠ 5 ∧ ((inState .faulted).core 0).st = .faulted ∧ ((inState .frozenWait).core 0).st = .frozenWait
    ∧ ((inState .running).core 0).st = .running := by
  decide +kernel

theorem test_start_runs : ((after (exec (.start c0 0x7FFF false) (inState .stopped))).core 0).pc = 0x7FFF := by decide +kernel

/-- Position 0 FAULTED with one register write in flight. -/
def faulting : State := core0 (fun c => { c with st := .faulted, pipe := [due (.s 3 5)] })

theorem witness_DrainsEnd : ((inState .running).core 0).st = .running ∧ ((inState .running).core 0).drain = .stop
    ∧ ((inState .running).core 0).pipe = [] ∧ (inState .faulted).core 0 ≠ (inState .running).core 0
    ∧ ((core0 (fun c => { c with st := .running, drain := .halt })).core 0).drain = .halt
    ∧ (faulting.core 0).pipe = [due (.s 3 5)] ∧ (due (.s 3 5)).due = (faulting.core 0).cyc ∧ (faulting.core 0).st = .faulted
    ∧ (faulting.core 0).force = false := by
  decide +kernel

/-- Die 0 with position 2 FENCED, position 8 spare. -/
def fenced2 : State := State.reset.modCore 2 (fun c => { c with st := .fenced })

theorem witness_StewardWritesToCores : State.reset.get FENCE_STATUS_SUBST_STATE 0 ≠ 3 ∧ fenced2.word .CORE_MAP 0 = 0x876543210
    ∧ (0xF76543810 : Word) &&& 0xFFFFFFFFF#64 = 0xF76543810 ∧ fenced2.isFenced 2 = true ∧ (fenced2.core 8).st = .stopped
    ∧ fenced2.get FENCE_STATUS_SUBST_STATE 0 = 0 ∧ (fenced2.put FENCE_STATUS_SUBST_STATE 0 3).get FENCE_STATUS_SUBST_STATE 0 = 3
    ∧ (fenced2.put FENCE_STATUS_SUBST_STATE 0 3).isFenced 2 = true ∧ SMap.get fenced2.held 0 [] = []
    ∧ 0x876543210 / 2 ^ (4 * 8) % 16 = 8 ∧ 0xF76543810 / 2 ^ (4 * 2) % 16 = 8 ∧ 0xF76543810 / 2 ^ (4 * 8) % 16 = 15 ∧ (∀ j < 8, j ≠ 2 → 0xF76543810 / 2 ^ (4 * j) % 16 = 0x876543210 / 2 ^ (4 * j) % 16)
    ∧ (∀ i < 8, 0xF76543210 / 2 ^ (4 * i) % 16 = 0x876543210 / 2 ^ (4 * i) % 16) := by
  decide +kernel

/-- An image of one bundle at bundle 0, entry 0, level 1, as the loader's format lays it out. -/
def image : List Byte :=
  let h : List Byte := toLE 4 0x4853544F ++ [1, 0, 1, 1] ++ toLE 4 1 ++ toLE 2 0 ++ toLE 2 0 ++ List.replicate 8 0
    ++ toLE 4 (crc32c (List.replicate 32 0)).toNat ++ List.replicate 32 0
  h ++ toLE 4 (crc32c h).toNat ++ List.replicate 32 0

theorem witness_StewardStoreAndPrograms : (0x3FFFFF8 : Nat) % 8 = 0 ∧ (State.reset.core 0).bankFree (0x3FFFFF8 / 256 % 16) = true
    ∧ State.reset.loadReason 0 image false = none ∧ State.reset.loadReason 0 (image.take 95) false = some 7 := by
  decide +kernel

/-- Position 0 RUNNING with a program footprint on bank 3 and beats that wait for bank 5. -/
def banked : State := run0.modCore 0 (fun c => { c with claims := [⟨0, 0, 8, 0⟩], beats := [⟨5, 0, 0⟩, ⟨6, 0, 0⟩] })

/-- Position 0 at the last beat of its store. -/
def lastBeat : State := run0.put STORE_SCRUB_NEXT_BEAT 0 262143

/-- A pod load that has its data. -/
def returned : PodOp := { op0 inOuting .pld 3 5 0 false with seq := some 9, back := some (toLE 8 77) }

theorem witness_BeatsScrubAndReturns : (banked.core 0).claimedNow.getLsbD 3 = true ∧ banked.clocked 0 = true
    ∧ (banked.core 0).claimedNow.getLsbD 5 = false ∧ (banked.core 0).beats = [⟨5, 0, 0⟩, ⟨6, 0, 0⟩]
    ∧ ((run0.modCore 0 (fun c => { c with force := true })).core 0).issuing = true ∧ run0.clocked 0 = true
    ∧ ((run0.modCore 0 (fun c => { c with force := true })).core 0).beats = [] ∧ (run0.core 0).force = false
    ∧ lastBeat.get STORE_SCRUB_NEXT_BEAT 0 = 262143 ∧ (lastBeat.core 0).bankFree (262143 % 16) = true
    ∧ (banked.put STORE_SCRUB_NEXT_BEAT 0 5 |>.core 0).bankFree 5 = false
    ∧ [returned].find? (fun o => o.seq == some 9 && o.back.isSome) = some returned ∧ returned.kind = .pld ∧ (inOuting.core 0).st ≠ .fenced
    ∧ (State.reset.windowPass 0 1 (State.reset.stream 0) 9).1 = true := by
  decide +kernel

/-- Position 0 holds the bundle of a CWAIT on cairn 5, at 7. -/
def heldAt (thr : BitVec 16) : State :=
  ((core0 (fun c => { c.setCairn 5 ⟨7, false, 2⟩ with
      st := .frozenWait, held := some (BitVec.ofNat 256 (((slotWord (.cwait c0 on 0 5 true thr)).elim 0 (fun x => x.2.2.2.toNat)) * 2 ^ 192)) })).put
    WAIT_STATE_CAIRN 0 5)

theorem heldAt7_waits : (heldAt 7).heldWait 0 0 5 true 7 :=
  ⟨((heldAt 7).core 0).held.getD 0, c0, by decide +kernel, by decide +kernel, by decide +kernel, by decide +kernel, by decide +kernel,
    by decide +kernel, by decide +kernel, by decide +kernel, by decide +kernel, by decide +kernel, by decide +kernel⟩

theorem heldAt8_waits : (heldAt 8).heldWait 0 0 5 true 8 :=
  ⟨((heldAt 8).core 0).held.getD 0, c0, by decide +kernel, by decide +kernel, by decide +kernel, by decide +kernel, by decide +kernel,
    by decide +kernel, by decide +kernel, by decide +kernel, by decide +kernel, by decide +kernel, by decide +kernel⟩

/-- The watchdog's limit is reached. -/
def watched : State := ((heldAt 8).put CAIRN_CTRL_A1_WDOG 0 1).put WAIT_AGE_CURRENT 0 ((heldAt 8).get CAIRN_CTRL_WDOG_LIMIT 0 * 1024)

theorem watched_waits : watched.heldWait 0 0 5 true 8 :=
  ⟨(watched.core 0).held.getD 0, c0, by decide +kernel, by decide +kernel, by decide +kernel, by decide +kernel, by decide +kernel,
    by decide +kernel, by decide +kernel, by decide +kernel, by decide +kernel, by decide +kernel, by decide +kernel⟩

theorem witness_HeldWaitsEnd : (heldAt 7).heldWait 0 0 5 true 7 ∧ ((heldAt 7).core 0).l1 = false ∧ 7 ≤ (((heldAt 7).core 0).cairn 5).count.toNat
    ∧ (heldAt 8).heldWait 0 0 5 true 8 ∧ (((heldAt 8).core 0).cairn 5).count.toNat < 8 ∧ watched.heldWait 0 0 5 true 8
    ∧ watched.flag CAIRN_CTRL_A1_WDOG 0 = true ∧ watched.get CAIRN_CTRL_WDOG_LIMIT 0 * 1024 ≤ watched.get WAIT_AGE_CURRENT 0
    ∧ ((watched.core 0).cairn 4095).count.toNat + 1 < 2 ^ 32 ∧ (heldAt 7).flag CAIRN_CTRL_A1_WDOG 0 = false :=
  ⟨heldAt7_waits, by decide +kernel, by decide +kernel, heldAt8_waits, by decide +kernel, watched_waits, by decide +kernel, by decide +kernel,
    by decide +kernel, by decide +kernel⟩

theorem test_watchdog : (after (exec (.watchdogFire c0) watched)).get CAIRN_STATS_WDOG_FIRES 0 = 1 := by decide +kernel

/-- A wait due for gating, and one gated. -/
def gateDue : State := ((heldAt 8).put CAIRN_CTRL_GATE_EN 0 1).modCore 0 (fun c => { c with waitCount := 65535 })

def gated : State := gateDue.modCore 0 (fun c => { c with l1 := true, wakeAsked := true })

/-- A gated wait on cairn 5, at 7, whose threshold is `thr`. -/
def gatedAt (thr : BitVec 16) : State :=
  ((heldAt thr).put WAIT_STATE_THRESHOLD 0 thr.toNat).modCore 0 (fun c => { c with l1 := true, wakeAsked := true })

/-- The gated core whose clock runs again. -/
def woken (thr : BitVec 16) : State := (gatedAt thr).ungate 0

theorem gated_held : heldWords (((gatedAt 7).core 0).held.getD 0) = [0, 0, 0, 0xa00000016000007]
    ∧ heldWords (((gatedAt 8).core 0).held.getD 0) = [0, 0, 0, 0xa00000016000008] := by
  decide +kernel

theorem woken_states : (woken 7).satisfied 0 ((woken 7).decodeBundle 0 (heldWords (((gatedAt 7).core 0).held.getD 0))) = true
    ∧ (woken 8).satisfied 0 ((woken 8).decodeBundle 0 (heldWords (((gatedAt 8).core 0).held.getD 0))) = false
    ∧ (∀ n ∈ [(7 : BitVec 16), 8], (gatedAt n).clocked 0 = true ∧ ((gatedAt n).core 0).st = .frozenWait
      ∧ ((gatedAt n).core 0).l1 = true ∧ ((gatedAt n).core 0).wakeAsked = true ∧ ((gatedAt n).core 0).held.isSome = true) := by
  rw [gated_held.1, gated_held.2]
  exact ⟨by decide +kernel, by decide +kernel, List.forall_mem_cons.2 ⟨by decide +kernel, List.forall_mem_singleton.2 (by decide +kernel)⟩⟩

theorem asked_state : (let u := (gatedAt 8).outsideAdd 0 5 1 5
       u.get WAIT_STATE_THRESHOLD 0 ≤ ((u.core 0).cairn ((gatedAt 8).get WAIT_STATE_CAIRN 0)).count.toNat) := by
  decide +kernel

theorem witness_WaitsAreGated : ((gateDue.core 0).st = .frozenWait ∧ (gateDue.core 0).l1 = false ∧ gateDue.flag CAIRN_CTRL_GATE_EN 0 = true
      ∧ gateDue.flag CAIRN_CTRL_A1_WDOG 0 = false ∧ gateDue.get CAIRN_CTRL_GATE_AFTER 0 ≤ (gateDue.core 0).waitCount
      ∧ gateDue.power.shed = false) ∧ (run0.core 0).st ≠ .frozenWait ∧ (run0.core 0).l1 = false
    ∧ (gated.core 0).l1 = true ∧ (gated.core 0).wakeAsked = true ∧ (0x00000100100000 : Nat) / 2 ^ 16 % 2 ^ 16 = 16 := by
  decide +kernel

/-- A dump whose image ends where steward memory ends, and one under way. -/
def dumpState : State := State.reset.put CAIRN_DUMP_ADDR_ADDR 0 ((0x84000000 - 32832) / 64)

def dumping : State := (dumpState.put CAIRN_DUMP_CTRL_BUSY 0 1).modCore 0 (fun c => { c with dump := some ⟨0x83FF7FC0, [7], []⟩ })

theorem witness_CairnDumps : dumpState.flag CAIRN_DUMP_CTRL_BUSY 0 = false ∧ 0x80000000 ≤ dumpState.get CAIRN_DUMP_ADDR_ADDR 0 * 64
    ∧ dumpState.get CAIRN_DUMP_ADDR_ADDR 0 * 64 + 32832 = 0x84000000 ∧ State.reset.get CAIRN_DUMP_ADDR_ADDR 0 * 64 < 0x80000000
    ∧ dumping.flag CAIRN_DUMP_CTRL_BUSY 0 = true ∧ (State.reset.core 0).dump = none
    ∧ ((dumping.core 0).dump.map (fun d => d.read.length)) = some 1 := by
  decide +kernel

/-! ### Witnesses: pod memory at homes and ports -/

/-- Position 0 in outing 1, every site present, the pod of device 0 alone. -/
def homeState : State := (inOuting.setWord .SITE_MAP 0 0xFFFF)

/-- A request of outing 1 from core 5 of device 0, number 1. -/
def req1 (a : Word) : Req := { Req.blank with address := a, outing := 1, stream := 5, seq := 1, length := 64 }

theorem serves (opc : Opc) (r : Req) (h1 : podDevice r.address = homeState.device) (h2 : podSite r.address = 0)
    (h3 : homeState.windowOf 0 (podOffset r.address) = .store 0 4096) (h4 : homeState.homeRefusal ⟨opc, false, r⟩ = none)
    (h5 : (beatBanks 4096 (HomeOp.size ⟨opc, false, r⟩)).all (fun b => (homeState.core 0).bankFree b) = true)
    (h6 : homeState.siteStopped ⟨opc, false, r⟩ = false) : homeState.servesStore ⟨opc, false, r⟩ 0 4096 := by
  refine ⟨⟨h1, by decide +kernel, by decide +kernel, h6⟩, by rw [h2]; decide, ⟨0, ?_, ?_, ?_⟩, by decide +kernel, h4, h5,
    by intro x hx; exact absurd hx List.not_mem_nil, by intro x hx; exact absurd hx List.not_mem_nil⟩
  · rw [h2]; exact h3
  · rw [h2]; decide +kernel
  · rw [h2]; decide +kernel

theorem witness_HomesServeTheCoreStore :
    ((homeState.servesStore ⟨.load512, false, req1 4096⟩ 0 4096 ∧ (homeState.core 0).badWords 4096 512 = [])
      ∧ homeState.servesStore ⟨.store512, false, { req1 4096 with data := List.replicate 512 7 }⟩ 0 4096
      ∧ (homeState.servesStore ⟨.atomic, false, req1 4096⟩ 0 4096 ∧ (homeState.windowPass 0 0 5 1).1 = true)
      ∧ homeState.servesStore ⟨.copyRead, false, req1 4096⟩ 0 4096
      ∧ homeState.servesStore ⟨.msg, false, { req1 4096 with data := List.replicate 512 7 }⟩ 0 4096)
    ∧ homeState.targetCore (podAddr 0 4 0) = none ∧ homeState.homeRefusal ⟨.load8, false, req1 (podAddr 0 4 0)⟩ = some 6
    ∧ (homeState.windowOf 0 (podOffset (podAddr 0 0 0x7000000000028)) = .cairn 0 5 ∧ homeState.gate 0 0 = .pass
      ∧ homeState.homeRefusal ⟨.cairnAdd, false, req1 (podAddr 0 0 0x7000000000028)⟩ = none) :=
  ⟨⟨⟨serves _ _ (by decide +kernel) (by decide +kernel) (by decide +kernel) (by decide +kernel) (by decide +kernel) (by decide +kernel),
      by decide +kernel⟩,
    serves _ _ (by decide +kernel) (by decide +kernel) (by decide +kernel) (by decide +kernel) (by decide +kernel) (by decide +kernel),
    ⟨serves _ _ (by decide +kernel) (by decide +kernel) (by decide +kernel) (by decide +kernel) (by decide +kernel) (by decide +kernel),
      by decide +kernel⟩,
    serves _ _ (by decide +kernel) (by decide +kernel) (by decide +kernel) (by decide +kernel) (by decide +kernel) (by decide +kernel),
    serves _ _ (by decide +kernel) (by decide +kernel) (by decide +kernel) (by decide +kernel) (by decide +kernel) (by decide +kernel)⟩,
    by decide +kernel, by decide +kernel, by decide +kernel⟩

/-- Stream 5 performed number 1 at site 0, and its old word is kept. -/
def performed : State := { homeState with windows := [(5, some ⟨1, 1⟩)], history := [(5, [(1, 99)])] }

theorem performedServes : performed.servesStore ⟨.atomic, false, req1 4096⟩ 0 4096 :=
  ⟨⟨by decide +kernel, by decide +kernel, by decide +kernel, by decide +kernel⟩, by decide,
    ⟨0, by decide +kernel, by decide +kernel, by decide +kernel⟩, by decide +kernel,
    by decide +kernel, by decide +kernel, by intro x hx; exact absurd hx List.not_mem_nil, by intro x hx; exact absurd hx List.not_mem_nil⟩

theorem witness_DiscardedAtomics : (performed.servesStore ⟨.atomic, false, req1 4096⟩ 0 4096
      ∧ (performed.windowPass 0 0 5 1).1 = false ∧ (SMap.get performed.history (historyKey 0 5) []).find? (fun x => x.1 == 1) = some (1, 99))
    ∧ ((SMap.get { performed with history := [] }.history (historyKey 0 5) []).find? (fun x => x.1 == 1) = none)
    ∧ (homeState.windowPass 0 0 5 1).1 = true
    ∧ allBytes (homeState.readHome (homeState.windowOf 0 4096) 8 0).1 = some (List.replicate 8 0) :=
  ⟨⟨performedServes, by decide +kernel, by decide +kernel⟩, by decide +kernel, by decide +kernel, by decide +kernel⟩

/-- An operation sent as number 9. -/
def sentOp (kind : OpKind) : PodOp := { op0 inOuting kind 3 5 0 false with seq := some 9 }

/-- Position 0 RUNNING with one operation unacknowledged. -/
def awaiting (kind : OpKind) : State := inOuting.modCore 0 (fun c => { c with unacked := [sentOp kind] })

/-- Position 0 with one operation in a send slot, and a copy of 64 bytes that has performed. -/
def sending : State := inOuting.modCore 0 (fun c => { c with slots := [op0 inOuting .pst 3 5 7 false] })

def copied : State := inOuting.modCore 0 (fun c => { c with copies := [(15, { Copy.idle with status := 1, started := true, len := 64, sent := 64, performed := 64 })] })

theorem witness_PortsTakeResponses : (∀ kind ∈ [OpKind.pld, .pldv, .patom, .pst, .pstv],
      (((awaiting kind).core 0).lookup 9 == .op (sentOp kind)) = true)
    ∧ (inOuting.unitSends = [] ∧ (sentOp .pst).af = false ∧ (op0 inOuting .pst 3 5 7 false).af = false)
    ∧ (inOuting.core 0).lastMark ≠ inOuting.uptime + 1 ∧ ((awaiting .pst).core 0).st = .running ∧ (awaiting .pst).get CORE_FAULT_CODE 0 = 0
    ∧ ((inOuting.core 0).lookup 9 == .none) = true ∧ inOuting.fullClass = false
    ∧ ((sending.core 0).slots = [op0 inOuting .pst 3 5 7 false] ∧ (sending.core 0).fences = []
      ∧ (∀ n < 16, ((sending.core 0).copy n).status ≠ 1) ∧ (sending.core 0).unackedCount < min 4096 (sending.get STREAM_PACE_LIMIT 0))
    ∧ ((inOuting.core 0).copy 3).status ≠ 1
    ∧ (let y := (copied.core 0).copy 15
       y.status = 1 ∧ y.started = true ∧ y.flight = none ∧ y.sent = y.len ∧ y.ck = 0 ∧ y.lost = false ∧ y.aborted = false ∧ y.srcDead = false
         ∧ y.dstDead = false ∧ y.badData = false ∧ podSite y.dst < 4) := by
  decide +kernel

/-- An atomic add held at die 0, and one that a combining window holds. -/
def heldOp : HomeOp := ⟨.atomic, false, req1 4096⟩

theorem witness_HomesHoldAndCombine :
    ({ homeState with held := [(0, [heldOp])] } : State).heldAt 0 = [heldOp] ∧ (heldOp.req.stream == 5 && heldOp.req.seq == 1) = true
    ∧ homeState.heldAt 0 = [] ∧ homeState.combining.all (fun w => w.line != 4096) = true
    ∧ ({ homeState with combining := [⟨48, 4096, 1, []⟩] } : State).combining = [⟨48, 4096, 1, []⟩]
    ∧ ({ homeState with combining := [⟨49, 4096, 1, [heldOp]⟩] } : State).combining = [⟨49, 4096, 1, [heldOp]⟩]
    ∧ (homeState.combined.filter (fun x => x.unit == 49)).length < 4096 := by
  decide +kernel

theorem witness_RegisterWritesAndPodRegisters : homeState.get MODULE_PWR_RUNG 0 ≠ 5 ∧ homeState.power.shed = false ∧ (homeState.hart 3).mode = 3
    ∧ ((locate 0x20000000000 == .outside) = true ∧ (locate 0x83FFFFF8 == .outside) = false)
    ∧ (∀ w ∈ [false, true], homeState.translate (homeState.hart 3) 0x10000000008 w = .at_ 0x10000000008) ∧ ((homeState.modCore 0 (fun c => { c with st := .stopped })).core 0).st = .stopped
    ∧ homeState.unacked 0 = 0 ∧ (homeState.core 0).st = .running ∧ (0 * 2 ^ 30 < homeState.capacity 0 ∧ (homeState.setWord .STACK_RETIRED 0 1).capacity 0 ≤ 89 * 2 ^ 30)
    ∧ (0x100000003FF : Nat) % 1024 = 0x3FF ∧ 0x80000000 ≤ (0x83FFFFF8 : Nat) ∧ (0x83FFFFF8 : Nat) + 8 ≤ 0x84000000
    ∧ 0x10000000000 ≤ (0x10000000008 : Nat) ∧ (0x10000000008 : Nat) < 0x11000000000 := by
  decide +kernel

/-! ### Witnesses: reductions, attention -/

/-- RED_CFG armed for outing 1, two INT32 contributions of one chunk. -/
def cfg2 (op : Nat) : Word := BitVec.ofNat 64 (2 ^ 63 + op * 2 ^ 56 + 2 * 2 ^ 54 + 2 ^ 44 + 2 * 2 ^ 32 + 1)

/-- Context 0 of site 0 in a state of RED_STATUS, with the chunk given. -/
def reducing (st : Nat) (c : RedChunk) : State :=
  ((((homeState.setWord .RED_CFG 0 (cfg2 0)).setWord .RED_ADMIT 0 1).setWord .RED_UNITS 0 (BitVec.ofNat 64 (0x20 + 2 ^ 37))).put RED_STATUS_STATE 0 st
    |>.setWord .RED_DELIVER 0 2).setChunk (.context 0) 0 c

/-- Its address. -/
def redAddr : Word := podAddr 0 0 0x6000000000000

def half : RedChunk := ⟨1, List.replicate 128 5, [], []⟩
def full : RedChunk := ⟨2, List.replicate 128 5, [], []⟩

theorem witness_ContributionsAreFolded :
    (podDevice redAddr = homeState.device ∧ homeState.windowOf 0 (podOffset redAddr) = .red 0 0 ∧ homeState.unitSends = [] ∧ homeState.combined = [])
    ∧ homeState.get RED_STATUS_STATE 0 = 0 ∧ (reducing 2 half).get RED_STATUS_STATE 0 = 2
    ∧ (homeState.setWord .SITE_MAP 0 0xFFFE).sitePresent 0 = false ∧ homeState.sitePresent 0 = true
    ∧ (let s := reducing 1 full
       s.get RED_STATUS_STATE 0 = 1 ∧ s.get RED_CFG_EXPECT 0 ≤ (s.chunkOf (.context 0) 0).count
          ∧ (req1 redAddr).outing.toNat = s.get RED_CFG_OUTING 0 ∧ s.redAdmits (.context 0) 5 = true)
    ∧ half.acc.length = 128 ∧ (∀ x ∈ half.acc, x < 2 ^ 32)
    ∧ (∀ c ∈ [half, .empty], let s := reducing 1 c
        s.get RED_STATUS_STATE 0 = 1 ∧ 0 ≤ s.get RED_CFG_CHUNKS_M1 0 ∧ (req1 redAddr).outing.toNat = s.get RED_CFG_OUTING 0
          ∧ s.redAdmits (.context 0) 5 = true ∧ (s.chunkOf (.context 0) 0).count < s.get RED_CFG_EXPECT 0 ∧ s.get RED_CFG_ORDERED 0 = 0
          ∧ (s.windowPass 0 0 5 1).1 = true ∧ s.get RED_CFG_TYPE 0 = 2 ∧ s.get RED_CFG_OP 0 = 0 ∧ (s.chunkOf (.context 0) 0).count = c.count) := by
  decide +kernel

/-- Stage 3 armed with home context 4 of site 1 of device 0, its chunk 0 complete. -/
def staging : State :=
  ((homeState.setWord .RED_STAGE_CFG 3 (BitVec.ofNat 64 (2 ^ 63 + 2 * 2 ^ 54 + 2 ^ 44 + 2 * 2 ^ 32 + 4 * 2 ^ 16 + 1 * 2 ^ 4))).put RED_STAGE_STATUS_STATE 3 1).setChunk
    (.stage 3) 0 full

theorem witness_RoundsAreDelivered : (homeState.get RED_STATUS_STATE 0 ≠ 1)
    ∧ (let s := reducing 1 full
       1 ≠ s.device ∧ s.get RED_STATUS_STATE 0 = 1 ∧ 0 < s.get RED_CFG_EXPECT 0 ∧ s.get RED_CFG_EXPECT 0 ≤ (s.chunkOf (.context 0) 0).count
         ∧ s.get RED_CFG_ORDERED 0 = 0 ∧ s.get RED_CFG_TYPE 0 ≠ 1 ∧ s.get RED_CFG_OP 0 ≠ 7 ∧ s.word .RED_DELIVER 0 = BitVec.ofNat 64 (2 ^ 1)
         ∧ (s.get RED_UNITS_DELIVER_UNITS 0).testBit 5 = true ∧ (∀ x < 5, (s.get RED_UNITS_DELIVER_UNITS 0).testBit x = false)
         ∧ s.unitUnacked 32 + 32 ≤ 4096 ∧ (s.chunkOf (.context 0) 0).waiting = [])
    ∧ homeState.get RED_STAGE_STATUS_STATE 3 ≠ 1
    ∧ (staging.get RED_STAGE_STATUS_STATE 3 = 1 ∧ 0 < staging.get RED_STAGE_CFG_EXPECT 3
      ∧ staging.get RED_STAGE_CFG_EXPECT 3 ≤ (staging.chunkOf (.stage 3) 0).count ∧ staging.get RED_STAGE_CFG_ORDERED 3 = 0
      ∧ staging.get RED_STAGE_CFG_TYPE 3 ≠ 1 ∧ staging.get RED_STAGE_CFG_OP 3 ≠ 7
      ∧ staging.deviceDead (staging.get RED_STAGE_CFG_HOME_DEVICE 3) = false ∧ staging.unitUnacked 48 < 4096
      ∧ (staging.chunkOf (.stage 3) 0).waiting = [])
    ∧ (staging.setWord .POD_DEAD 0 1).deviceDead (staging.get RED_STAGE_CFG_HOME_DEVICE 3) = true := by
  decide +kernel

/-- The writes of an arm: RED_CFG without ARMED, then the fields. -/
def armWrite (s : State) (v : Word) : State :=
  ((RegName.RED_CFG.fields.filter (fun f => f.acc == .rw)).foldl
    (fun (u : State) f => u.put f 0 (((v ||| 0x8000000000000000) &&& 0xBFFFFFFFFFFFFFFF).toNat / 2 ^ f.lo % 2 ^ (f.hi - f.lo + 1)))
    (s.setWord .RED_CFG 0 0)).put RED_CFG_ARMED 0 0

theorem witness_ReductionsAreArmed : (reducing 1 half).get RED_STATUS_STATE 0 = 1 ∧ homeState.get RED_STATUS_STATE 0 ≠ 1
    ∧ (armWrite homeState 0).armError (.context 0) 0x8000000000000000 = some 1
    ∧ (armWrite homeState (cfg2 0)).armError (.context 0) (cfg2 0).toNat = none
    ∧ (let s := (reducing 1 half).setWord .RED_DELIVER 0 0
       s.get RED_STATUS_STATE 0 = 1 ∧ s.word .RED_DELIVER 0 = 0 ∧ s.get RED_CFG_CHUNKS_M1 0 = 0
         ∧ (s.chunkOf (.context 0) 0).count < s.get RED_CFG_EXPECT 0 ∧ s.redWaiting (.context 0) = []) := by
  decide +kernel

/-- A segment of one entry in the table at stack 0's first byte, of another outing, and one of no entries. -/
def segReq (entries : Nat) : Req :=
  { req1 (podAddr 0 4 0) with data := List.replicate 64 0 ++ toLE 8 (podAddr 0 4 0).toNat ++ toLE 4 entries ++ List.replicate 20 0 }

/-- A merge context of one row and one segment outstanding, and one with nothing outstanding. -/
def ctx1 (waiting : List Nat) : MergeCtx :=
  { op := 0, pc := 0, outing := 1, accept := 0, seq := 9, missing := 0, deadSeen := 0, declared := 0, request := 0, cairn := 5, add := 1, rows := 1, dim := 64, mode := 0,
    out := 4096, spill := 8192, count := 1, ptes := [0], waiting := waiting, spilled := [], merged := [⟨none, 0xFF800000, 0, List.replicate 64 0⟩],
    lost := false, flags := 0, skipped := 0, tokens := 0, status := 0, reason := 0 }

def merging (waiting : List Nat) : State := homeState.modCore 0 (fun c => { c with merges := [(2, some (ctx1 waiting))] })

theorem witness_AttentionSegmentsAndMerges :
    (podDevice (segReq 1).address = homeState.device ∧ podSite (segReq 1).address = 4 + 0 ∧ homeState.unitSends = [] ∧ homeState.combined = [])
    ∧ (∀ n ∈ [0, 1], let g := Segment.read (Mem.setBytes [] 0 (segReq n).data) 64
        g.entries = n ∧ podOffset g.pte + 8 * g.entries ≤ homeState.capacity 0 ∧ homeState.sitePresent 4 = true
          ∧ homeState.holderOk { g with site := 4 } (AttnReq.read (Mem.setBytes [] 0 (segReq n).data) 0) 1 = (n == 0))
    ∧ (homeState.setWord .SITE_MAP 0 0xFFEF).sitePresent 4 = false
    ∧ (SMap.get homeState.attnQueue 0 []).length < 64
    ∧ 64 ≤ (SMap.get { homeState with attnQueue := [(0, List.replicate 64 (segReq 1))] }.attnQueue 0 []).length
    ∧ SMap.get { homeState with attnQueue := [(0, [segReq 0])] }.attnQueue 0 [] = [segReq 0]
    ∧ SMap.get (homeState.core 0).merges 2 none = none
    ∧ SMap.get ((merging [0]).core 0).merges 2 none = some (ctx1 [0])
    ∧ ((ctx1 [0]).mode % 2 = 0 ∧ (ctx1 [0]).spilled = [] ∧ (ctx1 [0]).merged.length = (ctx1 [0]).rows ∧ (∀ y ∈ (ctx1 [0]).merged, y.nan = none)
      ∧ (ctx1 [0]).missing + (ctx1 [0]).spilled.length < (ctx1 [0]).waiting.length)
    ∧ SMap.get ((merging []).core 0).merges 2 none = some (ctx1 [])
    ∧ ((ctx1 []).waiting.length ≤ (ctx1 []).missing ∧ (ctx1 []).spilled = [] ∧ (ctx1 []).lost = false ∧ ((merging []).core 0).st ≠ .fenced ∧ (ctx1 []).status < 256
      ∧ (ctx1 []).reason < 256) := by
  decide +kernel

/-! ### Witnesses: the Saddle, planes and rings, calibration, lasers -/

/-- Some fields of a state set: field, instance, value. -/
def puts (s : State) (l : List (Fld × Nat × Nat)) : State := l.foldl (fun s p => s.put p.1 p.2.1 p.2.2) s

/-- A change of the Ridge's own state. -/
def withRidge (s : State) (f : Ridge → Ridge) : State := { s with ridge := f s.ridge }

/-- Every site present, planes 3 and 39 WORKING. -/
def lit : State := puts homeState [(PLANE_STATUS_STATE, 3, 2), (PLANE_STATUS_STATE, 39, 2)]

/-- A flit: KIND, SITES, LSEQ, and the payload's first bytes. -/
def flit (kind sites lseq payload : Nat) : Flit := sealFlit (kind * 2 ^ 62 + sites * 2 ^ 44 + lseq * 2 ^ 20 + payload * 2 ^ 64)

/-- A data flit of virtual channel 0 toward sites 2 and 3, and a damaged one. -/
def dataFlit : Flit := flit 1 0xC 0 0
def badFlit : Flit := 2 ^ 62 + 1

theorem dataFlit_good : flitGood dataFlit = true := flitGood_sealFlit _ (by decide) (by decide)

theorem dataFlit_kind : flitKind dataFlit = 1 := (sealFlit_field 63 62 _ (by decide) (by decide)).trans (by decide)

theorem dataFlit_vc : flitVc dataFlit = 0 := (sealFlit_field 61 60 _ (by decide) (by decide)).trans (by decide)

theorem dataFlit_sites : flitSites dataFlit = 0xC := (sealFlit_field 59 44 _ (by decide) (by decide)).trans (by decide)

theorem dataFlit_dests : flitDests 1 dataFlit = [2, 3] := by rw [flitDests, dataFlit_sites]; decide

theorem badFlit_bad : flitGood badFlit = false ∧ flitKind badFlit = 1 := by
  refine ⟨?_, by decide +kernel⟩
  rw [flitGood, show (Flit.field badFlit 3 0 == 0) = false by decide +kernel, Bool.and_false, Bool.false_and]

/-- The pair from site 4 to site 5 as `f` makes it. -/
def paired (f : SadPair → SadPair) : State := withRidge lit (fun r => { r with pairs := [(4 * 16 + 5, f SadPair.reset)] })

/-- A flit sent in slot 7 on planes `l`. -/
def sent7 (l : List Nat) : SentFlit := ⟨32 * 7 + lit.get PLANE_STATUS_POSITION 3, l, dataFlit⟩

theorem saddle_states : (homeState.usesPlane 4 5 3 7 = false ∧ lit.sitePresent 5 = true ∧ (lit.setWord .SITE_MAP 0 0xFFDF).sitePresent 5 = false)
    ∧ ((lit.pair 4 5).half 7 3 = none ∧ (lit.pair 4 5).failed = none ∧ lit.get PLANE_STATUS_STATE 3 = 2
      ∧ (lit.pair 4 5).skip.contains 3 = false ∧ ((lit.pair 4 5).sentOn 7 3).isNone = true ∧ (lit.pair 4 5).asked = false) := by
  decide +kernel

theorem saddle_doubled : (let x := (paired (fun x => { x with sent := [sent7 [3, 39]] })).pair 4 5
       ((x.sentOn 7 3).map (fun z => z.planes.erase 3)) = some [39] ∧ (x.half 7 3).isNone = true ∧ x.failed = none)
    ∧ (let x := (paired (fun x => { x with seen := [⟨7, 3, true⟩] })).pair 4 5
       x.half 7 3 = some ⟨7, 3, true⟩ ∧ x.failed = none)
    ∧ (let x := (paired (fun x => { x with failed := some 0 })).pair 4 5
       x.failed = some 0 ∧ x.resume = none ∧ (x.sentOn 7 3).isNone = true) := by
  decide +kernel

theorem witness_SaddleFlitsLand : ((homeState.usesPlane 4 5 3 7 = false ∧ lit.sitePresent 5 = true ∧ (lit.setWord .SITE_MAP 0 0xFFDF).sitePresent 5 = false)
      ∧ ((lit.pair 4 5).half 7 3 = none ∧ (lit.pair 4 5).failed = none ∧ lit.get PLANE_STATUS_STATE 3 = 2
        ∧ (lit.pair 4 5).skip.contains 3 = false ∧ ((lit.pair 4 5).sentOn 7 3).isNone = true ∧ (lit.pair 4 5).asked = false))
    ∧ (flitGood dataFlit = true ∧ flitKind dataFlit = 1 ∧ flitVc dataFlit = 0 ∧ flitDests 1 dataFlit = [2, 3])
    ∧ (flitGood badFlit = false ∧ flitKind badFlit = 1)
    ∧ (let y := (paired (fun x => { x with asked := true, failed := some 200, sent := [⟨100, [3], dataFlit⟩, ⟨200, [3], dataFlit⟩] })).pair 4 5
       y.asked = true ∧ y.failed = some 200 ∧ y.sent = [⟨100, [3], dataFlit⟩] ++ [⟨200, [3], dataFlit⟩])
    ∧ (let y := (paired (fun x => { x with freed := [1, 0, 0, 0], sent := [sent7 [3]] })).pair 4 5
       y.freed.getD 0 0 = 0 + 1 ∧ y.sent = [] ++ sent7 [3] :: [])
    ∧ SMap.get lit.ridge.launch 1 [] = []
    ∧ SMap.get (withRidge lit (fun r => { r with launch := [(1, [⟨dataFlit, false, none⟩])] })).ridge.launch 1 [] = [⟨dataFlit, false, none⟩] :=
  ⟨saddle_states, ⟨dataFlit_good, dataFlit_kind, dataFlit_vc, dataFlit_dests⟩, badFlit_bad, ⟨rfl, rfl, rfl⟩, ⟨rfl, rfl⟩, rfl, rfl⟩

/-- Landing ring λ5 of plane 3 at site 9 in a state, with its identity hits. -/
def ringed (st hits : Nat) : State :=
  withRidge (puts lit [(RING_STATUS_STATE, ringIx 9 3 true 5, st)]) (fun r => { r with rings := [(ringIx 9 3 true 5, { RingX.reset with hits := hits })] })

/-- Identity flits carry PLANE and λ. -/
theorem identityFlit_reads (p k : Nat) (h : p * 16 + k < 65536) :
    flitGood (identityFlit p k) = true ∧ flitKind (identityFlit p k) = 0 ∧ flitPayload (identityFlit p k) 0 2 = p * 16 + k := by
  have hb (hi lo : Nat) (h1 : hi < 64) (h2 : lo ≤ hi) : bits hi lo ((p * 16 + k) * 2 ^ 64) = 0 := by
    have e : (2 : Nat) ^ 64 = 2 ^ lo * (2 ^ (hi + 1 - lo) * 2 ^ (63 - hi)) := by rw [← pow_add, ← pow_add]; congr 1; omega
    rw [bits, e, ← Nat.mul_assoc, Nat.mul_right_comm, Nat.mul_div_cancel _ (by positivity), Nat.mul_left_comm, Nat.mul_mod_right]
  unfold identityFlit
  refine ⟨flitGood_sealFlit _ (hb 3 0 (by decide) (by decide)) (by rw [hb 63 62 (by decide) (by decide)]; decide),
    (sealFlit_field 63 62 _ (by decide) (by decide)).trans (hb 63 62 (by decide) (by decide)), ?_⟩
  rw [sealFlit_payload 0 2 _ (by decide) (by decide)]
  omega

theorem ring_states : (puts lit [(LOOP_TEST_STATUS, 9, 1)]).get LOOP_TEST_STATUS 9 = 1 ∧ lit.get LOOP_TEST_STATUS 9 ≠ 1
    ∧ (39 * 2 ^ 10 + 1 : Nat) / 2 ^ 10 % 64 < 40 ∧ lit.sitePresent 9 = true ∧ lit.get PLANE_STATUS_STATE 3 = 2
    ∧ (∀ p ∈ [(3, 0), (2, 2), (2, 3)], (ringed p.1 p.2).get RING_STATUS_STATE (ringIx 9 3 true 5) = p.1
      ∧ ((ringed p.1 p.2).ringX (ringIx 9 3 true 5)).hits = p.2 ∧ ((ringed p.1 p.2).ringX (ringIx 9 3 true 5)).step = 0
      ∧ (ringed p.1 p.2).get RING_STATUS_STATE (ringIx 4 3 false 5) ≠ 2)
    ∧ (∀ p ∈ [(3, 0), (2, 2)], (ringed p.1 p.2).unlocked 9 3 5 = false ∧ (ringed p.1 p.2).waitsLate 3 = false
      ∧ (ringNeighbours (ringIx 9 3 true 5)).all (fun j => (ringed p.1 p.2).get RING_STATUS_STATE j != 1) = true)
    ∧ homeState.get PLANE_STATUS_STATE 3 = 0 ∧ lit.ridge.searches = []
    ∧ (∀ ph ∈ [0, 1, 2, 3, 4, 5, 6], (puts (ringed 4 0) [(TUNE_STATUS_PHASE, 0, ph)]).get TUNE_STATUS_PHASE 0 = ph)
    ∧ (∀ p ∈ [(1, 1), (2, 2), (3, 3)], (puts lit [(PLANE_STATUS_STATE, 3, p.1)]).get PLANE_STATUS_STATE 3 = p.2) := by
  decide +kernel

theorem witness_PlanesAndRings : (flitGood (identityFlit 3 5) = true ∧ flitKind (identityFlit 3 5) = 0 ∧ flitPayload (identityFlit 3 5) 0 2 = 3 * 16 + 5)
    ∧ (flitGood (identityFlit 4 5) = true ∧ flitKind (identityFlit 4 5) = 0 ∧ flitPayload (identityFlit 4 5) 0 2 = 4 * 16 + 5)
    ∧ flitGood badFlit = false ∧ (ringed 3 0).get RING_STATUS_STATE (ringIx 9 3 true 5) = 3 ∧ lit.sitePresent 9 = true
    ∧ lit.get PLANE_STATUS_STATE 3 = 2 :=
  ⟨identityFlit_reads 3 5 (by decide), identityFlit_reads 4 5 (by decide), badFlit_bad.1, by decide +kernel, by decide +kernel, by decide +kernel⟩

/-- Plane 3's item due in an open gap, and running. -/
def calDue : State := withRidge (puts lit [(CAL_CTRL_EN, 0, 1)]) (fun r => { r with gap := some (0, 2000000) })

def calRunning : State :=
  withRidge (puts lit [(PLANE_STATUS_STATE, 3, 4), (CAL_ITEM_STATUS_RUNNING, 3, 1), (LASER_GROUP_STATE, 0, 3)]) (fun r => { r with running := [3] })

/-- Items older than twice MAX_AGE_S. -/
def aged : State := { puts lit [(CAL_CTRL_MAX_AGE_S, 0, 0)] with ticks := 10000000 }

/-- Plane 3's item was last told a temperature too, and goes before plane 7's. -/
def calTold : State := withRidge calDue (fun r => { r with items := [(3, { CalItem.reset with temp := some 100 })] })

theorem witness_CalibrationRuns_turn : calDue.hasTurn 3 100 = true ∧ calTold.refreshes 7 = false ∧ calTold.refreshes 3 = false
    ∧ calTold.mayRun 3 100 = true ∧ calTold.goesBefore 7 100 3 100 = false ∧ (calTold.item 3).temp = some 100 := by
  decide +kernel

theorem witness_CalibrationRuns : calDue.mayRun 3 100 = true ∧ (puts lit [(CAL_CTRL_EN, 0, 0)]).mayRun 3 100 = false
    ∧ 200 * (max 1000 1005 - min 1000 1005) ≤ 1000 ∧ 1000 < 200 * (max 1000 1006 - min 1000 1006) ∧ lit.ridge.running.contains 3 = false
    ∧ calRunning.ridge.running = [3] ∧ calRunning.get PLANE_STATUS_STATE 3 = 4 ∧ calRunning.get LASER_GROUP_STATE (3 / 8) = 3
    ∧ (calRunning.item 3).sets = [] ∧ aged.itemExists 3 = true ∧ (aged.item 3).overdue = false
    ∧ aged.flag CAL_ITEM_STATUS_RUNNING 3 = false ∧ aged.agedBy 3 2 = true ∧ State.reset.agedBy 3 2 = false
    ∧ ((withRidge lit (fun r => { r with items := [(3, { CalItem.reset with overdue := true })] })).item 3).overdue = true := by
  decide +kernel

/-- Laser bays 2 and 4 in states, standing for bay 2. -/
def lasers (a b : Nat) : State := puts lit [(LASER_GROUP_STATE, 2, a), (LASER_GROUP_STATE, 4, b), (LASER_GROUP_STANDS_FOR, 4, 2)]

theorem witness_LaserGroups : ((lasers 3 1).get LASER_GROUP_STATE 2 = 3 ∧ ((lasers 3 1).laser 2).dark = false ∧ (lasers 3 1).get LASER_GROUP_FADE 2 < 10)
    ∧ (let s := puts (lasers 3 1) [(LASER_GROUP_STANDS_FOR, 4, 0xF)]
       s.get LASER_GROUP_STATE 2 = 3 ∧ s.get LASER_GROUP_STATE 4 = 1 ∧ (s.laser 4).present = true ∧ (s.laser 2).tookBack = none
         ∧ s.ridge.running = [] ∧ s.get LASER_GROUP_STANDS_FOR 4 = 0xF)
    ∧ ((lasers 3 2).get LASER_GROUP_STATE 4 = 2 ∧ (lasers 3 2).get LASER_GROUP_STATE 2 = 3 ∧ (lasers 3 2).get LASER_GROUP_STANDS_FOR 4 = 2)
    ∧ ((lasers 4 4).get LASER_GROUP_STATE 4 = 4 ∧ ((lasers 4 4).laser 2).takeback = false ∧ ((lasers 4 4).laser 2).condemned = false
      ∧ ((lasers 4 4).laser 2).latchOpen = false)
    ∧ ((lasers 6 5).get LASER_GROUP_STATE 2 = 6 ∧ ((lasers 6 5).laser 2).passes < 2 ∧ (lasers 6 5).get LASER_GROUP_TESTS_FAILED 2 < 7
      ∧ (puts (lasers 6 5) [(LASER_GROUP_TESTS_FAILED, 2, 7)]).get LASER_GROUP_TESTS_FAILED 2 = 7)
    ∧ ((lasers 3 5).get PLANE_STATUS_STATE 39 = 2 ∧ (lasers 3 5).get LASER_GROUP_STATE (39 / 8) = 5)
    ∧ ((withRidge lit (fun r => { r with lasers := [(2, { LaserX.reset with present := false })] })).laser 2).present = false
    ∧ (∀ n ∈ [1, 6, 7], (lasers n 1).get LASER_GROUP_STATE 2 = n) := by
  decide +kernel

/-! ### Witnesses: Casob ports, the Spur -/

/-- Port 0 of site 0 in a state, its die end and its Ridge end as given. -/
def casobEnds (st : Nat) (d r : PortEnd) : State :=
  withRidge (puts lit [(CASOB_STATUS_STATE, 0, st)]) (fun x => { x with ends := [(0, d), (1, r)] })

/-- Its Ridge end expects `n`, and its die end's next LSEQ is 5. -/
def casob (st n : Nat) : State := casobEnds st { PortEnd.reset with next := 5 } { PortEnd.reset with expect := n }

/-- LINK flits with a command. -/
theorem linkFlit_reads : ∀ n ∈ [1, 2, 3, 4], flitGood (flit 2 0 0 n) = true ∧ flitKind (flit 2 0 0 n) = 2 ∧ flitPayload (flit 2 0 0 n) 0 1 = n
    ∧ flitPayload (flit 2 0 0 n) 2 2 = 0 := by
  intro n hn
  refine ⟨flitGood_sealFlit _ ?_ ?_, (sealFlit_field 63 62 _ (by decide) (by decide)).trans ?_,
    (sealFlit_payload 0 1 _ (by decide) (by decide)).trans ?_, (sealFlit_payload 2 2 _ (by decide) (by decide)).trans ?_⟩ <;>
    revert n <;> decide

theorem dataFlit_lseq : flitLseq dataFlit = 0 := (sealFlit_field 29 20 _ (by decide) (by decide)).trans (by decide)

theorem idleFlit_reads : flitGood (flit 0 0 0 0) = true ∧ flitKind (flit 0 0 0 0) = 0 :=
  ⟨flitGood_sealFlit _ (by decide) (by decide), (sealFlit_field 63 62 _ (by decide) (by decide)).trans (by decide)⟩

theorem dataFlit_dests0 : flitDests 0 dataFlit = [2, 3] := by rw [flitDests, dataFlit_sites]; decide

theorem casob_states : (∀ n ∈ [0, 1023, 513, 512], (casob 2 n).portUp 0 = true ∧ ((casob 2 n).portEnd 0 (1 - 1)).next = 5
      ∧ ((casob 2 n).portEnd 0 1).expect = n ∧ ((casob 2 n).portEnd 0 1).nak = false)
    ∧ (casob 1 0).portUp 0 = false ∧ (casob 1 0).portExists 0 = true ∧ (casob 2 0).portExists 24 = false
    ∧ SMap.get (casob 2 0).ridge.launch 0 [] = [] ∧ (0 + 1024 - 1023) % 1024 = 1 ∧ (0 + 1024 - 513) % 1024 = 511
    ∧ (casobEnds 2 PortEnd.reset { PortEnd.reset with next := 7 }).portUp 0 = true
    ∧ (((casobEnds 2 PortEnd.reset { PortEnd.reset with next := 7 }).portEnd 0 (1 - 0)).next = 7
      ∧ ((casobEnds 2 PortEnd.reset { PortEnd.reset with next := 7 }).portEnd 0 0).expect = 0
      ∧ ((casobEnds 2 PortEnd.reset { PortEnd.reset with next := 7 }).portEnd 0 0).old = [])
    ∧ (∀ d < 14, (casob 2 0).get REF_STATUS_STATE d ≠ 1 ∧ (casob 2 0).get REF_STATUS_STATE d ≠ 2)
    ∧ (puts lit [(REF_STATUS_STATE, 3, 2)]).get REF_STATUS_STATE 3 = 2 ∧ lit.portExists 0 = true
    ∧ ({ PortEnd.reset with used := [16, 0, 0, 0] } : PortEnd).maySend 0 = false := by
  decide +kernel

/-- What a flit's ACK and credits leave of an end. -/
theorem absorb_keeps (x : PortEnd) (f : Flit) (h : x.unacked = []) : (x.absorb f).next = x.next ∧ (x.absorb f).command = x.command
    ∧ (x.absorb f).again = x.again := by
  refine ⟨rfl, rfl, ?_⟩
  simp [PortEnd.absorb, h]

/-- Ends that have sent nothing, with a LINK command or a LSEQ replayed seven times. -/
def commanding (c : Option (Nat × Nat)) (n : Nat) : PortEnd := { PortEnd.reset with command := c, again := (0, n) }

theorem witness_CasobFlits : (flitGood dataFlit = true ∧ flitKind dataFlit = 1 ∧ flitLseq dataFlit = 0 ∧ flitVc dataFlit = 0
      ∧ flitDests 0 dataFlit = [2, 3] ∧ (casob 2 0).portUp 0 = true)
    ∧ flitGood badFlit = false ∧ (flitGood (flit 0 0 0 0) = true ∧ flitKind (flit 0 0 0 0) = 0)
    ∧ (∀ n ∈ [1, 2, 3, 4], flitGood (flit 2 0 0 n) = true ∧ flitKind (flit 2 0 0 n) = 2 ∧ flitPayload (flit 2 0 0 n) 0 1 = n
      ∧ flitPayload (flit 2 0 0 n) 2 2 = 0)
    ∧ (∀ n ∈ [0, 7], ((commanding none n).absorb (flit 2 0 0 1)).next = 0 ∧ ((commanding none n).absorb (flit 2 0 0 1)).again = (0, n))
    ∧ (∀ c ∈ [2, 3, 4], ((commanding (some (c, 0)) 0).absorb (flit 2 0 0 c)).command = some (c, 0)
      ∧ ((commanding none 0).absorb (flit 2 0 0 c)).command = none) :=
  ⟨⟨dataFlit_good, dataFlit_kind, dataFlit_lseq, dataFlit_vc, dataFlit_dests0, by decide +kernel⟩, badFlit_bad.1, idleFlit_reads,
    linkFlit_reads, fun _ _ => ⟨(absorb_keeps _ _ rfl).1, (absorb_keeps _ _ rfl).2.2⟩,
    fun _ _ => ⟨(absorb_keeps _ _ rfl).2.1, (absorb_keeps _ _ rfl).2.1⟩⟩

/-- A training block of port `ix` of a die of level `lvl`, `bad` lanes failed. -/
def block (ix lvl bad : Nat) : BitVec 160 :=
  let b := 0xCA5B + ix * 2 ^ 16 + bad * 2 ^ 32 + lvl * 2 ^ 96
  BitVec.ofNat 160 (b + (crc32c (toLE 16 b)).toNat * 2 ^ 128)

theorem witness_CasobPortsTrain : ((casob 1 0).portExists 0 = true ∧ (casob 1 0).portUp 0 = false ∧ ((casob 1 0).portX 0).held = false)
    ∧ (blockGood (block 0 2 0x1000F) = true ∧ blockField (block 0 2 0x1000F) 2 2 = 0 ∧ blockField (block 0 2 0x1000F) 0xC 1 = 2
      ∧ blockField (block 0 2 0x1000F) 4 4 % 2 ^ 17 = 0x1000F)
    ∧ (blockGood (block 7 2 0) = true ∧ blockField (block 7 2 0) 2 2 = 7) ∧ blockField (block 0 1 0) 0xC 1 = 1 ∧ blockGood (block 0 1 0) = true
    ∧ 4 ≤ ((List.range 16).filter (fun i => !(0x1000F : Nat).testBit i)).length
    ∧ SMap.get (casob 1 0).ridge.firstCaps 0 none = none ∧ (casob 1 0).ridge.readmit.contains 0 = false ∧ ((casob 1 0).portX 0).part = false
    ∧ blockField (block 0 2 0x1000F) 0xD 1 % 2 = 0 ∧ (∀ st ∈ [0, 1, 2, 3, 4], (casob st 0).get CASOB_STATUS_STATE 0 = st)
    ∧ (casob 0 0).portExists (9 * 32 + 9) = true ∧ ((casob 0 0).portX (9 * 32 + 9)).held = false
    ∧ (casob 0 0).get CASOB_STATUS_STATE (9 * 32 + 9) ≠ 1 := by
  decide +kernel

/-- A load of site 4 from the Spur, of `n` flits. -/
def spurLoad (n : BitVec 8) : SpurMsg := ⟨3, 0x10, 7, 1, n, bare (podAddr 0 4 0), ⟨0, 0, .done, 0, false, []⟩⟩

/-- A window onto stack 0 and one onto the Spur, for loads, each 4 KiB. -/
def windows : State := puts lit [(SPUR_FW_CTRL_OUT_MASK, 0, 2), (SPUR_OUT_WIN_EN, 0, 1), (SPUR_OUT_WIN_RD, 0, 1), (SPUR_OUT_WIN_SITE, 0, 4),
  (SPUR_FW_CTRL_IN_MASK, 0, 2), (SPUR_IN_WIN_EN, 7, 1), (SPUR_IN_WIN_RD, 7, 1), (SPUR_IN_WIN_OUTING, 7, 1)]

theorem witness_SpurAndItsFirewall : lit.sitePresent 13 = true ∧ lit.get DIE_CAPS_ADMITTED 13 = 0 ∧ (lit.setWord .SITE_MAP 0 0).sitePresent 13 = false
    ∧ (withRidge lit (fun r => { r with spur := { r.spur with released := true } })).ridge.spur.released = true ∧ lit.ridge.spur.released = false
    ∧ (∀ p < 8, lit.get CASOB_STATUS_STATE (416 + p) = 0) ∧ lit.outCheck (spurLoad 2) = some 4
    ∧ (windows.outCheck (spurLoad 2) = none ∧ windows.ridge.spur.waiting = [] ∧ (2 : Nat) ≤ windows.ridge.spur.tokens)
    ∧ (withRidge windows (fun r => { r with spur := { r.spur with tokens := 1 } })).ridge.spur.tokens < 2
    ∧ (podSite (podAddr 0 13 0xFF8) = 13 ∧ podDevice (podAddr 0 13 0xFF8) = windows.device)
    ∧ ((windows.get SPUR_FW_CTRL_IN_MASK 0).testBit 1 = true ∧ (List.range 8).any (fun n => windows.inInWin n 1 (req1 (podAddr 0 13 0xFF8))) = true)
    ∧ (lit.get SPUR_FW_CTRL_IN_MASK 0).testBit 1 = false := by
  decide +kernel

/-! ### Witnesses: stacks, clocks -/

/-- Stack 2 with symbol 70 of channel 9 suspect, `n` check spares in use. -/
def suspect (n : Nat) : State := (puts lit [(CHAN_STATUS_CHECK_SPARES, chanIx 2 9, n)]).modStack 2 (fun x => { x with suspect := [(9, 70)] })

/-- Sixteen layers at 50 °C, layer 5 at a temperature (in units of 1/6000 °C). -/
def sensed (t : Int) : List (Int × Int) := (List.replicate 16 (300000, 290000)).set 5 (t, t)

def residual (s : State) (t : Int) (q : Nat) : Nat :=
  ((((sensed t).map (fun x => max x.1 x.2)).getD q 0) - s.layerEstimate 2 ((sensed t).map (fun x => max x.1 x.2)) [] 300000 300000 q).natAbs

/-- The layer's margins stored by a calibration run, at a temperature in quarter degrees. -/
def margined : State := withRidge lit (fun r => { r with items := [(3 * 4096 + layerIx 2 5, { CalItem.reset with sets := [⟨200, 0, [9, 9, 30]⟩] })] })

theorem witness_StacksRepairThemselves : (lit.stackSt 2).suspect = [] ∧ ((suspect 3).stackSt 2).suspect = [(9, 70)] ∧ (suspect 3).sparesUsed 2 9 70 = 3
    ∧ (suspect 4).sparesUsed 2 9 70 = 4 ∧ lit.get STACK_STATUS_STATE 2 ≠ 2 ∧ lit.chanState 2 63 < 2 ∧ lit.retiredCount 2 < 8
    ∧ (lit.word .STACK_RETIRED 2).getLsbD 63 = false ∧ (∀ n ∈ [0, 1, 2], (puts lit [(STACK_STATUS_STATE, 2, n)]).get STACK_STATUS_STATE 2 = n)
    ∧ (lit.stackSt 2).waiting = [] ∧ (lit.stackSt 2).lines = [] ∧ lit.lineErr 2 0 = none ∧ lit.chanState 2 (lit.channelOf 2 0) ≠ 4
    ∧ lit.failedSymbols 2 (lit.channelOf 2 0) = [] ∧ SMap.get (lit.stackSt 2).tracker (lit.channelOf 2 0) [] = []
    ∧ (∀ q < 16, lit.flag LAYER_TEMP_SUSPECT (layerIx 2 q) = false ∧ lit.flag LAYER_TEMP_DOUBLE (layerIx 2 q) = false
      ∧ lit.get LAYER_TEMP_OUT_RUNS (layerIx 2 q) < 15)
    ∧ ((puts lit [(LAYER_TEMP_OUT_RUNS, layerIx 2 5, 15)]).get LAYER_TEMP_OUT_RUNS (layerIx 2 5) = 15 ∧ 18000 < residual lit 330000 5
      ∧ residual lit 330000 4 ≤ 18000 ∧ residual lit 330000 6 ≤ 18000)
    ∧ (let low := (margined.item (3 * 4096 + layerIx 2 5)).value (SMap.get (margined.stackSt 2).temps 5 0 / 1500) 2
       29 * (low.2 : Int) < low.1 ∧ low.1 ≤ 30 * (low.2 : Int)) := by
  decide +kernel

/-- Region 9 of die 0. -/
def hub0 : RegionRef := ⟨0, 9⟩

/-- Tokens issued on die 0 and applied by region 9, the last token in this cycle. -/
def tokens (i a : Nat) (held : Bool) : State :=
  { lit with clk := { lit.clk with issued := [(0, i)], issuedAt := [(0, 1)], regions := [(9, ⟨a, held, true, 2⟩)] } }

/-- The compute dies at a root and DIV. -/
def rooted (root div : Nat) : State :=
  puts lit ((CLK_POINT_TARGET, 0, 4) :: (List.range 4).flatMap (fun d => [(CLK_STATUS_ROOT, d, root), (CLK_STATUS_DIV, d, div)]))

theorem clock_states : (regionExists (regionIx hub0) = true ∧ lit.noClock (regionIx hub0) = false ∧ SMap.get lit.clk.issuedAt 0 0 = 0
      ∧ (lit.region (regionIx hub0)).applied = lit.issuedTokens 0)
    ∧ (SMap.get (tokens 2 1 true).clk.issuedAt 0 0 ≠ 0 ∧ (tokens 2 1 true).ticks + 1 - 1 < 24 ∧ ((tokens 2 1 true).region 9).applied < (tokens 2 1 true).issuedTokens 0
      ∧ ((tokens 2 1 true).region 9).held = true ∧ ((tokens 2 2 true).region 9).applied = (tokens 2 2 true).issuedTokens 0
      ∧ ((tokens 2 1 true).region 9).recentre = true ∧ (tokens 2 1 true).stopped 9 = false ∧ ((tokens 2 1 true).region 9).stop = 2)
    ∧ (lit.region 9).held = false ∧ (lit.region 9).recentre = false ∧ (lit.region 9).stop ≠ 2
    ∧ (regionExists (regionIx ⟨0, 0⟩) = true ∧ regionIx ⟨0, 0⟩ ≠ regionIx hub0 ∧ regionIx hub0 = 0 * 32 + hubRegion 0)
    ∧ regionExists (regionIx ⟨13, 4⟩) = false
    ∧ (((1 : Int) - lit.stepCount 4).natAbs ≤ 1 ∧ 1 < ((2 : Int) - lit.stepCount 4).natAbs)
    ∧ (puts lit [(REGION_STATUS_WARN, 9, 1)]).flag REGION_STATUS_WARN 9 = true ∧ lit.flag REGION_STATUS_WARN 9 = false
    ∧ (∀ n < 4, (puts lit [(REF_STATUS_STATE, 13, n)]).get REF_STATUS_STATE 13 = n) := by
  decide +kernel

theorem root_states : (let s := rooted 0x60 3
       s.clockNow ≠ s.goal ∧ s.raiseHeld = false ∧ s.clk.floorStop = false ∧ s.clockNow.2 ≠ s.goal.2 ∧ s.clockNow.1 = 0x60 ∧ s.dividerDue = true)
    ∧ (rooted 0x61 3).clockNow.1 = 0x61 ∧ (rooted 0x61 2).clockNow.2 = (rooted 0x61 2).goal.2 ∧ (rooted 0x61 2).clockNow ≠ (rooted 0x61 2).goal
    ∧ (rooted 0x61 3).dividerDue = false ∧ (rooted 0x60 2).clockNow = (0x60, 2)
    ∧ (∀ i ∈ kcRegions, (rooted 0x60 3).stopped i = false) := by
  decide +kernel

theorem witness_ClocksFollowTheirCommands : (regionExists (regionIx hub0) = true ∧ lit.noClock (regionIx hub0) = false)
    ∧ ((tokens 2 1 true).region 9).held = true ∧ ((tokens 2 2 true).region 9).applied = (tokens 2 2 true).issuedTokens 0
    ∧ (rooted 0x60 3).dividerDue = true ∧ (rooted 0x61 3).dividerDue = false
    ∧ (∀ r ∈ [(0x61, 3), (0x60, 2), (0x60, 3)], (puts (rooted r.1 r.2) [(REGION_STATUS_WARN, 9, 1)]).flag REGION_STATUS_WARN 9 = true
      ∧ (puts (rooted r.1 r.2) [(REGION_STATUS_WARN, 9, 1)]).clockNow = r)
    ∧ SMap.get (tokens 2 1 true).wakeHeld 38 [] = []
    ∧ (puts lit [(REF_STATUS_STATE, 13, 1)]).get REF_STATUS_STATE 13 = 1 := by
  decide +kernel

/-! ### Witnesses: pod links, the fabric manager -/

/-- A change of the pod's own state. -/
def withNet (s : State) (f : PodNet → PodNet) : State := { s with podnet := f s.podnet }

/-- Link 3 in a state, expecting LSEQ `n`, in a route to device 1. -/
def linked (st n : Nat) : State :=
  withNet (puts (lit.setWord .ROUTE 1 (BitVec.ofNat 64 (2 ^ 63 + 2 ^ 3))) [(POD_LINK_STATUS_STATE, 3, st), (POD_TOPO_LAYOUT, 0, 1)])
    (fun p => { p with links := [(3, { LinkX.reset with expect := n, routed := true })] })

/-- Pod flits: KIND and the payload's first bytes. -/
theorem podFlit_reads : ∀ p ∈ [(0, 0), (1, 0), (2, 1), (2, 4)], podGood (flit p.1 0 0 p.2) = true ∧ flitKind (flit p.1 0 0 p.2) = p.1
    ∧ flitPayload (flit p.1 0 0 p.2) 0 1 = p.2 := by
  intro p hp
  refine ⟨podGood_sealFlit _ ?_ ?_ ?_, (sealFlit_field 63 62 _ (by decide) (by decide)).trans ?_,
    (sealFlit_payload 0 1 _ (by decide) (by decide)).trans ?_⟩ <;>
    revert p <;> decide

theorem podFlit_lseq : podLseq (flit 1 0 0 0) = 0 := (sealFlit_field 55 40 _ (by decide) (by decide)).trans (by decide)

theorem badFlit_badPod : podGood badFlit = false := by
  rw [podGood, show (Flit.field badFlit 11 0 == 0) = false by decide +kernel, Bool.and_false, Bool.false_and, Bool.false_and]

/-- A request of this module's to device 1, and a response from it. -/
def outMsg : PodMsg := podMsg 0 1
def inMsg : PodMsg := { podMsg 1 0 with body := .response ⟨5, 1, .done, 0, false, []⟩ }

/-- Number 7 to device 1 sent on link 3 and unacknowledged; number 7 from it received. -/
def exchanged : State := withNet (linked 2 0) (fun p => { p with
  egress := [(1, { Egress.reset with next := 8, sent := [({ outMsg with mseq := 7 }, 3)] })]
  ingress := [(1, ⟨some ⟨7, 1⟩, 8⟩)] })

theorem link_states : (∀ n ∈ [0, 1, 65535, 32768], (linked 2 n).linkUp 3 = true ∧ ((linked 2 n).link 3).expect = n)
    ∧ (0 + 65536 - 65535) % 65536 = 1 ∧ (0 + 65536 - 32768) % 65536 = 32768
    ∧ (∀ st < 4, (linked st 0).linkState 3 = st) ∧ (linked 1 0).linkUp 3 = false
    ∧ ((List.range 8).filter (fun w => !(0x0F : Nat).testBit w)).length = 4 ∧ ((List.range 8).filter (fun w => !(0x1F : Nat).testBit w)).length < 4
    ∧ (linked 1 0).cabledRight 3 2 27 = true ∧ (linked 1 0).cabledRight 3 14 27 = false ∧ (linked 1 0).cabledRight 30 5 31 = true
    ∧ (linked 1 0).get POD_TOPO_JOINED 0 = 0 ∧ (puts (linked 1 0) [(POD_LINK_STATUS_STATE, 31, 2)]).linkState (61 - 30) = 2
    ∧ (∀ q < 64, ((linked 2 0).egress q).sent.all (fun z => z.2 != 3) = true) := by
  decide +kernel

theorem message_states : (inMsg.dst.val = exchanged.device ∧ exchanged.power.shed = false
      ∧ (judge16 (SMap.get (linked 2 0).podnet.ingress 1 Ingress.reset).window inMsg.mseq.toNat).1 = true
      ∧ (judge16 (SMap.get exchanged.podnet.ingress 1 Ingress.reset).window 7).1 = false ∧ combines .load8 false (bare 0) = false)
    ∧ (outMsg.dst.val ≠ exchanged.device ∧ (linked 2 0).deviceDead 1 = false ∧ (linked 2 0).isSaving 1 = false ∧ (linked 2 0).changing 1 = false
      ∧ ((linked 2 0).egress 1).sent.length < 4096 ∧ ((linked 2 0).egress 1).held + (podBytes outMsg).length ≤ 524288
      ∧ (linked 2 0).pickLink ((linked 2 0).eligibleLinks 1 (fun _ => true)) = some 3)
    ∧ (linked 1 0).pickLink ((linked 1 0).eligibleLinks 1 (fun _ => true)) = none
    ∧ ((linked 2 0).setWord .POD_DEAD 0 2).deviceDead 1 = true ∧ (linked 2 0).unitSends = [] ∧ (linked 2 0).combined = []
    ∧ staging.stages (.request .redc false (req1 (podAddr 0 1 (0x6000000000000 + 4 * 0x80000)))) = true ∧ (1 : Nat) ≠ staging.device
    ∧ (linked 2 0).pickLink ((linked 2 0).eligibleLinks 1 (fun z => z != 4 && (2 < 2 || z != 4))) = some 3
    ∧ (exchanged.egress 1).waiting = [] ∧ (exchanged.egress 1).sent.find? (fun q => q.1.mseq == 7) = some ({ outMsg with mseq := 7 }, 3)
    ∧ (exchanged.egress 1).sent.any (fun q => q.1.mseq == 8) = false := by
  decide +kernel

theorem witness_PodLinksCarryMessages : (podGood (flit 1 0 0 0) = true ∧ flitKind (flit 1 0 0 0) = 1 ∧ podLseq (flit 1 0 0 0) = 0
      ∧ (linked 2 0).linkUp 3 = true ∧ ((linked 2 0).link 3).expect = 0) ∧ podGood badFlit = false
    ∧ (podGood (flit 2 0 0 1) = true ∧ flitKind (flit 2 0 0 1) = 2 ∧ flitPayload (flit 2 0 0 1) 0 1 = 1)
    ∧ (linked 2 0).pickLink ((linked 2 0).eligibleLinks 1 (fun _ => true)) = some 3
    ∧ firstGood (flit 1 0 0 0) none = flit 1 0 0 0 :=
  ⟨⟨(podFlit_reads (1, 0) (by decide)).1, (podFlit_reads (1, 0) (by decide)).2.1, podFlit_lseq, by decide +kernel, by decide +kernel⟩, badFlit_badPod,
    podFlit_reads (2, 1) (by decide), by decide +kernel, rfl⟩

/-- A ROLE, with what the manager has under way. -/
def inRole (r : Nat) : State := puts (lit.setWord .POD_MEMBERS 0 7) [(SUMMIT_STATUS_ROLE, 0, r), (POD_TOPO_SUMMIT, 0, 1), (POD_TOPO_STANDBY, 0, 2)]

def swapping (drained : List Nat) : State := withNet (inRole 1) (fun p => { p with swapping := some 4, drained := drained })

theorem witness_FabricManagement : (lit.pins.resetLow = false ∧ lit.pins.held = false) ∧ (∀ r < 6, (inRole r).role = r)
    ∧ (inRole 1).deviceDead 63 = false ∧ ((inRole 1).setWord .POD_DEAD 0 2).deviceDead 1 = true ∧ (inRole 1).podnet.swapping = none
    ∧ (inRole 2).get POD_TOPO_SUMMIT 0 = 1
    ∧ (Window.judge (inRole 1).podnet.cmds 5).1 = true ∧ (Window.judge (withNet (inRole 1) (fun p => { p with cmds := some ⟨5, 1⟩ })).podnet.cmds 5).1 = false
    ∧ (withNet (inRole 1) (fun p => { p with draining := some 4 })).podnet.draining = some 4 ∧ (inRole 1).podnet.reported = false
    ∧ (devices.any (fun q => (inRole 1).changing q && !((inRole 1).egress q).sent.isEmpty)) = false
    ∧ ((swapping [0]).podnet.swapping = some 4 ∧ (swapping [0]).podnet.drained.contains 1 = false ∧ (swapping [0]).living = [0, 1, 2]
      ∧ ¬ (∀ q ∈ (swapping [0]).living, q ∈ (swapping [0]).podnet.drained ++ [1]) ∧ (∀ q ∈ (swapping [0, 2]).living, q ∈ (swapping [0, 2]).podnet.drained ++ [1])) := by
  decide +kernel

theorem witness_FabricManagement_roles :
    (puts lit [(POD_TOPO_BYPASSED, 0, 0)]).get POD_TOPO_BYPASSED 0 = 0 ∧ lit.get POD_TOPO_BYPASSED 0 = 1
    ∧ (lit.get MODULE_PWR_RUNG 0 = 0 ∧ lit.power.shed = false ∧ lit.unitSends = [] ∧ SMap.get lit.wakeHeld 36 [] = []
      ∧ (puts lit [(MODULE_PWR_RUNG, 0, 5)]).get MODULE_PWR_RUNG 0 = 5)
    ∧ ((withNet (inRole 4) (fun p => { p with handing := true })).podnet.handing = true ∧ (inRole 4).podnet.handing = false
      ∧ (inRole 3).podnet.takeover = false ∧ (withNet (inRole 3) (fun p => { p with takeover := true })).podnet.takeover = true)
    ∧ ((inRole 5).podnet.passes < 2 ∧ 2 ≤ (withNet (inRole 5) (fun p => { p with passes := 2 })).podnet.passes)
    ∧ ((inRole 1).podnet.joining = none ∧ (withNet (inRole 1) (fun p => { p with joining := some 3 })).podnet.joining.isSome = true)
    ∧ (∀ n < 3, (puts lit [(OUTING_STATUS_STATE, 255, n)]).get OUTING_STATUS_STATE 255 = n)
    ∧ 89 * 2 ^ 30 < lit.capacity 7 ∧ SMap.get lit.podnet.torn 255 [] = [] ∧ ((lit.setWord .POD_MEMBERS 0 (1 <<< 9)).living = [9])
    ∧ ((lit.setWord .POD_MEMBERS 0 3).living = [0, 1]) := by
  decide +kernel

theorem share_fits : lit.otherShares 255 + 56 ≤ 56 := by decide +kernel

/-! ### Witnesses: records, fences, power, heat -/

/-- An event of unit 7 of the steward's die. -/
def ev (sev : Nat) : Event := ⟨13, 9, sev, 13, 7, 0x3FF, 0, 1, 2, 3, none⟩

/-- One event waits, and its source has had `n` records this millisecond. -/
def logging (sev n : Nat) : State := { lit with events := [ev sev], logCounts := [(13 * 256 + 7, (n, n))] }

/-- Die 0 with its spare 8, position 2 BATCH_MARKed, in a substitution's state. -/
def subst (st : Nat) : State :=
  puts lit [(FENCE_STATUS_SUBST_STATE, 0, st), (FENCE_STATUS_SUBST_FROM, 0, 2), (BATCH_MARK_VALID, 2, 1)]

/-- Position 2 FENCED. -/
def substFenced (st : Nat) : State := (subst st).modCore 2 (fun c => { c with st := .fenced })

theorem witness_RecordsFencesAndTriplicates : lit.events = []
    ∧ (∀ n ∈ [0, 63, 64], (logging 1 n).events.find? (fun e => e.die == 13 && e.unit == 7) = some (ev 1)
      ∧ (SMap.get (logging 1 n).logCounts (13 * 256 + 7) (0, 0)).1 = n) ∧ (ev 3).sev = 3 ∧ (ev 1).sev ≠ 3
    ∧ (2 ^ 62 > (lit.word .LOG_SEQ 0).toNat) ∧ lit.logCounts.filter (fun q => q.2.2 != 0) = []
    ∧ (logging 1 9).logCounts.filter (fun q => q.2.2 != 0) = [(13 * 256 + 7, (9, 9))]
    ∧ lit.logBase = 0 ∧ (puts lit [(LOG_BASE_ADDR, 0, 0x200)]).logBase ≠ 0 ∧ (0x80000000 ≤ 0x83C00000 / 2 ^ 22 * 2 ^ 22 ∧ 0x83C00000 / 2 ^ 22 * 2 ^ 22 + 0x400000 ≤ 0x84000000)
    ∧ ((subst 0).get FENCE_STATUS_SUBST_STATE 0 = 0 ∧ (subst 0).isFenced 2 = false ∧ (subst 0).get CORE_MAP_SPARE 0 = 8
      ∧ (subst 0).flag BATCH_MARK_VALID 2 = true ∧ (subst 0).isFenced 8 = false ∧ SMap.get (subst 0).held 0 [] = [])
    ∧ lit.flag BATCH_MARK_VALID 2 = false ∧ (substFenced 1).isFenced 2 = true ∧ (∀ n ∈ [1, 2], (substFenced n).get FENCE_STATUS_SUBST_STATE 0 = n)
    ∧ (substFenced 1).get FENCE_STATUS_SUBST_FROM 0 = 2 ∧ (substFenced 1).unacked 2 = 0
    ∧ ((substFenced 1).modCore 2 (fun c => { c with unacked := [sentOp .pst] })).unacked 2 ≠ 0
    ∧ SMap.wf Ecc.good ((substFenced 2).core 2).storeEcc = true
    ∧ (addrOf .FENCE_STATUS 0 ≠ 0 ∧ outsideList .FENCE_STATUS 0 (6 <<< 48) = true ∧ outsideList .FENCE_STATUS 0 (5 <<< 48) = false) := by
  decide +kernel

theorem triplicated_places : (locate (addrOf .CORE_MAP 0) == .reg .CORE_MAP 0) = true ∧ triplicated .CORE_MAP = some ⟨.CORE_MAP, 63, 0, .rw, 0⟩
    ∧ (locate (addrOf .CORE_CTRL 0) == .reg .CORE_CTRL 0) = true ∧ triplicated .CORE_CTRL = none
    ∧ (locate (addrOf .FENCE_STATUS 0) == .reg .FENCE_STATUS 0) = true := by
  decide +kernel

/-- A power state. -/
def powered (n : Nat) : State := puts lit [(PWR_STATUS_STATE, 0, n)]

def withPower (s : State) (f : Power → Power) : State := { s with power := f s.power }

theorem witness_SupplyAndLadder : (∀ n < 6, (powered n).powerState = n) ∧ (lit.pins.resetLow = false ∧ lit.pins.held = false)
    ∧ ({ lit with pins := { lit.pins with resetLow := true } } : State).pins.resetLow = true
    ∧ (lit.power.noSave = false ∧ lit.power.hold = false ∧ lit.power.resetWaits = false ∧ lit.power.dogWaits = false)
    ∧ (withPower (powered 1) (fun w => { w with noSave := true, hold := true })).power.noSave = true
    ∧ SMap.get lit.podnet.saving 5 [] = []
    ∧ (lit.powerLimit < 8191 ∧ lit.clk.lastLower = 0 ∧ 0x60 < lit.clockNow.1 ∧ lit.power.trip = false)
    ∧ (SMap.get lit.power.supply 3 0 ≠ 30 ∧ SMap.get (withPower lit (fun w => { w with supply := [(3, 30)] })).power.supply 3 0 = 30)
    ∧ (∃ r < 10, (puts lit [(REGION_STATUS_WARN, 3 * 32 + 9, 1)]).flag REGION_STATUS_WARN (3 * 32 + r) = true)
    ∧ ((State.reset.core 35).st = .stopped ∧ lit.get CORE_PWR_RUNG 0 < 3 ∧ 3 ≤ (puts lit [(CORE_PWR_RUNG, 0, 4)]).get CORE_PWR_RUNG 0)
    ∧ SMap.get ({ lit with wakeHeld := [(0, [heldOp])] } : State).wakeHeld 0 [] ≠ []
    ∧ (∀ n ∈ [0, 5, 6], (puts lit [(MODULE_PWR_RUNG, 0, n)]).get MODULE_PWR_RUNG 0 = n) ∧ SMap.get lit.wakeHeld 36 [] = []
    ∧ (lit.power.shed = false ∧ lit.power.requests = [] ∧ SMap.get lit.wakeHeld 37 [] = []
      ∧ (withPower lit (fun w => { w with shed := true })).power.shed = true)
    ∧ lit.allResting = false ∧ lit.noOuting = false := by
  decide +kernel

/-- Every position FENCED or in a rung, and no outing. -/
def resting : State := { State.reset with cores := (List.range 36).map (fun k => (k, { Core.reset with st := .fenced })) }

theorem resting_rests : resting.allResting = true ∧ resting.get MODULE_PWR_RUNG 0 ≠ 6 := by decide +kernel

theorem reset_noOuting : State.reset.noOuting = true := by decide +kernel

/-- Sensor 9 of die 0 with its runs out of bounds, working at a temperature. -/
def heated (runs working : Nat) : State := puts lit [(SENSOR_STATUS_OUT_RUNS, 9, runs), (SENSOR_STATUS_WORKING, 9, working)]

theorem witness_SensorsAndHeat : (min (sensorCount 0) (min (List.replicate 10 (60 : Int)).length 10) = 10)
    ∧ (lit.get SENSOR_STATUS_INVALID 9 = 0 ∧ lit.get SENSOR_STATUS_SUSPECT 9 = 0 ∧ badReading 65 = false ∧ badReading 150 = false ∧ badReading 151 = true)
    ∧ ((60 - 65 : Int).natAbs ≤ 5 ∧ 5 < (60 - 66 : Int).natAbs) ∧ (∀ n ∈ [14, 15], (heated n 50).get SENSOR_STATUS_OUT_RUNS 9 = n)
    ∧ lit.sitePresent 13 = true ∧ (lit.setWord .SITE_MAP 0 0).sitePresent 13 = false ∧ lit.powerState = 0
    ∧ ((heated 0 20).hottestKc < temp8 (lit.get THERM_CTRL_THROTTLE 0) ∧ temp8 (lit.get THERM_CTRL_THROTTLE 0) ≤ (heated 0 100).hottestKc)
    ∧ 0x60 < (heated 0 100).clockNow.1 ∧ (let s := puts (rooted 0x60 2) [(SENSOR_STATUS_WORKING, 9, 100)]
      temp8 (s.get THERM_CTRL_THROTTLE 0) ≤ s.hottestKc ∧ s.clockNow = (0x60, 2))
    ∧ (let s := puts (rooted 0x60 3) [(SENSOR_STATUS_WORKING, 9, 100)]
      temp8 (s.get THERM_CTRL_THROTTLE 0) ≤ s.hottestKc ∧ s.clockNow = (0x60, 3)) := by
  decide +kernel

/-! ### Witnesses: boot and security, ports and pins -/

/-- A public key and the fuses that hold its hash: slot 0, stage 2 from version 3. -/
def bootKey : List Byte := [0x04] ++ toBE 48 15449712028469168242404139654026419018970415713352052670630705702332828003035585027884576867943172142369207519867265
  ++ toBE 48 18806872273853450683239198879195474960168069859698970788372711656767236511546911521990459895294152769335328606208391

def bootFuses : Fuses := { Fuses.blank with
  programmed := 1, min2 := 3, hashes := [(0, 29971906916452249019605223936027963815183119491918809411619668355627686593292207324462756062145142680539879586965547)] }

/-- A header of version 4 for five bytes of image, as far as its signature covers it. -/
def signedPart (stage : Nat) : List Byte :=
  toLE 4 0x49584A48 ++ [1, 0] ++ toLE 1 stage ++ [0] ++ toLE 4 4 ++ toLE 4 5 ++ toLE 8 0x80001000 ++ toLE 8 0x80001004
    ++ toBE 48 12887854071888480309636143834504694594223190804923130877183216364894915012421125253190752934509794473447344520219392
    ++ bootKey ++ List.replicate 15 0

/-- The header, signed under that key. -/
def bootHeader (stage : Nat) : List Byte :=
  signedPart stage ++ toBE 48 20802447923492245320049569880145674010715891308266312222391145360525207201596322331728498451280912188662074394793660
    ++ toBE 48 (if stage = 1 then 7287987249556739121063360964938255680406975048515596318699122275574798212377796220113352383213239928446993034292057
      else 15694557921963833139162261947322749407977582237392757341847200105026183952168455483610037764957133261383182814892946)
    ++ List.replicate 224 0

theorem image_signed : ∀ stage ∈ [1, 2], imageReason bootFuses stage (bootHeader stage) (fun n => [1, 2, 3, 0, 5].take n) = none
    ∧ imgLength (bootHeader stage) = 5 ∧ (bootHeader stage).length = 512 := by
  decide +kernel

/-- A flash that holds the image from a place on. -/
def imageAt (stage a : Nat) : Mem := Mem.setBytes (Mem.setBytes [] (a + 512) [1, 2, 3, 0, 5]) a (bootHeader stage)

theorem image_judged (stage a : Nat) (h : stage ∈ [1, 2]) : imageReason bootFuses stage (Mem.bytes (imageAt stage a) a 512)
    (fun n => Mem.bytes (imageAt stage a) (a + 512) (min n (0x2000000 - 512))) = none := by
  obtain ⟨h1, h2, h3⟩ := image_signed stage h
  have e1 : Mem.bytes (imageAt stage a) a 512 = bootHeader stage := by rw [← h3]; exact Mem.bytes_setBytes_same _ _ _
  have e2 : Mem.bytes (imageAt stage a) (a + 512) 5 = [1, 2, 3, 0, 5] := by
    rw [← Mem.bytes_setBytes_same [] (a + 512) [1, 2, 3, 0, 5]]
    refine List.map_congr_left fun i _ => ?_
    exact Mem.byte_setBytes_out (by rw [h3]; omega)
  rw [e1, ← h1]
  simp only [imageReason, h2]
  rw [show min 5 (0x2000000 - 512) = 5 from rfl, e2]
  rfl

/-- The steward runs, its key in the fuses. -/
def booting : State := { lit with pins := { lit.pins with up := true }, steward := { lit.steward with fuses := bootFuses, sec := 1 } }

/-- Source A of stage 1 holds the image; source A of stage 2, in a module past stage 1. -/
def booting1 : State := { booting with flash := imageAt 1 0 }

def booting2 : State := { booting.put BOOT_STATUS_STAGE 0 1 with flash := imageAt 2 0x4000000 }

/-- A network transfer of the image, all of it in its first block. -/
def netBoot : NetBoot := ⟨5, 517, 0, 1, []⟩

def withSteward (s : State) (f : Steward → Steward) : State := { s with steward := f s.steward }

theorem witness_BootAndSecurity : (∀ s ∈ [booting1, booting2], s.mayRound = true ∧ s.running = true ∧ s.stage < 2 ∧ s.steward.offer = false
      ∧ s.steward.net = none ∧ s.steward.wait = none ∧ s.powerState = 0 ∧ s.steward.kept.fenced = [])
    ∧ ((puts booting [(BOOT_CTRL_NET_EN, 0, 1)]).get BOOT_CTRL_NET_EN 0 = 1 ∧ (puts booting [(BOOT_CTRL_NET_EN, 0, 0)]).get BOOT_CTRL_NET_EN 0 = 0)
    ∧ State.reset.mayRound = false ∧ (withSteward booting (fun w => { w with wait := some 125000 })).steward.wait ≠ none
    ∧ (withSteward booting (fun w => { w with offer := true })).steward.offer = true
    ∧ (withSteward booting (fun w => { w with net := some netBoot })).steward.net = some netBoot
    ∧ (517 = min 1024 (netBoot.length - netBoot.offset) ∧ netBoot.length ≤ netBoot.offset + 1024 ∧ netBoot.tries < 8)
    ∧ ((puts booting [(BOOT_STATUS_STAGE, 0, 2)]).stage = 2 ∧ booting.flag BOOT_CTRL_READY 0 = false
      ∧ (puts booting [(BOOT_STATUS_LAST_SOURCE, 0, 2)]).get BOOT_STATUS_LAST_SOURCE 0 = 2 ∧ booting.get BOOT_STATUS_LAST_SOURCE 0 = 0)
    ∧ ((puts booting [(BOOT_CTRL_READY, 0, 1)]).flag BOOT_CTRL_READY 0 = true ∧ booting.events = [])
    ∧ ((puts booting [(SEC_STATUS_BUSY, 0, 1)]).flag SEC_STATUS_BUSY 0 = true ∧ booting.flag SEC_STATUS_BUSY 0 = false ∧ booting.steward.sec ≤ 3
      ∧ booting.steward.claimed.getLsbD 20 = false ∧ (withSteward booting (fun w => { w with claimed := 0x100000 })).steward.claimed.getLsbD 20 = true)
    ∧ (bootFuses.programmed.getLsbD 2 = false ∧ ({ bootFuses with programmed := 15 } : Fuses).programmed.getLsbD 2 = true
      ∧ bootFuses.revoked.getLsbD 3 = false ∧ ({ bootFuses with revoked := 8 } : Fuses).revoked.getLsbD 3 = true)
    ∧ (bootFuses.min2 < min 255 ((puts booting [(SVN_STATUS_RUN_STAGE2, 0, 4)]).get SVN_STATUS_RUN_STAGE2 0)
      ∧ min 3 ((puts booting [(SVN_STATUS_RUN_STAGE2, 0, 4)]).get SVN_STATUS_RUN_STAGE2 0) ≤ bootFuses.min2) := by
  decide +kernel

/-- The host named, of the Summit; and a pod without Summit or standby. -/
def hosted : State := puts lit [(HOST_CTRL_EN, 0, 1), (HOST_CTRL_HOST_MAC, 0, 77), (HOST_CTRL_WRITE_EN, 0, 1), (HOST_CTRL_NAME_EN, 0, 1)]

def leaderless : State := puts (hosted.setWord .POD_DEAD 0 6) [(POD_TOPO_SUMMIT, 0, 1), (POD_TOPO_STANDBY, 0, 2)]

/-- Cairn 40 of core 3 of die 1. -/
def hostCairnAddr : Word := podAddr 0 1 (0x7000000000000 + 3 * 0x10000 + 40 * 8)

theorem host_places : (locate (addrOf .POD_CFG 0) == .reg .POD_CFG 0) = true ∧ inRegSpace (addrOf .POD_CFG 0) = true
    ∧ inStewardBlocks (addrOf .POD_CFG 0) = false ∧ inRegSpace 0xFFFF = false ∧ inStewardBlocks (addrOf .BOOT_CTRL 0) = true
    ∧ addrOf .POD_CFG 0 % 8 = 0 ∧ outsideList .POD_CFG 0 (hosted.view .POD_CFG 0) = false := by
  decide +kernel

theorem witness_ManagementPortAndPins : (hosted.flag HOST_CTRL_EN 0 = true ∧ (77 : BitVec 48) = BitVec.ofNat 48 (hosted.get HOST_CTRL_HOST_MAC 0)
      ∧ hosted.get POD_TOPO_SUMMIT 0 = hosted.device) ∧ lit.flag HOST_CTRL_EN 0 = false ∧ hosted.flag HOST_CTRL_WRITE_EN 0 = true
    ∧ hosted.hostCairn hostCairnAddr = some (9 + 3, 40) ∧ hosted.hostCairn 0 = none
    ∧ (hosted.steward.xids.find? (fun q => q.1 == 5) = none
      ∧ [((5 : BitVec 32), (⟨77, 0xA3, 0, 5, 0, []⟩ : Frame))].find? (fun q => q.1 == 5) = some (5, ⟨77, 0xA3, 0, 5, 0, []⟩))
    ∧ (leaderless.deviceDead 1 = true ∧ leaderless.deviceDead 2 = true ∧ leaderless.flag HOST_CTRL_NAME_EN 0 = true)
    ∧ lit.steward.linkUp = false ∧ lit.stage = 0 ∧ 1 ≤ (puts lit [(BOOT_STATUS_STAGE, 0, 1)]).stage ∧ lit.powerState ≠ 2 ∧ lit.steward.attest = none
    ∧ (withSteward lit (fun w => { w with attest := some (⟨77, 5⟩, 99) })).steward.attest = some (⟨77, 5⟩, 99)
    ∧ ((lit.hart 3).cmp.toNat ≤ lit.uptime ∧ lit.uptime < ((lit.modHart 3 (fun h => { h with cmp := 1 })).hart 3).cmp.toNat)
    ∧ ((0xE8 : Nat) + 256 * 3 = 1000 ∧ ¬ ((0x11 : Nat) + 256 * 0x0E = 0 ∨ (1000 ≤ 0x11 + 256 * 0x0E ∧ 0x11 + 256 * 0x0E ≤ 3600)))
    ∧ (lit.pins.up = false ∧ lit.pins.ir ≠ .extest ∧ lit.pins.resetLow = false ∧ booting.pins.up = true ∧ (powered 5).powerState = 5) := by
  decide +kernel

/-! ### Values the manual prints -/

/-- The check values of both CRCs (R27). -/
theorem value_crcs : crc32c [0x31, 0x32, 0x33, 0x34, 0x35, 0x36, 0x37, 0x38, 0x39] = 0xE3069283
    ∧ crc64 [0x31, 0x32, 0x33, 0x34, 0x35, 0x36, 0x37, 0x38, 0x39] = 0x6C40DF5F0B497347 := by
  decide +kernel

/-- The worked example of SR: the first draw from 1, and 0x3F80_4000 to BF16 under SR and under RNE (R67). -/
theorem value_stochastic : srStep 1 = 0x00042021 ∧ (FloatFmt.bf16.encode true false 1 (dec32 0x3F804000)).bits = 0x3F81
    ∧ (FloatFmt.bf16.encode false false 1 (dec32 0x3F804000)).bits = 0x3F80 := by
  decide +kernel

/-- The block of the worked example: 5.0 and 0.7 in half 0, 1.3 and -0.4 in half 1. -/
def exampleBlock : List FV := (((List.replicate 32 (FV.fin false 0 0)).set 0 (dec32 0x40A00000)).set 1 (dec32 0x3F333333)).set 16 (dec32 0x3FA66666)
  |>.set 17 (dec32 0xBECCCCCD)

theorem value_blocks : (encodeBlock .fp4ps false false 0 exampleBlock).record = 0x067E
    ∧ ([0, 1, 16, 17].map (fun i => (encodeBlock .fp4ps false false 0 exampleBlock).codes.getD i 0)) = [0x7, 0x2, 0x5, 0xA]
    ∧ (encodeBlock .mxfp4 false false 0 exampleBlock).record = 127
    ∧ ([0, 1, 16, 17].map (fun i => (encodeBlock .mxfp4 false false 0 exampleBlock).codes.getD i 0)) = [0x6, 0x1, 0x3, 0x9] := by
  decide +kernel

/-- The two printed pod addresses (R202). -/
theorem value_podAddrs : podAddr 3 1 (cairnOffset 2 5) = 0x030F000000020028 ∧ podAddr 0 9 0x1234567800 = 0x0048001234567800 := by
  decide +kernel

/-! ### Single steps -/

/-- s1 and s2 hold the largest number and 1. -/
def summed : State := run0.modCore 0 (fun c => (c.setS 1 0xFFFFFFFFFFFFFFFF).setS 2 1)

theorem test_add_wraps : ((after (exec (.add c0 on 3 1 2) summed)).core 0).readS 3 = 0
    ∧ ((after (exec (.add c0 on 0 2 2) summed)).core 0).readS 0 = 0 := by
  decide +kernel

theorem test_compares : ((after (exec (.slt c0 on 1 1 2) summed)).core 0).readS 1 = 1
    ∧ ((after (exec (.sltu c0 on 1 1 2) summed)).core 0).readS 1 = 0 := by
  decide +kernel

theorem test_identity_code : (after (exec .idcode State.reset)).pins.shift = 0x1B960ABD := by decide +kernel

theorem test_step_takes_the_front : (after (step { State.reset with pending := [.idcode, .kick] })).pending = [.kick] := by decide +kernel

end Sys2Proof.Tests
end

/-! ### A step runs the front command (O1)

Six meanings branch before they answer, and each of them has a lemma; every other meaning is `.next` of a state at its head. -/

namespace Sys2Proof.Machine

/-- The queue's front runs with the queue's rest in place of the queue. -/
theorem step_of_pending_cons {s : State} {c : Instr} {rest : List Instr} (h : s.pending = c :: rest) :
    step s = exec c { s with pending := rest } := by
  unfold step
  rw [h]

/-- The cases are whether a record of the unit waits (R418). -/
theorem execEventRecordAppend_next (die : Fin 17) (reporter : Reporter) (s : State) :
    ∃ t, execEventRecordAppend die reporter s = .next t := by
  unfold execEventRecordAppend
  extract_lets unit u
  cases u.events.find? (fun e => e.die == die.val && e.unit == unit.toNat) with
  | none => exact ⟨_, rfl⟩
  | some e => exact ⟨_, rfl⟩

/-- The cases are whether a returned operation has the sequence number (R97), and whether its position is fenced (R424). -/
theorem execPodResultReturn_next (c : CoreRef) (seq : BitVec 32) (s : State) :
    ∃ t, execPodResultReturn c seq s = .next t := by
  unfold execPodResultReturn
  extract_lets k
  cases (s.core k).unacked.find? (fun o => o.seq == some seq.toNat && o.back.isSome) with
  | none => exact ⟨_, rfl⟩
  | some o =>
    dsimp only
    split
    case isTrue => exact ⟨_, rfl⟩
    case isFalse => exact ⟨_, rfl⟩

/-- The cases are whether the bank of the next beat is free (R107). -/
theorem execCoreStoreScrub_next (c : CoreRef) (upsets : List (Fin 32 × Bool)) (s : State) :
    ∃ t, execCoreStoreScrub c upsets s = .next t := by
  unfold execCoreStoreScrub
  dsimp only
  split
  case isTrue => exact ⟨_, rfl⟩
  case isFalse => exact ⟨_, rfl⟩

/-- The cases are a ring that judges no flit, a flit that fails its CRC, one of another kind, and one that is judged (R263,
R286). -/
theorem execIdleFlit_next (site : Fin 16) (plane : Fin 40) (lambda : Fin 16) (flit : BitVec 1024) (s : State) :
    ∃ t, execIdleFlit site plane lambda flit s = .next t := by
  unfold execIdleFlit
  split_ifs with unjudged badCrc otherKind
  · exact ⟨_, rfl⟩
  · exact ⟨_, rfl⟩
  · exact ⟨_, rfl⟩
  · exact ⟨_, rfl⟩

/-- The cases are whether a loop test of the site runs (R278). -/
theorem execLoopTestComplete_next (site : Fin 16) (lit : Bool) (errors : BitVec 32) (delay : BitVec 12) (s : State) :
    ∃ t, execLoopTestComplete site lit errors delay s = .next t := by
  unfold execLoopTestComplete
  dsimp only
  split
  case isTrue => exact ⟨_, rfl⟩
  case isFalse => exact ⟨_, rfl⟩

/-- The cases are whether the home still holds the request (R235). -/
theorem execHomeHoldTimer_next (site : Fin 16) (stream : BitVec 12) (seq : BitVec 32) (s : State) :
    ∃ t, execHomeHoldTimer site stream seq s = .next t := by
  unfold execHomeHoldTimer
  cases (s.heldAt site.val).find? (fun o => o.req.stream == stream && o.req.seq == seq) with
  | none => exact ⟨_, rfl⟩
  | some o => exact ⟨_, rfl⟩

/-- No command faults and none is refused. -/
theorem exec_next (c : Instr) (s : State) : ∃ t, exec c s = .next t := by
  cases c with
  | eventRecordAppend die reporter => exact execEventRecordAppend_next die reporter s
  | podResultReturn c seq => exact execPodResultReturn_next c seq s
  | coreStoreScrub c upsets => exact execCoreStoreScrub_next c upsets s
  | idleFlit site plane lambda flit => exact execIdleFlit_next site plane lambda flit s
  | loopTestComplete site lit errors delay => exact execLoopTestComplete_next site lit errors delay s
  | homeHoldTimer site stream seq => exact execHomeHoldTimer_next site stream seq s
  | _ => exact ⟨_, rfl⟩

/-- Settles O1: `step` looks at the front of the queue, and each of `exec`'s arms answers a next state. -/
theorem stepRunsTheFrontCommand : Obligations.StepRunsTheFrontCommand :=
  ⟨fun _ _ _ h => step_of_pending_cons h, exec_next⟩

end Sys2Proof.Machine

/-! ### All-zero slots and opcode 0 (O7, R124)

Every slot's decoder asks first whether the word is zero; past that test no row of its table has opcode 0. -/

namespace Sys2Proof.Machine

theorem effS_zero (s : State) (k : Nat) : effS 0 s k = .nop := by
  unfold effS
  exact if_pos rfl

theorem effV_zero (s : State) (k : Nat) : effV 0 s k = .nop := by
  unfold effV
  exact if_pos rfl

theorem effM_zero (s : State) (k : Nat) : effM 0 s k = .nop := by
  unfold effM
  exact if_pos rfl

theorem effX_zero (s : State) (k : Nat) : effX 0 s k = .nop := by
  unfold effX
  exact if_pos rfl

section
variable {w : Word} (hw : w ≠ 0) (hop : fld 63 56 w = 0) (s : State) (k : Nat)
include hw hop

/-- Opcode 0 falls in the range of the binary operations, and `aluOf` has none for it. -/
theorem effS_bad_of_opcode_zero : effS w s k = .bad := by
  unfold effS
  dsimp only
  rw [if_neg hw, hop]
  rfl

/-- Opcode 0 is no integer operation, no compare and no row of the table after them. -/
theorem effV_bad_of_opcode_zero : effV w s k = .bad := by
  unfold effV
  dsimp only
  rw [if_neg hw, hop]
  rfl

theorem effM_bad_of_opcode_zero : effM w s k = .bad := by
  unfold effM
  dsimp only
  rw [if_neg hw, hop]
  rfl

theorem effX_bad_of_opcode_zero : effX w s k = .bad := by
  unfold effX
  dsimp only
  rw [if_neg hw, hop]
  rfl

end

/-- A property of each slot's decoder, slot by slot. -/
theorem forall_slotDecoder {P : (Word → State → Nat → SlotEff) → Prop} (hS : P effS) (hV : P effV) (hM : P effM) (hX : P effX) :
    ∀ eff ∈ [effS, effV, effM, effX], P eff :=
  List.forall_mem_cons.2 ⟨hS, List.forall_mem_cons.2 ⟨hV, List.forall_mem_cons.2 ⟨hM, List.forall_mem_singleton.2 hX⟩⟩⟩

/-- Settles O7: the zero word is each decoder's first case, and opcode 0 with another bit set reaches its last. -/
theorem zeroSlotIsNop : Obligations.ZeroSlotIsNop := by
  unfold Obligations.ZeroSlotIsNop
  intro s k
  refine ⟨?zeroWord, ?opcodeZero, rfl, rfl, rfl, rfl⟩
  case zeroWord => exact forall_slotDecoder (effS_zero s k) (effV_zero s k) (effM_zero s k) (effX_zero s k)
  case opcodeZero =>
    intro w hw hop
    have illegal_of_bad {e : SlotEff} (h : e = .bad) : e.illegal = true := congrArg SlotEff.illegal h
    exact forall_slotDecoder (P := fun eff => (eff w s k).illegal = true)
      (illegal_of_bad (effS_bad_of_opcode_zero hw hop s k)) (illegal_of_bad (effV_bad_of_opcode_zero hw hop s k))
      (illegal_of_bad (effM_bad_of_opcode_zero hw hop s k)) (illegal_of_bad (effX_bad_of_opcode_zero hw hop s k))

end Sys2Proof.Machine

/-! ### Reads and writes of a home's memory beside its traffic (O37)

An atomic's operation arrives, and its window moves, before its word is read. Neither changes what the read finds, and neither the
read nor the write changes the stream's history: both commute with `State.withTraffic`. -/

namespace Sys2Proof.Machine

/-- `s` with the messages, line queues, windows, atomic histories and awaited answers of `o`: what reads and writes of a
home's memory neither look at nor change. -/
def State.withTraffic (s o : State) : State :=
  { s with out := o.out, ridge := o.ridge, lines := o.lines, windows := o.windows, history := o.history,
           unitSends := o.unitSends, combined := o.combined }

namespace State

section
variable (s o : State)

/-! What does not see the traffic. The proofs stand in parentheses so that `simp` rewrites by these equations step by step: the
kernel would unfold a chain of them at once too deep. -/

@[simp] theorem word_withTraffic (r : RegName) (i : Nat) : (s.withTraffic o).word r i = s.word r i := (rfl)
@[simp] theorem get_withTraffic (f : Fld) (i : Nat) : (s.withTraffic o).get f i = s.get f i := (rfl)
@[simp] theorem flag_withTraffic (f : Fld) (i : Nat) : (s.withTraffic o).flag f i = s.flag f i := (rfl)
@[simp] theorem core_withTraffic (k : Nat) : (s.withTraffic o).core k = s.core k := (rfl)
@[simp] theorem stack_withTraffic (m : Nat) : (s.withTraffic o).stack m = s.stack m := (rfl)
@[simp] theorem stackSt_withTraffic (m : Nat) : (s.withTraffic o).stackSt m = s.stackSt m := (rfl)
@[simp] theorem uptime_withTraffic : (s.withTraffic o).uptime = s.uptime := (rfl)
@[simp] theorem channelMb_withTraffic : (s.withTraffic o).channelMb = s.channelMb := (rfl)
@[simp] theorem retiredCount_withTraffic (m : Nat) : (s.withTraffic o).retiredCount m = s.retiredCount m := (rfl)
@[simp] theorem capacity_withTraffic (m : Nat) : (s.withTraffic o).capacity m = s.capacity m := (rfl)
@[simp] theorem chanState_withTraffic (m c : Nat) : (s.withTraffic o).chanState m c = s.chanState m c := (rfl)
@[simp] theorem channelOf_withTraffic (m l : Nat) : (s.withTraffic o).channelOf m l = s.channelOf m l := (rfl)
@[simp] theorem lineErr_withTraffic (m l : Nat) : (s.withTraffic o).lineErr m l = s.lineErr m l := (rfl)

/-! Updates that leave it. -/

@[simp] theorem setWord_withTraffic (r : RegName) (i : Nat) (w : Word) :
    (s.withTraffic o).setWord r i w = (s.setWord r i w).withTraffic o := (rfl)
@[simp] theorem put_withTraffic (f : Fld) (i v : Nat) : (s.withTraffic o).put f i v = (s.put f i v).withTraffic o := (rfl)
@[simp] theorem bump_withTraffic (f : Fld) (i n : Nat) : (s.withTraffic o).bump f i n = (s.bump f i n).withTraffic o := (rfl)
@[simp] theorem modCore_withTraffic (k : Nat) (f : Core → Core) :
    (s.withTraffic o).modCore k f = (s.modCore k f).withTraffic o := (rfl)
@[simp] theorem setStack_withTraffic (m : Nat) (v : Mem) :
    (s.withTraffic o).setStack m v = (s.setStack m v).withTraffic o := (rfl)
@[simp] theorem modStack_withTraffic (m : Nat) (f : StackSt → StackSt) :
    (s.withTraffic o).modStack m f = (s.modStack m f).withTraffic o := (rfl)
@[simp] theorem setLineErr_withTraffic (m l : Nat) (e : Option LineErr) :
    (s.withTraffic o).setLineErr m l e = (s.setLineErr m l e).withTraffic o := (rfl)

@[simp] theorem raise_withTraffic (cls code sev die unit outing : Nat) (d0 d1 d2 : Word) :
    (s.withTraffic o).raise cls code sev die unit outing d0 d1 d2
      = (s.raise cls code sev die unit outing d0 d1 d2).withTraffic o := by
  unfold State.raise
  dsimp only
  split <;> rfl

@[simp] theorem lineEvent_withTraffic (code sev m c l symbols : Nat) :
    (s.withTraffic o).lineEvent code sev m c l symbols = (s.lineEvent code sev m c l symbols).withTraffic o := by
  simp only [State.lineEvent, word_withTraffic, raise_withTraffic]

/-! Branches and folds of such updates. -/

@[simp] theorem ite_withTraffic (c : Prop) [Decidable c] (t : State) :
    (if c then s.withTraffic o else t.withTraffic o) = (if c then s else t).withTraffic o := by
  split <;> rfl

theorem ite_pair_withTraffic {α : Type} (c : Prop) [Decidable c] (a b : α) (t : State) :
    (if c then (a, s.withTraffic o) else (b, t.withTraffic o))
      = ((if c then (a, s) else (b, t)).1, (if c then (a, s) else (b, t)).2.withTraffic o) := by
  split <;> rfl

theorem foldl_withTraffic {α : Type} {f : State → α → State} (h : ∀ t a, f (t.withTraffic o) a = (f t a).withTraffic o)
    (l : List α) : l.foldl f (s.withTraffic o) = (l.foldl f s).withTraffic o :=
  List.foldl_hom (fun t : State => t.withTraffic o) h

theorem foldl_pair_withTraffic {α β : Type} {f : β × State → α → β × State}
    (h : ∀ b t a, f (b, t.withTraffic o) a = ((f (b, t) a).1, (f (b, t) a).2.withTraffic o)) (l : List α) (b : β) :
    l.foldl f (b, s.withTraffic o) = ((l.foldl f (b, s)).1, (l.foldl f (b, s)).2.withTraffic o) :=
  List.foldl_hom (fun x : β × State => (x.1, x.2.withTraffic o)) (init := (b, s)) fun x a => h x.1 x.2 a

/-! A core store. -/

@[simp] theorem readWordEcc_withTraffic (k w : Nat) :
    (s.withTraffic o).readWordEcc k w = (s.readWordEcc k w).withTraffic o := by
  unfold State.readWordEcc
  rw [core_withTraffic]
  cases (s.core k).ecc w <;> simp

@[simp] theorem readStore_withTraffic (k a n : Nat) :
    (s.withTraffic o).readStore k a n = (s.readStore k a n).withTraffic o :=
  foldl_withTraffic s o (fun t w => readWordEcc_withTraffic t o k w) _

@[simp] theorem writeWordEcc_withTraffic (k w : Nat) (whole : Bool) :
    (s.withTraffic o).writeWordEcc k w whole = (s.writeWordEcc k w whole).withTraffic o := by
  unfold State.writeWordEcc
  rw [core_withTraffic]
  cases whole
  · cases (s.core k).ecc w <;> simp
  · simp

@[simp] theorem writeStore_withTraffic (k a : Nat) (l : List (Byte × Bool)) :
    (s.withTraffic o).writeStore k a l = (s.writeStore k a l).withTraffic o := by
  unfold State.writeStore
  dsimp only
  rw [foldl_withTraffic s o (fun t w => by rw [writeWordEcc_withTraffic, ite_withTraffic]), modCore_withTraffic]

/-! A stack. -/

@[simp] theorem decodeLine_withTraffic (m l : Nat) :
    (s.withTraffic o).decodeLine m l = ((s.decodeLine m l).1, (s.decodeLine m l).2.withTraffic o) := by
  unfold State.decodeLine
  rw [channelOf_withTraffic, lineErr_withTraffic]
  extract_lets c f r x judge f' r' x' judge'
  have judged (e : List Nat) : judge e = ((judge' e).1, (judge' e).2.withTraffic o) :=
    ite_pair_withTraffic s o _ _ _ { s with free := s.free + 1 }
  rw [chanState_withTraffic]
  split
  · rfl
  · cases s.lineErr m l with
    | none => exact judged _
    | some x =>
      cases x with
      | pattern => rfl
      | symbols e => exact judged _

@[simp] theorem rebuildLine_withTraffic (m l : Nat) :
    (s.withTraffic o).rebuildLine m l = ((s.rebuildLine m l).1.withTraffic o, (s.rebuildLine m l).2) := by
  unfold State.rebuildLine
  rw [decodeLine_withTraffic]
  obtain ⟨d, t⟩ := s.decodeLine m l
  cases d <;> simp

@[simp] theorem remapRow_withTraffic (m c key : Nat) :
    (s.withTraffic o).remapRow m c key = (s.remapRow m c key).withTraffic o := by
  unfold State.remapRow
  rw [chanState_withTraffic, stackSt_withTraffic, foldl_withTraffic s o (fun t l => by
    rw [lineErr_withTraffic, rebuildLine_withTraffic, ite_withTraffic])]
  simp only [word_withTraffic, raise_withTraffic, modStack_withTraffic, put_withTraffic, ite_withTraffic]

@[simp] theorem dropGranules_withTraffic (m : Nat) : (s.withTraffic o).dropGranules m = (s.dropGranules m).withTraffic o :=
  foldl_withTraffic s o (fun t n => by rw [capacity_withTraffic, setWord_withTraffic, ite_withTraffic]) _

@[simp] theorem dropTop_withTraffic (m : Nat) : (s.withTraffic o).dropTop m = (s.dropTop m).withTraffic o := (rfl)

@[simp] theorem showCapacity_withTraffic (m : Nat) : (s.withTraffic o).showCapacity m = (s.showCapacity m).withTraffic o := by
  simp only [State.showCapacity, channelMb_withTraffic, retiredCount_withTraffic, put_withTraffic]

@[simp] theorem retireStart_withTraffic (m c : Nat) :
    (s.withTraffic o).retireStart m c = (s.retireStart m c).withTraffic o := by
  simp only [State.retireStart, get_withTraffic, put_withTraffic, showCapacity_withTraffic, dropTop_withTraffic,
    dropGranules_withTraffic, ite_withTraffic]

@[simp] theorem autoRetire_withTraffic (m c : Nat) : (s.withTraffic o).autoRetire m c = (s.autoRetire m c).withTraffic o := by
  simp only [State.autoRetire, chanState_withTraffic, retiredCount_withTraffic, get_withTraffic, put_withTraffic,
    raise_withTraffic, modStack_withTraffic, retireStart_withTraffic, ite_withTraffic]

@[simp] theorem countCorrected_withTraffic (m l : Nat) (symbols : List Nat) :
    (s.withTraffic o).countCorrected m l symbols = (s.countCorrected m l symbols).withTraffic o := by
  simp only [State.countCorrected, channelOf_withTraffic, stackSt_withTraffic, flag_withTraffic, bump_withTraffic,
    put_withTraffic, modStack_withTraffic, lineEvent_withTraffic, remapRow_withTraffic, ite_withTraffic]

@[simp] theorem countUncorrectable_withTraffic (m l : Nat) :
    (s.withTraffic o).countUncorrectable m l = (s.countUncorrectable m l).withTraffic o := by
  simp only [State.countUncorrectable, channelOf_withTraffic, stackSt_withTraffic, uptime_withTraffic, bump_withTraffic,
    put_withTraffic, modStack_withTraffic, lineEvent_withTraffic, remapRow_withTraffic, autoRetire_withTraffic, ite_withTraffic]

@[simp] theorem readLine_withTraffic (m l : Nat) :
    (s.withTraffic o).readLine m l = ((s.readLine m l).1, (s.readLine m l).2.withTraffic o) := by
  unfold State.readLine
  rw [decodeLine_withTraffic]
  obtain ⟨d, t⟩ := s.decodeLine m l
  cases d <;> simp

@[simp] theorem readStack_withTraffic (m a n : Nat) :
    (s.withTraffic o).readStack m a n = ((s.readStack m a n).1, (s.readStack m a n).2.withTraffic o) := by
  unfold State.readStack
  split
  · rfl
  · dsimp only
    rw [foldl_pair_withTraffic s o fun b t k => by rw [readLine_withTraffic]]

@[simp] theorem writeStack_withTraffic (m a : Nat) (l : List Byte) :
    (s.withTraffic o).writeStack m a l = (s.writeStack m a l).withTraffic o := by
  unfold State.writeStack
  split
  · rfl
  · dsimp only
    rw [foldl_withTraffic s o (fun t k => ?line), stack_withTraffic, setStack_withTraffic]
    case line =>
      rw [readLine_withTraffic]
      obtain ⟨b, u⟩ := t.readLine m k
      cases b <;> simp only [setLineErr_withTraffic, setStack_withTraffic, stack_withTraffic, ite_withTraffic]

/-! A home. -/

@[simp] theorem readHome_withTraffic (w : PodWindow) (n site : Nat) :
    (s.withTraffic o).readHome w n site = ((s.readHome w n site).1, (s.readHome w n site).2.withTraffic o) := by
  cases w with
  | store j a => exact congrArg (Prod.mk _) (readStore_withTraffic s o _ a n)
  | stack m a => exact readStack_withTraffic s o m a n
  | _ => rfl

@[simp] theorem writeHome_withTraffic (w : PodWindow) (site : Nat) (l : List Byte) :
    (s.withTraffic o).writeHome w site l = (s.writeHome w site l).withTraffic o := by
  cases w with
  | store j a => exact writeStore_withTraffic s o _ a _
  | stack m a => exact writeStack_withTraffic s o m a l
  | _ => rfl

end

end State

end Sys2Proof.Machine

/-! ### The registers that reads and writes of a home's memory change

They count what they find, and channels of a stack retire; the module's own number, by which answers find their way, stays. -/

namespace Sys2Proof.Machine

/-- The registers that reads and writes of a home's memory may change. -/
def memoryRegs : List RegName := [.STORE_ECC, .CHAN_STATUS, .ECC_LAST, .STACK_STATUS, .STACK_RETIRED, .GRANULE_OWNER]

/-- From `s` to `t` no other register changes. -/
structure State.SameRegs (s t : State) : Prop where
  word : ∀ q ∉ memoryRegs, ∀ i, t.word q i = s.word q i

namespace State

section
variable {s t u : State}

theorem SameRegs.refl (s : State) : s.SameRegs s := ⟨fun _ _ _ => rfl⟩

theorem SameRegs.trans (h : s.SameRegs t) (g : t.SameRegs u) : s.SameRegs u :=
  ⟨fun q hq i => (g.word q hq i).trans (h.word q hq i)⟩

/-- A step that writes no register. -/
theorem SameRegs.regs (h : s.SameRegs t) (e : u.regs = t.regs) : s.SameRegs u :=
  h.trans ⟨fun q _ i => by unfold State.word; rw [e]⟩

theorem SameRegs.setWord (h : s.SameRegs t) {r : RegName} (hr : r ∈ memoryRegs) (i : Nat) (w : Word) :
    s.SameRegs (t.setWord r i w) :=
  h.trans ⟨fun q hq _ => State.word_setWord_reg t (fun e : q = r => hq (e ▸ hr)) w⟩

theorem SameRegs.put (h : s.SameRegs t) {f : Fld} (hf : f.reg ∈ memoryRegs) (i v : Nat) : s.SameRegs (t.put f i v) :=
  h.setWord hf i _

theorem SameRegs.bump (h : s.SameRegs t) {f : Fld} (hf : f.reg ∈ memoryRegs) (i n : Nat) : s.SameRegs (t.bump f i n) :=
  h.setWord hf i _

theorem SameRegs.raise (h : s.SameRegs t) (cls code sev die unit outing : Nat) (d0 d1 d2 : Word) :
    s.SameRegs (t.raise cls code sev die unit outing d0 d1 d2) := h.regs (State.raise_regs ..)

theorem SameRegs.lineEvent (h : s.SameRegs t) (code sev m c l symbols : Nat) :
    s.SameRegs (t.lineEvent code sev m c l symbols) := h.raise ..

theorem SameRegs.modCore (h : s.SameRegs t) (k : Nat) (f : Core → Core) : s.SameRegs (t.modCore k f) := h.regs rfl

theorem SameRegs.modStack (h : s.SameRegs t) (m : Nat) (f : StackSt → StackSt) : s.SameRegs (t.modStack m f) := h.regs rfl

theorem SameRegs.setStack (h : s.SameRegs t) (m : Nat) (v : Mem) : s.SameRegs (t.setStack m v) := h.regs rfl

theorem SameRegs.setLineErr (h : s.SameRegs t) (m l : Nat) (e : Option LineErr) : s.SameRegs (t.setLineErr m l e) :=
  h.modStack m _

theorem SameRegs.ite {c : Prop} [Decidable c] (h : s.SameRegs t) (g : s.SameRegs u) : s.SameRegs (if c then t else u) := by
  split
  · exact h
  · exact g

theorem SameRegs.foldl {α : Type} {f : State → α → State} (hf : ∀ (t : State) (a : α), t.SameRegs (f t a)) (h : s.SameRegs t)
    (l : List α) : s.SameRegs (l.foldl f t) :=
  List.foldlRecOn l f h fun u hu a _ => hu.trans (hf u a)

theorem SameRegs.foldl_pair {α β : Type} {f : β × State → α → β × State}
    (hf : ∀ (b : β) (t : State) (a : α), t.SameRegs (f (b, t) a).2) (b : β) (h : s.SameRegs t) (l : List α) :
    s.SameRegs (l.foldl f (b, t)).2 :=
  List.foldlRecOn (motive := fun x => s.SameRegs x.2) l f h fun x hx a _ => hx.trans (hf x.1 x.2 a)

/-! A core store. -/

theorem SameRegs.readWordEcc (h : s.SameRegs t) (k w : Nat) : s.SameRegs (t.readWordEcc k w) := by
  unfold State.readWordEcc
  cases (t.core k).ecc w with
  | good => exact h
  | one => exact (h.modCore k _).bump (by decide) _ _
  | bad => exact (h.bump (by decide) _ _).put (by decide) _ _

theorem SameRegs.readStore (h : s.SameRegs t) (k a n : Nat) : s.SameRegs (t.readStore k a n) :=
  SameRegs.foldl (fun t w => (SameRegs.refl t).readWordEcc k w) h _

theorem SameRegs.writeWordEcc (h : s.SameRegs t) (k w : Nat) (whole : Bool) : s.SameRegs (t.writeWordEcc k w whole) := by
  unfold State.writeWordEcc
  refine SameRegs.ite (h.modCore k _) ?_
  cases (t.core k).ecc w with
  | good => exact h
  | one => exact (h.modCore k _).bump (by decide) _ _
  | bad => exact (h.bump (by decide) _ _).put (by decide) _ _

theorem SameRegs.writeStore (h : s.SameRegs t) (k a : Nat) (l : List (Byte × Bool)) : s.SameRegs (t.writeStore k a l) := by
  unfold State.writeStore
  exact SameRegs.modCore (SameRegs.foldl (fun t w => .ite (.refl t) ((SameRegs.refl t).writeWordEcc k w _)) h _) k _

/-! A stack. -/

theorem decodeLine_regs (s : State) (m l : Nat) : (s.decodeLine m l).2.regs = s.regs := by
  unfold State.decodeLine
  extract_lets c f r x judge
  have judged (e : List Nat) : (judge e).2.regs = s.regs := by
    dsimp only [judge]
    split <;> rfl
  split
  · rfl
  · cases s.lineErr m l with
    | none => exact judged _
    | some x =>
      cases x with
      | pattern => rfl
      | symbols e => exact judged _

theorem SameRegs.decodeLine (h : s.SameRegs t) (m l : Nat) : s.SameRegs (t.decodeLine m l).2 := h.regs (decodeLine_regs t m l)

theorem SameRegs.rebuildLine (h : s.SameRegs t) (m l : Nat) : s.SameRegs (t.rebuildLine m l).1 := by
  have hd := h.decodeLine m l
  unfold State.rebuildLine
  generalize t.decodeLine m l = x at hd ⊢
  obtain ⟨d, u⟩ := x
  cases d with
  | good => exact hd.setLineErr m l _
  | corrected e => exact hd.setLineErr m l _
  | wrong x => exact (hd.setStack m _).setLineErr m l _
  | failed => exact hd.setLineErr m l _

theorem SameRegs.remapRow (h : s.SameRegs t) (m c key : Nat) : s.SameRegs (t.remapRow m c key) := by
  unfold State.remapRow
  refine .ite h (.ite (h.raise ..) (SameRegs.put (SameRegs.modStack (SameRegs.foldl (fun t l => ?_) h _) m _) (by decide) _ _))
  exact .ite (.refl t) ((SameRegs.refl t).rebuildLine m l)

theorem SameRegs.dropGranules (h : s.SameRegs t) (m : Nat) : s.SameRegs (t.dropGranules m) :=
  SameRegs.foldl (fun t _ => .ite ((SameRegs.refl t).setWord (by decide) _ _) (.refl t)) h _

theorem SameRegs.dropTop (h : s.SameRegs t) (m : Nat) : s.SameRegs (t.dropTop m) := h.regs rfl

theorem SameRegs.showCapacity (h : s.SameRegs t) (m : Nat) : s.SameRegs (t.showCapacity m) :=
  (h.put (by decide) _ _).put (by decide) _ _

theorem SameRegs.retireStart (h : s.SameRegs t) (m c : Nat) : s.SameRegs (t.retireStart m c) := by
  unfold State.retireStart
  extract_lets marked dropped
  have hd : s.SameRegs dropped := (((h.put (by decide) _ _).showCapacity m).dropTop m).dropGranules m
  exact .ite (hd.put (by decide) _ _)
    ((((hd.put (by decide) _ _).put (by decide) _ _).put (by decide) _ _).put (by decide) _ _)

theorem SameRegs.autoRetire (h : s.SameRegs t) (m c : Nat) : s.SameRegs (t.autoRetire m c) := by
  unfold State.autoRetire
  refine .ite h (.ite ?failed (.ite ?waits (h.retireStart m c)))
  case failed => exact (h.put (by decide) _ _).raise ..
  case waits => exact (h.put (by decide) _ _).modStack m _

theorem SameRegs.countCorrected (h : s.SameRegs t) (m l : Nat) (symbols : List Nat) :
    s.SameRegs (t.countCorrected m l symbols) := by
  unfold State.countCorrected
  extract_lets c i counted last n hist suspects rows k cnt known rows' tracked told
  have hcounted : s.SameRegs counted := h.bump (by decide) _ _
  have hlast : s.SameRegs last := .ite hcounted (((hcounted.put (by decide) _ _).put (by decide) _ _).put (by decide) _ _)
  have htold : s.SameRegs told := .ite (SameRegs.lineEvent (hlast.modStack m _) ..) (hlast.modStack m _)
  exact .ite (htold.remapRow m c k) htold

theorem SameRegs.countUncorrectable (h : s.SameRegs t) (m l : Nat) : s.SameRegs (t.countUncorrectable m l) := by
  unfold State.countUncorrectable
  extract_lets c i counted last told k now rows tracked remapped
  have hcounted : s.SameRegs counted := h.bump (by decide) _ _
  have hlast : s.SameRegs last :=
    (((hcounted.put (by decide) _ _).put (by decide) _ _).put (by decide) _ _).put (by decide) _ _
  have hremapped : s.SameRegs remapped := SameRegs.remapRow (SameRegs.modStack (hlast.lineEvent ..) m _) m c k
  exact .ite (hremapped.autoRetire m c) hremapped

theorem SameRegs.readLine (h : s.SameRegs t) (m l : Nat) : s.SameRegs (t.readLine m l).2 := by
  have hd := h.decodeLine m l
  unfold State.readLine
  generalize t.decodeLine m l = x at hd ⊢
  obtain ⟨d, u⟩ := x
  cases d with
  | good => exact hd
  | corrected e => exact hd.countCorrected m l e
  | wrong x => exact hd
  | failed => exact hd.countUncorrectable m l

theorem SameRegs.readStack (h : s.SameRegs t) (m a n : Nat) : s.SameRegs (t.readStack m a n).2 := by
  unfold State.readStack
  split
  · exact h
  · dsimp only
    refine SameRegs.foldl_pair (fun b u k => ?_) _ h _
    exact (SameRegs.refl u).readLine m k

theorem SameRegs.writeStack (h : s.SameRegs t) (m a : Nat) (l : List Byte) : s.SameRegs (t.writeStack m a l) := by
  unfold State.writeStack
  refine .ite h (SameRegs.setStack (SameRegs.foldl (fun t k => .ite ((SameRegs.refl t).setLineErr m k _) ?merge) h _) m _)
  have hr := (SameRegs.refl t).readLine m k
  generalize t.readLine m k = x at hr ⊢
  obtain ⟨b, u⟩ := x
  cases b with
  | none => exact hr.setLineErr m k _
  | some b => exact (hr.setStack m _).setLineErr m k _

/-! A home. -/

theorem SameRegs.readHome (h : s.SameRegs t) (w : PodWindow) (n site : Nat) : s.SameRegs (t.readHome w n site).2 := by
  cases w with
  | store j a => exact h.readStore _ a n
  | stack m a => exact h.readStack m a n
  | _ => exact h

theorem SameRegs.writeHome (h : s.SameRegs t) (w : PodWindow) (site : Nat) (l : List Byte) :
    s.SameRegs (t.writeHome w site l) := by
  cases w with
  | store j a => exact h.writeStore _ a _
  | stack m a => exact h.writeStack m a l
  | _ => exact h

theorem SameRegs.device (h : s.SameRegs t) : t.device = s.device := by
  unfold State.device State.get
  rw [h.word POD_TOPO_DEVICE.reg (by decide)]

end

/-- From `s` to `t` a home's memory was read or written. -/
structure MemoryStep (s t : State) : Prop where
  traffic : t = t.withTraffic s
  regs : s.SameRegs t

theorem memoryStep_readHome (s : State) (w : PodWindow) (n site : Nat) : s.MemoryStep (s.readHome w n site).2 where
  traffic := congrArg Prod.snd (readHome_withTraffic s s w n site)
  regs := (SameRegs.refl s).readHome w n site

theorem MemoryStep.writeHome {s t : State} (h : s.MemoryStep t) (w : PodWindow) (site : Nat) (l : List Byte) :
    s.MemoryStep (t.writeHome w site l) where
  traffic := by rw [← writeHome_withTraffic, ← h.traffic]
  regs := h.regs.writeHome w site l

end State

end Sys2Proof.Machine

/-! ### Answers, windows and arrival at a home -/

namespace Sys2Proof.Machine

namespace State

/-! Answers to a port (R317). -/

theorem respond_of_answersPort {s : State} {op : HomeOp} (hc : op.completion = false) (h : s.answersPort op.req)
    (st : RespStatus) (code : Nat) (data : List Byte) : s.respond op st code data = s.answer op st code data := by
  obtain ⟨hunits, hgateways⟩ := h
  have noUnit : s.unitSends.find? (fun x => op.req.stream.toNat == s.device * 64 + x.unit && x.seq == op.req.seq) = none := by
    rw [List.find?_eq_none]
    intro x hx
    rw [Bool.and_eq_true, beq_iff_eq, beq_iff_eq]
    exact fun ⟨hstream, hseq⟩ => hunits x hx ⟨hstream, hseq.symm⟩
  have noGateway : s.combined.find? (fun c => op.req.stream.toNat == s.device * 64 + c.unit && c.seq == op.req.seq.toNat) = none := by
    rw [List.find?_eq_none]
    intro c hmem
    rw [Bool.and_eq_true, beq_iff_eq, beq_iff_eq]
    exact fun ⟨hstream, hseq⟩ => hgateways c hmem ⟨hstream, hseq.symm⟩
  unfold State.respond
  simp only [hc, noUnit, noGateway]
  rfl

theorem answered_answer (s : State) (op : HomeOp) (st : RespStatus) (code : Nat) (data : List Byte) :
    (s.answer op st code data).answered op.req st code data :=
  ⟨_, List.mem_append_right _ (List.mem_singleton_self _)⟩

theorem answersPort_congr {s t : State} {r : Req} (hu : t.unitSends = s.unitSends) (hg : t.combined = s.combined)
    (hd : t.device = s.device) (h : s.answersPort r) : t.answersPort r := by
  unfold State.answersPort
  rw [hu, hg, hd]
  exact h

theorem MemoryStep.answersPort {s t : State} (h : s.MemoryStep t) {r : Req} (hp : s.answersPort r) : t.answersPort r := by
  have hunits : t.unitSends = s.unitSends := by rw [h.traffic]; rfl
  have hgateways : t.combined = s.combined := by rw [h.traffic]; rfl
  exact answersPort_congr hunits hgateways h.regs.device hp

/-! Windows (R223). -/

/-- A window's pass moves the window, and for a number too old for it raises a record. -/
theorem windowPass_cases (s : State) (site kind stream : Nat) (seq : BitVec 32) : ∃ v,
    s.windowPass site kind stream seq = (true, { s with windows := v })
    ∨ s.windowPass site kind stream seq = (false, { s with windows := v })
    ∨ ∃ d0 d1 d2, s.windowPass site kind stream seq
        = (false, { s with windows := v }.raise 0x04 1 0 (siteDie site) site 0x3FF d0 d1 d2) := by
  unfold State.windowPass
  extract_lets key w r u
  refine ⟨SMap.set s.windows key (some r.2) none, ?_⟩
  split_ifs
  · exact .inl rfl
  · exact .inr (.inr ⟨_, _, _, rfl⟩)
  · exact .inr (.inl rfl)

theorem windowPass_of_new {s : State} {site kind stream : Nat} {seq : BitVec 32}
    (h : (s.windowPass site kind stream seq).1 = true) :
    ∃ v, s.windowPass site kind stream seq = (true, { s with windows := v }) := by
  obtain ⟨v, hv | hv | ⟨d0, d1, d2, hv⟩⟩ := s.windowPass_cases site kind stream seq
  · exact ⟨v, hv⟩
  · rw [hv] at h; exact nomatch h
  · rw [hv] at h; exact nomatch h

/-- The verdict is the window's alone. -/
theorem windowPass_verdict (s : State) (site kind stream : Nat) (seq : BitVec 32) :
    (s.windowPass site kind stream seq).1 = (Window.judge (SMap.get s.windows (windowKey site kind stream) none) seq).1 := by
  unfold State.windowPass
  extract_lets key w r u
  split_ifs with new
  · exact new.symm
  · exact (Bool.not_eq_true _ ▸ new).symm
  · exact (Bool.not_eq_true _ ▸ new).symm

/-! What a discard leaves. -/

/-- Beside messages, line queues, windows and the records raised, what a home holds stays. -/
structure KeepsHome (s t : State) : Prop where
  cores : t.cores = s.cores
  stackMem : t.stackMem = s.stackMem
  regs : t.regs = s.regs
  history : t.history = s.history
  unitSends : t.unitSends = s.unitSends
  combined : t.combined = s.combined
  events : s.events <+: t.events

theorem KeepsHome.trans {s t u : State} (h : s.KeepsHome t) (g : t.KeepsHome u) : s.KeepsHome u where
  cores := g.cores.trans h.cores
  stackMem := g.stackMem.trans h.stackMem
  regs := g.regs.trans h.regs
  history := g.history.trans h.history
  unitSends := g.unitSends.trans h.unitSends
  combined := g.combined.trans h.combined
  events := h.events.trans g.events

theorem keepsHome_raise (s : State) (cls code sev die unit outing : Nat) (d0 d1 d2 : Word) :
    s.KeepsHome (s.raise cls code sev die unit outing d0 d1 d2) where
  cores := State.raise_cores ..
  stackMem := State.raise_stackMem ..
  regs := State.raise_regs ..
  history := State.raise_history ..
  unitSends := State.raise_unitSends ..
  combined := State.raise_combined ..
  events := State.events_raise s .. ▸ List.prefix_append ..

theorem keepsHome_windows (s : State) (v : SMap (Option Window)) : s.KeepsHome { s with windows := v } :=
  ⟨rfl, rfl, rfl, rfl, rfl, rfl, List.prefix_refl _⟩

theorem keepsHome_answer (s : State) (op : HomeOp) (st : RespStatus) (code : Nat) (data : List Byte) :
    s.KeepsHome (s.answer op st code data) :=
  ⟨rfl, rfl, rfl, rfl, rfl, rfl, List.prefix_refl _⟩

theorem keepsHome_arrived (s : State) (m : Msg) : s.KeepsHome (s.arrived m) :=
  ⟨rfl, rfl, rfl, rfl, rfl, rfl, List.prefix_refl _⟩

theorem keepsHome_joinLine (s : State) (a : Word) : s.KeepsHome (s.joinLine a) :=
  ⟨rfl, rfl, rfl, rfl, rfl, rfl, List.prefix_refl _⟩

theorem keepsHome_windowPass (s : State) (site kind stream : Nat) (seq : BitVec 32) :
    s.KeepsHome (s.windowPass site kind stream seq).2 := by
  obtain ⟨v, h | h | ⟨d0, d1, d2, h⟩⟩ := s.windowPass_cases site kind stream seq
  · rw [h]
    exact s.keepsHome_windows v
  · rw [h]
    exact s.keepsHome_windows v
  · rw [h]
    dsimp only
    exact (s.keepsHome_windows v).trans (keepsHome_raise ..)

theorem KeepsHome.answersPort {s t : State} (h : s.KeepsHome t) {r : Req} (hp : s.answersPort r) : t.answersPort r :=
  answersPort_congr h.unitSends h.combined (by unfold State.device State.get State.word; rw [h.regs]) hp

/-! Arrival (R213). -/

/-- An operation that a core store serves at once is performed when it arrives. -/
theorem homeArrive_of_servesStore {s : State} {op : HomeOp} {k o : Nat} (h : s.servesStore op k o) :
    s.homeArrive op = s.perform op := by
  obtain ⟨⟨-, hshed, hrung, hstop⟩, hsite, ⟨j, hw, hk, hg⟩, hcore, hr, hb, -⟩ := h
  have target : s.targetCore op.req.address = some j := by unfold State.targetCore; rw [hw]
  have inStore : s.targetStore op.req.address = true := by unfold State.targetStore; rw [hw]
  have noWait : ((beatBanks o op.size).filter fun b => !(s.core k).bankFree b) = [] := by
    rw [List.filter_eq_nil_iff]
    intro b hm
    simpa using List.all_eq_true.1 hb b hm
  have served : s.serve op = s.perform op := by
    unfold State.serve
    simp only [hr, hsite, inStore, hw, and_self, if_true]
    unfold State.throughBeats
    simp only [hk, noWait, List.isEmpty_nil, if_true]
  unfold State.homeArrive
  simp only [hshed, hrung, hstop, target, hg, hk, if_false, Bool.false_eq_true, served]
  exact if_neg (by omega)

/-- An operation on a stack that is no chunk of a copy joins its line's queue and is performed. -/
theorem homeArrive_of_stack {s : State} {op : HomeOp} {m o : Nat}
    (hw : s.windowOf (podSite op.req.address) (podOffset op.req.address) = .stack m o) (ha : s.atWork op)
    (hr : s.homeRefusal op = none) (hc : op.isChunk = false) :
    s.homeArrive op = (s.joinLine op.req.address).perform op := by
  obtain ⟨-, hshed, hrung, hstop⟩ := ha
  have target : s.targetCore op.req.address = none := by unfold State.targetCore; rw [hw]
  have notStore : s.targetStore op.req.address = false := by unfold State.targetStore; rw [hw]
  have joined : (s.joinLine op.req.address).windowOf (podSite op.req.address) (podOffset op.req.address) = .stack m o := hw
  have served : s.serve op = (s.joinLine op.req.address).perform op := by
    unfold State.serve
    simp only [hr, notStore, hc, joined, and_false, false_and, if_false, Bool.false_eq_true]
  unfold State.homeArrive
  simp only [hshed, hrung, hstop, target, if_false, Bool.false_eq_true, served]

theorem site_of_windowOf_stack {s : State} {site off m o : Nat} (h : s.windowOf site off = .stack m o) : 4 ≤ site ∧ site < 12 := by
  unfold State.windowOf at h
  split_ifs at h
  omega

/-- A request that is no message, for a home of this module, arrives at that home. -/
theorem receive_of_home {s : State} {opc : Opc} {completion : Bool} {r : Req} (hd : podDevice r.address = s.device)
    (hs : podSite r.address ≠ 13) (ho : opc ≠ .msg) :
    s.receive opc completion r = (s.arrived (.request ⟨opc, completion, r⟩)).homeArrive ⟨opc, completion, r⟩ := by
  have parts : HomeOp.parts ⟨opc, completion, r⟩ = [⟨opc, completion, r⟩] := if_neg fun h => ho h.1
  unfold State.receive
  simp only [hd, hs, parts, ne_eq, not_true_eq_false, false_and, or_self, if_false, List.foldl_cons, List.foldl_nil]

end State

end Sys2Proof.Machine

/-! ### Atomics, new and repeated (O37, R225) -/

namespace Sys2Proof.Machine

namespace State

/-- The latest 64 atomics of the stream of `r` at its home. -/
def past (s : State) (r : Req) : List (BitVec 32 × Word) := SMap.get s.history (historyKey (podSite r.address) r.stream.toNat) []

theorem KeepsHome.past {s t : State} (h : s.KeepsHome t) (r : Req) : t.past r = s.past r := by
  unfold State.past
  rw [h.history]

theorem MemoryStep.past {s t : State} (h : s.MemoryStep t) (r : Req) : t.past r = s.past r := by
  rw [h.traffic]
  rfl

theorem past_remember (s : State) (op : HomeOp) (old : Word) :
    (s.remember op (podSite op.req.address) old).past op.req = ((op.req.seq, old) :: s.past op.req).take 64 := by
  simp only [State.past, State.remember, SMap.get_set_same]

/-! The operation at its home. -/

theorem performAtomic_of_discard {s : State} {op : HomeOp} {site : Nat}
    (h : (s.windowPass site 0 op.req.stream.toNat op.req.seq).1 = false) (w : PodWindow) :
    s.performAtomic op w site = (s.windowPass site 0 op.req.stream.toNat op.req.seq).2.replayAtomic op site := by
  unfold State.performAtomic
  simp only [h, Bool.not_false, if_true]

/-- A new one steps the home's memory, is remembered with its old word, and answers it. -/
theorem performAtomic_of_new {s u : State} {op : HomeOp} {w : PodWindow} {site : Nat} {b : List Byte}
    (h : s.windowPass site 0 op.req.stream.toNat op.req.seq = (true, u)) (hd : op.req.data = [])
    (hb : allBytes (u.readHome w 8 site).1 = some b) :
    ∃ q, u.MemoryStep q
      ∧ s.performAtomic op w site = (q.remember op site (BitVec.ofNat 64 (leNat b))).respond op .done 0 b := by
  refine ⟨_, (u.memoryStep_readHome w 8 site).writeHome w site
    (toLE 8 (atomicNew op.req.aop.toNat (BitVec.ofNat 64 (leNat b)) op.req.operand op.req.compare).toNat), ?_⟩
  unfold State.performAtomic
  simp only [h, hd, hb, Bool.not_true, Bool.false_eq_true, if_false, List.length_nil, show ¬ (0 = 64) by decide]

theorem replayAtomic_of_remembered {s : State} {op : HomeOp} {x : BitVec 32 × Word} (hc : op.completion = false)
    (hp : s.answersPort op.req) (h : (s.past op.req).find? (fun x => x.1 == op.req.seq) = some x) :
    s.replayAtomic op (podSite op.req.address) = s.answer op .done 0 (toLE 8 x.2.toNat) := by
  unfold State.past at h
  unfold State.replayAtomic
  rw [h]
  exact respond_of_answersPort hc hp ..

theorem replayAtomic_of_forgotten {s : State} {op : HomeOp} (hc : op.completion = false) (hp : s.answersPort op.req)
    (h : (s.past op.req).find? (fun x => x.1 == op.req.seq) = none) :
    s.replayAtomic op (podSite op.req.address)
      = (s.raise 0x04 2 2 (siteDie (podSite op.req.address)) (podSite op.req.address) op.req.outing.toNat
          (op.req.stream.zeroExtend 64) (op.req.seq.zeroExtend 64) op.req.address).answer op .done 0
          (toLE 8 0xDEADDEADDEADDEAD) := by
  unfold State.past at h
  unfold State.replayAtomic
  rw [h]
  exact respond_of_answersPort hc ((keepsHome_raise ..).answersPort hp) ..

/-- A home of this module, a core store or a stack, has the atomic `r` to perform, and its answer goes to a port. -/
def servesAtomic (s : State) (r : Req) (k o m : Nat) : Prop :=
  s.servesStore ⟨.atomic, false, r⟩ k o
    ∨ (s.windowOf (podSite r.address) (podOffset r.address) = .stack m o ∧ s.atWork ⟨.atomic, false, r⟩
        ∧ s.homeRefusal ⟨.atomic, false, r⟩ = none ∧ s.answersPort r)

theorem servesAtomic.answersPort {s : State} {r : Req} {k o m : Nat} (h : s.servesAtomic r k o m) : s.answersPort r := by
  obtain ⟨-, -, -, -, -, -, hp⟩ | ⟨-, -, -, hp⟩ := h
  · exact hp
  · exact hp

end State

/-! The command. -/

section
open State

variable {r : Req} {k o m : Nat} {s : State}

theorem exec_atomic_of_home (hd : podDevice r.address = s.device) (hs : podSite r.address ≠ 13) :
    exec (.atomic r) s = .next ((s.arrived (.request ⟨.atomic, false, r⟩)).homeArrive ⟨.atomic, false, r⟩) :=
  congrArg Host.Outcome.next (receive_of_home hd hs (by decide))

/-- The arrival changes messages and line queues alone, and then the atomic is performed. -/
theorem exec_atomic_of_serves (h : s.servesAtomic r k o m) :
    ∃ t, exec (.atomic r) s = .next (t.performAtomic ⟨.atomic, false, r⟩
          (s.windowOf (podSite r.address) (podOffset r.address)) (podSite r.address))
      ∧ t = s.withTraffic t ∧ t.windows = s.windows ∧ s.KeepsHome t := by
  obtain hstore | ⟨hw, ha, hr, -⟩ := h
  · refine ⟨s.arrived (.request ⟨.atomic, false, r⟩), ?_, rfl, rfl, keepsHome_arrived ..⟩
    obtain ⟨⟨hd, -⟩, hs, -⟩ := id hstore
    have arrives : (s.arrived (.request ⟨.atomic, false, r⟩)).servesStore ⟨.atomic, false, r⟩ k o := hstore
    have noSpur : podSite r.address ≠ 13 := by dsimp only at hs; omega
    rw [exec_atomic_of_home hd noSpur, homeArrive_of_servesStore arrives]
    rfl
  · refine ⟨(s.arrived (.request ⟨.atomic, false, r⟩)).joinLine r.address, ?_, rfl, rfl,
      (keepsHome_arrived ..).trans (keepsHome_joinLine ..)⟩
    have hs := site_of_windowOf_stack hw
    have noSpur : podSite r.address ≠ 13 := by omega
    have arrives : (s.arrived (.request ⟨.atomic, false, r⟩)).atWork ⟨.atomic, false, r⟩ := ha
    rw [exec_atomic_of_home ha.1 noSpur, homeArrive_of_stack (m := m) (o := o) hw arrives hr rfl]
    rfl

/-- A discarded atomic comes to its replay, before which the home keeps what it holds. -/
theorem exec_atomic_of_discard (h : s.servesAtomic r k o m)
    (hd : (s.windowPass (podSite r.address) 0 r.stream.toNat r.seq).1 = false) :
    ∃ u, exec (.atomic r) s = .next (u.replayAtomic ⟨.atomic, false, r⟩ (podSite r.address)) ∧ s.KeepsHome u := by
  obtain ⟨t, he, -, hw, ht⟩ := exec_atomic_of_serves h
  refine ⟨(t.windowPass (podSite r.address) 0 r.stream.toNat r.seq).2, ?_, ht.trans (keepsHome_windowPass ..)⟩
  rw [windowPass_verdict, ← hw, ← windowPass_verdict] at hd
  rw [he, performAtomic_of_discard hd]

theorem exec_atomic_of_remembered (h : s.servesAtomic r k o m)
    (hd : (s.windowPass (podSite r.address) 0 r.stream.toNat r.seq).1 = false) {x : BitVec 32 × Word}
    (hx : (s.past r).find? (fun x => x.1 == r.seq) = some x) :
    ∃ t, exec (.atomic r) s = .next t ∧ t.answered r .done 0 (toLE 8 x.2.toNat) ∧ s.KeepsHome t := by
  obtain ⟨u, he, hu⟩ := exec_atomic_of_discard h hd
  rw [← hu.past] at hx
  refine ⟨_, he, ?_⟩
  rw [replayAtomic_of_remembered rfl (hu.answersPort h.answersPort) hx]
  exact ⟨answered_answer .., hu.trans (keepsHome_answer ..)⟩

theorem exec_atomic_of_forgotten (h : s.servesAtomic r k o m)
    (hd : (s.windowPass (podSite r.address) 0 r.stream.toNat r.seq).1 = false)
    (hx : (s.past r).find? (fun x => x.1 == r.seq) = none) :
    ∃ t, exec (.atomic r) s = .next t ∧ t.answered r .done 0 (toLE 8 0xDEADDEADDEADDEAD) ∧ s.KeepsHome t
      ∧ ∃ e ∈ t.events.drop s.events.length,
          e.cls = 4 ∧ e.code = 2 ∧ e.d0 = r.stream.zeroExtend 64 ∧ e.d1 = r.seq.zeroExtend 64 := by
  obtain ⟨u, he, hu⟩ := exec_atomic_of_discard h hd
  rw [← hu.past] at hx
  refine ⟨_, he, ?_⟩
  rw [replayAtomic_of_forgotten rfl (hu.answersPort h.answersPort) hx]
  refine ⟨answered_answer .., (hu.trans (keepsHome_raise ..)).trans (keepsHome_answer ..), ?_⟩
  obtain ⟨l, hl⟩ := hu.events
  rw [State.answer, State.send_events, State.events_raise, ← hl, List.append_assoc, List.drop_left]
  exact ⟨_, List.mem_append_right _ (List.mem_singleton_self _), rfl, rfl, rfl, rfl⟩

theorem exec_atomic_of_new (h : s.servesAtomic r k o m) {b : List Byte}
    (hn : (s.windowPass (podSite r.address) 0 r.stream.toNat r.seq).1 = true) (hdata : r.data = [])
    (hb : allBytes (s.readHome (s.windowOf (podSite r.address) (podOffset r.address)) 8 (podSite r.address)).1 = some b) :
    ∃ t, exec (.atomic r) s = .next t ∧ t.answered r .done 0 b
      ∧ t.past r = ((r.seq, BitVec.ofNat 64 (leNat b)) :: s.past r).take 64 := by
  obtain ⟨t, he, ht, hw, hkeep⟩ := exec_atomic_of_serves h
  rw [windowPass_verdict, ← hw, ← windowPass_verdict] at hn
  obtain ⟨v, hv⟩ := windowPass_of_new hn
  have hu := hkeep.trans (t.keepsHome_windows v)
  have passed : ({ t with windows := v } : State) = s.withTraffic { t with windows := v } := by
    conv_lhs => rw [ht]
    rfl
  have read : allBytes (({ t with windows := v } : State).readHome (s.windowOf (podSite r.address) (podOffset r.address)) 8
      (podSite r.address)).1 = some b := by
    rw [passed, readHome_withTraffic]
    exact hb
  obtain ⟨q, hq, performed⟩ := performAtomic_of_new (op := ⟨.atomic, false, r⟩) hv hdata read
  have hp : (q.remember ⟨.atomic, false, r⟩ (podSite r.address) (BitVec.ofNat 64 (leNat b))).answersPort r :=
    hq.answersPort (hu.answersPort h.answersPort)
  rw [performed, respond_of_answersPort rfl hp] at he
  refine ⟨_, he, answered_answer .., ?_⟩
  rw [← hu.past, ← hq.past]
  exact past_remember q ⟨.atomic, false, r⟩ _

end

/-- Settles O37: a discard keeps what the home holds up to its replay, which answers from the history; a new atomic finds the bytes
that the home held when it came, and its read and write leave the history to which it is then added. -/
theorem discardedAtomics : Obligations.DiscardedAtomics := by
  unfold Obligations.DiscardedAtomics
  intro r k o m s op site w past original new h
  refine ⟨fun x hd hx => ?remembered, fun hd hx => ?forgotten, fun b hn hdata hb => ?new⟩
  case remembered =>
    obtain ⟨t, he, ha, hk⟩ := exec_atomic_of_remembered h hd hx
    exact ⟨t, he, ha, hk.cores, hk.stackMem, hk.past r⟩
  case forgotten =>
    obtain ⟨t, he, ha, hk, hevent⟩ := exec_atomic_of_forgotten h hd hx
    exact ⟨t, he, ha, hk.cores, hk.stackMem, hk.past r, hevent⟩
  case new => exact exec_atomic_of_new h hn hdata hb

end Sys2Proof.Machine
